-- ==== Sys2Proof/Word.lean ====
section
/-! DEFINITION. The word types of the block: a byte, a 32-bit register word (00_scope.md R4, R5), and the small closed
sets that operands and state share. -/

namespace Sys2Proof

/-- One byte. -/
abbrev Byte := BitVec 8

/-- A 32-bit register (00_scope.md, "Registers and access codes"). -/
abbrev Word := BitVec 32

/-- The two ordering codes: LMH24-8K-AQ and LMH24-4K-AQ (R1, R2). -/
inductive Part where
  | k8
  | k4
  deriving DecidableEq, Repr

/-- The two PCI Express host ports (R26). -/
inductive Side where
  | h0
  | h1
  deriving DecidableEq, Repr

/-- The two control pairs (R14). -/
inductive PairId where
  | a
  | b
  deriving DecidableEq, Repr

end Sys2Proof
end

