-- ==== Sys2Proof/Syntax.lean ====
section
/-! DEFINITION. The commands: one constructor per row of spec/opcode_table.json, with the row's operands. An operand
carries what comes to the block from outside with the command: the port, page or register a host names, the value it
writes, a received word, a measured stamp, a result of a far unit. `dt` is the count of core cycles that pass before
the command acts; `id` is the number of a command the active pair has taken (Machine/BlocksCtl.lean, `Cmd.id`).
The rows whose operands come from outside stand first, then the mailbox commands, then the rows without operands. -/

namespace Sys2Proof

/-- Where a host access lands: the BAR0 window, the BAR2 window (offset from its start), the MSI-X table of the function, or the AER
capability of its configuration space. -/
inductive Space where
  | bar0
  | bar2
  | msix
  | aer
  deriving DecidableEq, Repr

/-- An internal request of the active pair (R305). -/
inductive CpReq where
  | tick
  | doorbell
  deriving DecidableEq, Repr

/-- Where a cluster node reads a word that turns out in error (R269): an input, its state, its table entry, a gathered sample. -/
inductive MemUse where
  | inputA
  | inputB
  | inputC
  | state
  | table
  | sample
  deriving DecidableEq, Repr

/-- One word in error: what it is read for and which element, its memory and word number, and its bits in error (R24). -/
structure MemErr where
  use  : MemUse
  elem : Nat
  mem  : Nat
  word : Nat
  errs : Nat
  deriving DecidableEq, Repr

/-- Through which window a host reaches an event queue or a source: BAR0, or the page of an instance (R308). -/
inductive Via where
  | manager
  | page (inst : Nat)
  deriving DecidableEq, Repr

/-- One endpoint of a device, from its descriptor (R144). TYPE as in the context: 1 periodic-sampled, 2 periodic-assured,
3 bulk. -/
structure EpDesc where
  num   : Nat
  dirIn : Bool
  typ   : Nat
  words : Nat
  minK  : Nat
  hist  : Nat
  fmt   : Nat
  deriving DecidableEq, Repr

/-- A dual-homed device as a MIRROR message tells it (R355): its address, its link on the sender's side (root port, hub address and hub
port), of a dual-homed hub's two upstream ports the receiver's, `up`, the sender's root port, that link's own one-way delay in 1/64 wt and
TURN, and its descriptors. (DESIGN CHOICE, log entry 159.) -/
structure MirrorDev where
  addr   : Nat
  port   : Nat
  hport  : Nat
  hub    : Nat
  up     : Nat
  pport  : Nat
  delay  : Nat
  turn   : Nat
  isHub  : Bool
  dual   : Bool
  cls    : Nat
  fwd    : Nat
  ports  : Nat
  ganged : Bool
  power  : Nat
  eps    : List EpDesc
  deriving DecidableEq, Repr

/-- The instructions of the test access port (R404). -/
inductive JtagInstr where
  | bypass | samplePreload | extest | idcode | clamp | highz
  deriving DecidableEq, Repr

/-- One item of a MIRROR message (R355): a device or its removal, a grant or its release, a context's STATE, or the toggles of
the previous tick. A key is device address * 16 + endpoint. `via` heads a message that goes round the ring (R347): the Saddle link it is on
and the number of the controller that originated it. (DESIGN CHOICE, log entry 272.) -/
inductive MirrorItem where
  | device (d : MirrorDev)
  | remove (addr : Nat)
  | grant (key k phase words : Nat) (system : Bool)
  | release (key : Nat)
  | state (key st : Nat)
  | toggles (l : List (Nat × Nat))
  | via (link origin : Nat)
  deriving DecidableEq, Repr

/-- The partner's refusal of an intent (R354): refusal code, bottleneck, alternatives. -/
structure PartnerRefusal where
  code     : Nat
  bwhat    : Nat
  blink    : Nat
  bport    : Nat
  baddr    : Nat
  altK     : Nat
  altWords : Nat
  deriving DecidableEq, Repr

/-- What a message on SNS carries beside its objects (R314, R315): the 16 bits of HEADER, and CHECK. -/
structure SnsHead where
  bits  : Nat
  check : Nat
  deriving DecidableEq, Repr

/-- (DESIGN CHOICE, log entry 212.) -/
inductive Instr where
  /-- IMAGE_SELECT (R49). The boot ROM selects, verifies and loads a firmware image into both pairs, or enters recovery mode. -/
  | imageSelect (okA okB : Bool)
  /-- FW_RUNNING (R47). The active pair applies the configuration store, opens BAR0 and sets GLB_STATUS.FW_RUNNING. -/
  | fwRunning (elapsed : Nat)
  /-- STANDBY_READY_CHECK (R47). The standby pair completes its checks and GLB_STATUS.STANDBY_READY becomes 1. -/
  | standbyReadyCheck (ok : Bool)
  /-- REGISTER_WRITE (R7). A host write to a register field that has no row of its own stores or is ignored according to its access code. -/
  | registerWrite (port : Side) (space : Space) (off be val : Nat)
  /-- READ_CLEAR (R7). A read of an RC field returns its value and clears it, resolving any simultaneous increment under R8. -/
  | readClear (port : Side) (space : Space) (off size : Nat)
  /-- GLB_RESET_WRITE (R30). A write to GLB_RESET with WARM set and the correct KEY requests a warm reset at the next tick; otherwise it has no effect. -/
  | glbResetWrite (port : Side) (val : Nat)
  /-- SCRUBBER_READ (R25). The background scrubber reads a protected SRAM word in an idle memory cycle and writes back a correction. -/
  | scrubberRead (mem word errs : Nat)
  /-- MBX_DOORBELL_WRITE (R35). Writing a bit of MBX_DOORBELL hands the slot to the firmware by setting MBX_OWNER and clearing MBX_DONE. -/
  | mbxDoorbellWrite (port : Side) (mbx val : Nat)
  /-- PENDING_OUTCOME (R39). The final outcome of a PENDING command is reported by an event record carrying its TAG and kept for SYS_QUERY_PENDING. -/
  | pendingOutcome (id : Nat) (ok : Bool) (code : Nat) (data : List Byte)
  /-- LOCKSTEP_MISMATCH (R53). A lockstep mismatch in a control pair is a pair fault that halts the pair, writes a Cairn record and raises PAIR_FAULT. -/
  | lockstepMismatch (pair : PairId)
  /-- PAIR_WATCHDOG_EXPIRY (R53). The pair watchdog expiring after 16 frames without restart is a pair fault. -/
  | pairWatchdogExpiry (pair : PairId)
  /-- FAULTED_PAIR_SELFTEST (R55). The reloaded faulted pair finishes its self-test and becomes standby, or stays halted. -/
  | faultedPairSelftest (pass : Bool)
  /-- FRAME_TICK (R65). The first core cycle with SYSTIME at or beyond a frame boundary begins a frame and drives all periodic work. -/
  | frameTick (mainsLate : Bool) (sense : List (Nat × Nat × Nat × Nat))
  /-- COL_START (R68). The closing guard interval of a frame begins, carrying recalibration, receiver detects and slews. -/
  | colStart (term : Nat)
  /-- PPS_EDGE (R79). A PPS_IN edge of the configured polarity is stamped and its phase error judged by the discipline loop. -/
  | ppsEdge (dt : Nat) (falling : Bool)
  /-- HOLDOVER_ENTRY (R80). The loop enters HOLDOVER 1.1 s after its start instant without an accepted edge and raises PPS_HOLDOVER. -/
  | holdoverEntry (dt : Nat)
  /-- RTC_CALIBRATION (R84). After 32,768 RTC periods the time unit filters a new measurement into TIM_RTC_PERIOD. -/
  | rtcCalibration (dt rtc : Nat)
  /-- RUNNING_SNAPSHOT (R84). At every 32,768th RTC edge the time unit refreshes the running time snapshot in Tarn. -/
  | runningSnapshot (dt rtc : Nat)
  /-- SLEEP_SNAPSHOT (R84). At the first RTC edge after sleep entry takes effect the time unit takes the sleep snapshot. -/
  | sleepSnapshot (dt rtc : Nat)
  /-- TIME_RECONSTRUCTION (R86). At an RTC edge after wake or cold reset SYSTIME, FRAME_NO and uncertainty are reconstructed from the snapshot. -/
  | timeReconstruction (rtc : Nat)
  /-- SYSTIME_LATCH_READ (R72). A read of TIM_SYSTIME_SEC latches NS and FRAME_NO from the same core cycle. -/
  | systimeLatchRead (port : Side) (dt : Nat)
  /-- TS1 (R102). A received TS1 word advances POLL and EQ, including preset exchange, polarity inversion and EQ_DONE. -/
  | ts1 (p body : Nat) (adapted inverted : Bool)
  /-- TS2 (R101). A received TS2 word advances CONFIG, carrying HUB, DUAL and LINK_VER. -/
  | ts2 (p body : Nat)
  /-- PING_SEND (R104). In DELAY the DFP sends a PING every 64 wt with SEQ 0 to 63. -/
  | pingSend (p stamp : Nat)
  /-- ECHO (R104). An ECHO from the UFP is stamped at arrival. -/
  | lnkEcho (p body stamp : Nat)
  /-- TURN (R104). A TURN word reports the UFP's turnaround for one exchange. -/
  | lnkTurn (p body : Nat)
  /-- TRAINING_TIMEOUT (R101). A training stage window expires and training fails with its code. -/
  | trainingTimeout (p : Nat)
  /-- DETECT_WAIT_END (R103). The back-off wait after a failed training ends in DETECT. -/
  | detectWaitEnd (p : Nat)
  /-- WORD_LOCK_GAIN (R96). A receiver gains word lock after 64 consecutive valid words. -/
  | wordLockGain (p : Nat)
  /-- WORD_LOCK_LOSS (R96). 16 failing words in 64 lose word lock, and a port in L0 enters RECOVERY. -/
  | wordLockLoss (p : Nat)
  /-- WORD_ERROR (R96). A received line word failing HEADER or CHECK is counted and treated as not received. -/
  | wordError (p word : Nat)
  /-- IDLE (R97). The body of a received IDLE word is compared with the descrambler mask and mismatches counted. -/
  | lnkIdle (p body : Nat)
  /-- UNKNOWN_CONTROL_WORD (R97). A control word with an unassigned code is discarded and counted in LNK_ERR.UNKNOWN. -/
  | unknownControlWord (p code : Nat)
  /-- UMARK (R97). A received UMARK restarts the upstream descrambler for the frame. -/
  | lnkUmark (p body : Nat)
  /-- RECOVERY_COMPLETE (R109). RECOVERY restores word lock through POLL and CONFIG and the link returns to L0 at the next tick, raising RECOVERY. -/
  | recoveryComplete (p : Nat)
  /-- RECOVERY_TIMEOUT (R109). RECOVERY not complete within 3,200 wt sends the link to DETECT for full training. -/
  | recoveryTimeout (p : Nat)
  /-- PM (R108). A PM answer to an L1 or L2 request is received and, after an ACK, entry is scheduled. -/
  | pm (p body : Nat)
  /-- PM_ANSWER_TIMEOUT (R108). No PM answer within 256 wt counts as NAK. -/
  | pmAnswerTimeout (p : Nat)
  /-- BEACON (R151). A beacon received in L1 or L2 raises WAKE and resumes the link if AUTO_RESUME is 1. -/
  | lnkBeacon (p : Nat)
  /-- LOW_POWER_DETECT (R110). Every 256 frames a link in L1 or L2 runs receiver detect in Col. -/
  | lowPowerDetect (p : Nat) (found : Bool)
  /-- RECAL_DUE (R112). A DELAY or RX recalibration interval expires and the slot is scheduled. -/
  | recalDue (p kind : Nat)
  /-- RECAL_SLOT_COMPLETE (R113). A DELAY slot's measurement is accepted into MEASURED or rejected, raising DELAY_STEP on a confirmed step. -/
  | recalSlotComplete (p : Nat)
  /-- LNK_RETRAIN_WRITE (R115). Writing 1 to LNK_CTRL.RETRAIN forces RECOVERY at the next tick. -/
  | lnkRetrainWrite (port : Side) (p val : Nat)
  /-- PERIODIC_LAUNCH (R219). A periodic transaction of the plan is launched at its earliest permitted word time. -/
  | periodicLaunch (p errs word : Nat)
  /-- BULK_LAUNCH (R226). A control or bulk transaction is launched in the bulk region. -/
  | bulkLaunch (p errs word : Nat)
  /-- HIST_LAUNCH (R224). A HIST attempt for history recovery or catch-up is launched in the bulk region. -/
  | histLaunch (p : Nat)
  /-- BUS_COMMAND_LAUNCH (R265). A queued broadcast command is launched, deferred to the next frame or dropped. -/
  | busCommandLaunch (p : Nat) (fits : Bool)
  /-- PACKET_RECEIVE (R221). A data packet from a device is judged good or damaged and its transaction outcome decided. -/
  | packetReceive (p addr sop : Nat) (words : List Nat) (bad ended abort : Bool)
  /-- HSK (R122). An upstream handshake is matched to its transaction and its code applied. -/
  | handshake (p addr body : Nat)
  /-- RESPONSE_WINDOW_CLOSE (R126). The response window closes without an answer and the transaction has no response. -/
  | responseWindowClose (p addr : Nat)
  /-- CONTROL_DEADLINE (R131). A control transfer's 5 ms or 50 ms status deadline expires. -/
  | controlDeadline (p addr : Nat)
  /-- ENUMERATION_START (R146). A device reaching L0 starts enumeration with the tier, limit, STROBE and NO_RESOURCE checks. -/
  | enumerationStart (p : Nat)
  /-- ENUMERATION_REQUEST_COMPLETE (R146). A control request of enumeration completes and the next request of the procedure is issued. -/
  | enumerationRequestComplete (p : Nat)
  /-- BUS_RESET_IDLE_END (R148). The 1,600 wt electrical idle of a bus reset ends and the DFP trains from DETECT. -/
  | busResetIdleEnd (p : Nat)
  /-- DM_SOF (R100). In device mode an SOF is accepted and fixes the strobe of the frame. -/
  | dmSof (dt : Nat) (bodies : List Nat)
  /-- DM_STROBE (R77). In device mode the port takes its sample at the strobe and captures its SYSTIME. -/
  | dmStrobe (dt : Nat)
  /-- DM_TOKEN (R118). In device mode a token is judged and answered from the endpoint buffer. -/
  | dmToken (kind target ep : Nat)
  /-- DM_SETUP (R153). In device mode a setup packet is answered in hardware or placed in the EP0 buffer. -/
  | dmSetup (sop : Nat) (words : List Nat) (bad ended abort : Bool)
  /-- DM_PACKET (R154). In device mode an OUT packet is stored or refused and FULL changes, raising DM_XFER. -/
  | dmPacket (sop : Nat) (words : List Nat) (bad ended abort : Bool)
  /-- DM_ARM_WRITE (R157). Writing ARM sets FULL on an IN endpoint or clears it on an OUT endpoint. -/
  | dmArmWrite (port : Side) (n val : Nat)
  /-- DM_REMOTE_WAKE_WRITE (R156). Writing TRE_DM_CTRL.REMOTE_WAKE sends a wake beacon when the link is in L2 and wake is enabled. -/
  | dmRemoteWakeWrite (port : Side) (val : Nat)
  /-- DM_STROBE_LATCH_READ (R156). A read of TRE_DM_STROBE_SEC latches TRE_DM_STROBE_NS. -/
  | dmStrobeLatchRead (port : Side)
  /-- RING (R172). An INS_DOORBELL RING makes new descriptors of a transfer ring available. -/
  | ringDoorbell (port : Side) (i entry value : Nat)
  /-- OPEN (R174). An INS_DOORBELL OPEN binds an endpoint entry or opens a completion ring. -/
  | openEntry (port : Side) (i entry value : Nat)
  /-- CLOSE (R175). An INS_DOORBELL CLOSE ends an entry's transfers STOPPED and writes CLOSED, or closes a completion ring. -/
  | closeEntry (port : Side) (i entry value : Nat)
  /-- ACK (R172). An INS_DOORBELL ACK frees completion-ring records up to the new consumer index. -/
  | ackRing (port : Side) (i entry value : Nat)
  /-- DESCRIPTOR_START (R182). A descriptor starts once a place for its record is reserved in its completion ring. -/
  | descriptorStart (i entry : Nat)
  /-- DESCRIPTOR_TIMEOUT (R230). A descriptor whose TIMEOUT frames have passed completes TIMEOUT at a tick. -/
  | descriptorTimeout (i entry : Nat)
  /-- COMPLETION_RECORD_WRITE (R183). A completion record is issued as two posted writes. -/
  | completionRecordWrite (ok : Bool)
  /-- IN_SLOT_WRITE (R186). A periodic IN slot is written with WSEQ, payload and header in order. -/
  | inSlotWrite (ok : Bool) (errs word : Nat)
  /-- OUT_SLOT_FETCH (R187). During frame S − 1 the H24 reads a periodic OUT slot and judges it ready or not. -/
  | outSlotFetch (key : Nat)
  /-- OUT_SLOT_RESULT_WRITE (R187). After an OUT service the H24 writes dword 1 of the slot with its RESULT. -/
  | outSlotResultWrite (ok : Bool)
  /-- HOST_READ_TIMEOUT (R160). A host read that times out fails and ends the access that caused it. -/
  | hostReadTimeout (tag : Nat)
  /-- GRANT (R199). A SCH_ALLOC_REQ GRANT asks the allocator for a periodic intent. -/
  | grantHandle (port : Side)
  /-- RELEASE (R200). A SCH_ALLOC_REQ RELEASE asks to release a handle. -/
  | releaseHandle (port : Side)
  /-- MODIFY (R201). A SCH_ALLOC_REQ MODIFY asks to replace the intent of an IDLE endpoint. -/
  | modifyHandle (port : Side)
  /-- QUERY (R204). A SCH_ALLOC_REQ QUERY asks whether an endpoint holds a handle. -/
  | queryHandle (port : Side)
  /-- ALLOC_RESPONSE_POST (R204). The allocator posts its response, updating maps and context, sets DONE and raises ALLOC_DONE. -/
  | allocResponsePost (ans : Option PartnerRefusal)
  /-- PAGE_DIRECTORY_COMPLETE (R209). A directory-entry read completes and the context read follows. -/
  | pageDirectoryComplete (tag : Nat) (ok : Bool) (data : List Byte)
  /-- PAGE_IN_COMPLETE (R209). A context read completes and the context is cached after its check. -/
  | pageInComplete (tag : Nat) (ok : Bool) (data : List Byte)
  /-- PAGE_LATE (R210). A context not arrived 64 wt before its transaction's launch defers the transaction with DEFERRED_PAGE. -/
  | pageLate (key : Nat)
  /-- WRITE_BACK_RETRY (R213). A failed write-back is retried in the following frame. -/
  | writeBackRetry (ok : Bool)
  /-- BULK_IN_WRITE (R228). A good bulk or control IN packet's bytes are written to host memory as whole bursts. -/
  | bulkInWrite (ok : Bool) (errs word : Nat)
  /-- BULK_OUT_FETCH (R229). Bulk OUT packets for the next frame are fetched into the bank and checked against OUT_CRC. -/
  | bulkOutFetch (key : Nat)
  /-- DMA_DOORBELL (R237). Writing ENQ to DMA_CHn_DOORBELL makes descriptors available, or is rejected and counted. -/
  | dmaDoorbell (port : Side) (via : Via) (ch val : Nat)
  /-- DMA_CQ_ACK (R237). Writing DMA_CHn_CQ_ACK frees completion records. -/
  | dmaCqAck (port : Side) (via : Via) (ch val : Nat)
  /-- DMA_STOP (R243). Setting DMA_CHn_CTRL.STOP completes the running and available descriptors STOPPED and then clears EN. -/
  | dmaStop (port : Side) (via : Via) (ch : Nat)
  /-- DMA_ENABLE (R243). Setting DMA_CHn_CTRL.EN enables the channel and resets its indices. -/
  | dmaEnable (port : Side) (via : Via) (ch : Nat)
  /-- DMA_DESCRIPTOR_START (R235). A bound channel starts its next available descriptor once its record place is reserved. -/
  | dmaDescriptorStart (ch : Nat)
  /-- DMA_READ_COMPLETION (R238). A DMA source read completes and its bytes are staged for writing or CRC. -/
  | dmaReadCompletion (tag : Nat) (ok : Bool) (data : List Byte) (wok : Bool) (mem word errs : Nat)
  /-- DMA_DESCRIPTOR_END (R240). A DMA descriptor ends with its code after its last access or failure. -/
  | dmaDescriptorEnd (ch : Nat) (ok : Bool)
  /-- DMA_RECORD_WRITE (R240). A DMA completion record is issued as two posted writes. -/
  | dmaRecordWrite (ch : Nat) (ok : Bool)
  /-- GATHER_COMPLETE (R254). The gather unit completes the copy of a GATHER node. -/
  | gatherComplete (errs : List MemErr)
  /-- NODE_START (R257). A core takes the head of its ready list and starts the node instance. -/
  | nodeStart (core : Nat)
  /-- NODE_COMPLETE (R256). A node instance completes, making its dependants ready. -/
  | nodeComplete (core : Nat) (errs : List MemErr)
  /-- EMIT_SLOT_WRITE (R263). An EMIT writes its result slot with WSEQ, payload, bitmap and header. -/
  | emitSlotWrite (ok : Bool)
  /-- TRACE_RECORD_WRITE (R268). A decision-trace record is written into the trace ring. -/
  | traceRecordWrite (ok : Bool)
  /-- INSTANCE_RESET (R280). At the reset tick an instance's generation increments and its entries, rings, channels, queues and mailbox are reset. -/
  | instanceReset (i : Nat)
  /-- FUNCTION_LEVEL_RESET (R283). A Function Level Reset of a host function resets every instance bound to that port at the next tick. -/
  | functionLevelReset (port : Side)
  /-- DATA_LINK_DOWN (R283). Data Link Down on a host port resets every instance bound to that port at the next tick. -/
  | dataLinkDown (port : Side)
  /-- PERST_ASSERT (R415). Assertion of H0_PERST_N or H1_PERST_N is handled as Data Link Down on that port. -/
  | perstAssert (port : Side)
  /-- EVENT_RECORD_WRITE (R299). An event record is issued as two posted writes and the queue's MSI-X message is sent if ARMED. -/
  | eventRecordWrite (ok : Bool)
  /-- MSIX_UNMASK (R294). A held MSI-X message is sent when its vector is unmasked. -/
  | msixUnmask (port : Side) (vec : Nat)
  /-- HOLDOFF_EXPIRY (R293). A source's hold-off expires and it may commit again. -/
  | holdoffExpiry (src : Nat)
  /-- QUARANTINE (R302). A level source asserted for 4,096 ticks is quarantined, raising QUARANTINE and writing a Cairn record. -/
  | quarantine (src : Nat)
  /-- EVQ_CLAIM (R300). A read of a queue's CLAIM register claims the highest-priority OFFERED source for that queue. -/
  | evqClaim (port : Side) (via : Via) (q : Nat)
  /-- EVQ_COMPLETE (R301). Writing a source to COMPLETE ends its service and re-takes it if it fired again. -/
  | evqComplete (port : Side) (via : Via) (q val : Nat)
  /-- EVQ_CONS (R299). Writing CONS frees records, re-arms the queue and resends the message if records remain. -/
  | evqCons (port : Side) (via : Via) (q val : Nat)
  /-- EVQ_SET (R292). Writing SET is one software occurrence of the source. -/
  | evqSet (port : Side) (via : Via) (src : Nat)
  /-- EVQ_QUAR_CLEAR (R302). Writing 1 to QUAR releases a quarantined source and resets RUN. -/
  | evqQuarClear (port : Side) (via : Via) (src : Nat)
  /-- EVQ_QUEUE_ENABLE (R297). Writing a queue's EN resets its indices and arms it, or on disable returns its in-service sources to PENDING. -/
  | evqQueueEnable (port : Side) (via : Via) (q val : Nat)
  /-- WAKE_LATCH_SET (R303). A qualifying edge on a WAKE pin sets its latch and is an occurrence of its source while the logic die runs. -/
  | wakeLatchSet (n : Nat) (level : Bool) (dt rtc : Nat)
  /-- WAKE_STAMP_CAPTURE (R303). At the next RTC edge the RTC count is captured into EVQ_WAKE_STAMPn. -/
  | wakeStampCapture (rtc : Nat)
  /-- CP_COMPLETE (R305). A completion pops the stack top, or out of order is counted and raises STACK_FAULT. -/
  | cpComplete (req : CpReq)
  /-- SNS_WINDOW_ENTER (R312). SNS entering the attach window takes an unattached port to ATTACH_WAIT. -/
  | snsWindowEnter (p : Nat)
  /-- ATTACH (R312). SNS in the window for tATTACH attaches the port as source or sink. -/
  | snsAttach (p vp : Nat)
  /-- DETACH (R312). SNS out of the window, or a sink's VP below 8 V, for tATTACH detaches the port and reports a removal. -/
  | snsDetach (p sns : Nat)
  /-- DRP_TOGGLE (R312). An unattached dual-role port switches between Rp and Rd every tTOGGLE. -/
  | drpToggle (p : Nat)
  /-- CAPS_SEND (R321). The source sends its first SRC_CAPS tCAPS_FIRST after VP is in the window. -/
  | capsSend (p : Nat)
  /-- CAPS_REPEAT (R319). Unacknowledged SRC_CAPS are resent every tCAPS_REPEAT, at most 30 times. -/
  | capsRepeat (p : Nat)
  /-- VP_IN_WINDOW (R321). VP reaches the new contract window and the source sends PS_READY. -/
  | vpInWindow (p : Nat)
  /-- GOOD_RX (R318). A received GOOD_RX acknowledges the last message sent. -/
  | goodRx (p : Nat) (hdr : SnsHead)
  /-- SRC_CAPS (R321). A received SRC_CAPS leads a sink to send REQUEST. -/
  | srcCaps (p : Nat) (hdr : SnsHead) (objs : List Nat)
  /-- SNK_CAPS (R316). A received SNK_CAPS records the partner's sink PDOs. -/
  | snkCaps (p : Nat) (hdr : SnsHead) (objs : List Nat)
  /-- REQUEST (R321). A received REQUEST is answered ACCEPT, REJECT or WAIT by the source. -/
  | snsRequest (p : Nat) (hdr : SnsHead) (objs : List Nat)
  /-- ACCEPT (R321). A received ACCEPT moves a sink to SNK_TRANSITION or an old source into the swap. -/
  | snsAccept (p : Nat) (hdr : SnsHead) (objs : List Nat)
  /-- REJECT (R322). A received REJECT returns the requester to its prior state. -/
  | snsReject (p : Nat) (hdr : SnsHead) (objs : List Nat)
  /-- WAIT (R325). A received WAIT returns the requester to its prior state until tWAIT_AGAIN. -/
  | snsWait (p : Nat) (hdr : SnsHead) (objs : List Nat)
  /-- PS_READY (R321). A received PS_READY completes a contract step or a swap step. -/
  | psReady (p : Nat) (hdr : SnsHead) (objs : List Nat)
  /-- GET_SRC_CAPS (R316). A received GET_SRC_CAPS is answered with SRC_CAPS. -/
  | getSrcCaps (p : Nat) (hdr : SnsHead) (objs : List Nat)
  /-- GET_SNK_CAPS (R316). A received GET_SNK_CAPS is answered with SNK_CAPS. -/
  | getSnkCaps (p : Nat) (hdr : SnsHead) (objs : List Nat)
  /-- PR_SWAP (R325). A received PR_SWAP is answered ACCEPT, REJECT or WAIT. -/
  | prSwap (p : Nat) (hdr : SnsHead) (objs : List Nat)
  /-- SOFT_RESET (R316). A received SOFT_RESET resets the message layer and the source sends SRC_CAPS. -/
  | softReset (p : Nat) (hdr : SnsHead) (objs : List Nat)
  /-- NOT_SUPPORTED (R316). A received NOT_SUPPORTED ends the exchange of the message it answers. -/
  | notSupported (p : Nat) (hdr : SnsHead) (objs : List Nat)
  /-- ALERT (R316). A received ALERT sets PPW_Pp_EVENT.ALERT_RX. -/
  | snsAlert (p : Nat) (hdr : SnsHead) (objs : List Nat)
  /-- FR_SWAP (R328). A received FR_SWAP confirms a fast role swap and the new source answers ACCEPT. -/
  | frSwap (p : Nat) (hdr : SnsHead) (objs : List Nat)
  /-- HARD_RESET (R330). A received hard reset abandons every exchange and the source discharges VP. -/
  | hardReset (p : Nat)
  /-- MESSAGE_RETRY (R318). Without GOOD_RX after tRETRY a message is resent, then SOFT_RESET, then a hard reset is sent. -/
  | messageRetry (p : Nat)
  /-- COLLISION (R318). A transmitter hearing a differing half-cell stops and backs off. -/
  | snsCollision (p : Nat)
  /-- BACKOFF_EXPIRY (R318). The collision back-off expires and the message is resent. -/
  | backoffExpiry (p : Nat)
  /-- SNK_PSR_EXPIRY (R322). A sink without PS_READY within tSNK_PSR sends a hard reset. -/
  | snkPsrExpiry (p : Nat)
  /-- WAIT_AGAIN_EXPIRY (R319). After tWAIT_AGAIN the requester repeats its request. -/
  | waitAgainExpiry (p : Nat)
  /-- TREQUEST_EXPIRY (R319). No REQUEST within tREQUEST after new caps that dropped the PDO in use leads the source to send a hard reset. -/
  | trequestExpiry (p : Nat)
  /-- SWAP_PS_READY_TIMEOUT (R326). An old source without the new source's PS_READY within 10 ms sends a hard reset. -/
  | swapPsReadyTimeout (p : Nat)
  /-- SWAP_CONTRACT_TIMEOUT (R326). A new source without a contract 500 ms after PS_READY returns to default power. -/
  | swapContractTimeout (p : Nat)
  /-- PROTECTION_TRIP (R324). A protection trips on the power die, turning the gates off, discharging VP and entering FAULT. -/
  | protectionTrip (p cause : Nat)
  /-- RETRY_DELAY_EXPIRY (R324). After RETRY_DELAY a port in FAULT returns to UNATTACHED. -/
  | retryDelayExpiry (p : Nat)
  /-- FRS_TRIGGER (R328). VS below 0.9 × nominal or PFI_N makes the relying source start the FRS signal and set VSEL to 3. -/
  | frsTrigger (p vs : Nat) (pfi : Bool)
  /-- FRS_RECOGNITION (R328). An armed sink recognises the FRS signal and stops drawing from VP. -/
  | frsRecognition (p : Nat)
  /-- FRS_TURN_ON (R328). With recognition and VP below 0.85 × nominal the new source turns its gates on. -/
  | frsTurnOn (p : Nat)
  /-- FRS_CANCEL (R328). VP not below 0.85 × nominal tFRS_CANCEL after recognition cancels the swap and re-arms the standby. -/
  | frsCancel (p : Nat)
  /-- FRS_CONTRACT_EXPIRY (R328). No contract within tFRS_CONTRACT makes the new source send a hard reset. -/
  | frsContractExpiry (p : Nat)
  /-- HARD_RESET_DISCHARGED (R330). VP below 5 V after a hard reset leads the source to restore default power. -/
  | hardResetDischarged (p : Nat)
  /-- URMS_WINDOW_END (R338). A half-cycle Urms(1/2) window ends and is judged against the event thresholds. -/
  | urmsWindowEnd (dt : Nat)
  /-- ZERO_CROSSING (R339). A zero crossing of the reference channel ends a cycle, judging lock and frequency excursion. -/
  | zeroCrossing (dt : Nat)
  /-- MNS_WORD_LATCH_READ (R342). A read of MNS_WORD0 latches elements 1 to 15 of the same word. -/
  | mnsWordLatchRead (port : Side)
  /-- MNS_EVT_LATCH_READ (R342). A read of MNS_EVT_INFO latches the other last-event registers. -/
  | mnsEvtLatchRead (port : Side)
  /-- HEARTBEAT (R356). A received HEARTBEAT is forwarded, checked for FRAME_NO and partner state, and may trigger a takeover. -/
  | saddleHeartbeat (link number frame partner d : Nat) (pfail : Bool)
  /-- TIME (R349). A received TIME message is forwarded and used by a follower for its phase error and loop update. -/
  | saddleTime (link source sec ns uncert state : Nat) (est : Bool) (delay hops stamp : Nat)
  /-- TIME_LOSS (R349). No TIME message for 1.1 s puts the follower in HOLDOVER. -/
  | timeLoss (dt : Nat)
  /-- MIRROR (R355). A received MIRROR is applied to the covered-device state within 1 frame. -/
  | saddleMirror (items : List MirrorItem)
  /-- HANDOVER (R363). A received HANDOVER tells the old carrier which hubs move at frame F. -/
  | saddleHandover (hubs : List Nat) (frame : Nat)
  /-- SPUR_LOST (R357). A received SPUR_LOST triggers a takeover of the named hub. -/
  | spurLost (hub : Nat) (late : Bool)
  /-- SADDLE_LINK_UP (R345). A Saddle link completes training and checks the announced number, count and mode. -/
  | saddleLinkUp (link number count mode delay : Nat)
  /-- SADDLE_LINK_DOWN (R356). A Saddle link goes down and LINK_CHANGE is raised. -/
  | saddleLinkDown (link : Nat)
  /-- PFI_N_ASSERT (R365). PFI_N asserting stops new descriptors, completes OUT descriptors INCOMPLETE and sends POWER_FAIL. -/
  | pfiNAssert (dt : Nat)
  /-- WAKE_TRIGGER (R379). An enabled wake source in SLEEP starts the wake sequence at the next RTC edge. -/
  | wakeTrigger (rtc : Nat)
  /-- RTC_ALARM (R378). The RTC alarm fires ALARM_S seconds after the sleep snapshot. -/
  | rtcAlarm (rtc : Nat)
  /-- REGULATOR_TIMEOUT (R380). A regulator stage without power-good in 2 ms fails, recording PDM_FAIL and the wake-failure capture. -/
  | regulatorTimeout (rail rtc : Nat)
  /-- OSC_STAGE_TIMEOUT (R380). The oscillator stage times out and the system PLL runs from the internal oscillator. -/
  | oscStageTimeout (rtc : Nat)
  /-- DVS_PG_ASSERT (R381). DVS_PG asserts after a raise and the divider changes at the first tick 20 µs later. -/
  | dvsPgAssert (dt : Nat)
  /-- DVS_PG_TIMEOUT (R382). DVS_PG not asserting within 2 ms restores the old code and fails PD_SET_DVFS. -/
  | dvsPgTimeout (dt : Nat)
  /-- RAIL_LOSS (R413). SEQ_PG of a rail in use deasserting for over 20 µs holds the logic die in reset and disables the rails. -/
  | railLoss (rail : Nat)
  /-- CAIRN_RECORD_WRITE (R390). A record and its header are written to MRAM and read back. -/
  | cairnRecordWrite (r1 r2 h1 h2 l1 l2 : Bool)
  /-- MERGE_REWRITE (R391). 1,024 frames after its last rewrite the newest merged record is rewritten with its REPEAT. -/
  | mergeRewrite (r1 r2 l1 l2 : Bool)
  /-- HEADER_REFRESH (R387). The Cairn header is written at least every 64 s of operating time. -/
  | headerRefresh (h1 h2 l1 l2 : Bool)
  /-- INJECTION_END (R402). An injection ends after FRAMES or its condition, raising INJECT_END. -/
  | injectionEnd (kind : Nat)
  /-- BIST_COMPLETE (R403). A BIST run finishes its tests and records its results. -/
  | bistComplete (failed mems ports saddle word errors damaged : Nat)
  /-- JTAG_INSTRUCTION_LOAD (R405). Loading EXTEST, CLAMP or HIGHZ halts the logic die until RST_N. -/
  | jtagInstructionLoad (ins : JtagInstr)
  /-- SNS_WINDOW_LEAVE (R322). SNS leaving the attach window while a port is in ATTACH_WAIT returns the port to UNATTACHED. -/
  | snsWindowLeave (p sns : Nat)
  /-- FRS_SIGNAL_END (R328). The old source ends its FRS signal after tFRS_SIG and then sends FR_SWAP within tFRS_MSG. -/
  | frsSignalEnd (p : Nat)
  /-- DM_HANDSHAKE (R154). In device mode a downstream ACK from the far host clears FULL on a bulk or control IN endpoint and flips its toggle. -/
  | dmHandshake (code addr : Nat)
  /-- PING (R104). A PING received by a root port in device mode is answered with ECHO and then TURN. -/
  | lnkPing (p body turn : Nat)
  /-- MAINS_SAMPLE (R335). At each sampling instant every enabled mains channel is sampled, flagging over-range and feeding lock and window processing. -/
  | mainsSample (dt : Nat) (v0 v1 v2 v3 : Int)
  /-- HOST_READ_COMPLETION (R160). A completion for a transfer-engine host read (descriptor, instance-table entry, OUT data) arrives and is used or, on UR, CA, poison or ECRC failure, ends the access as failed. -/
  | hostReadCompletion (tag : Nat) (ok : Bool) (data : List Byte)
  /-- PARTNER_ALLOC_REQUEST (R354). A partner receives the carrier's intent for a covered device over the partner link and judges it on its own maps as one of its own requests. -/
  | partnerAllocRequest (key k words : Nat) (modify : Bool)
  /-- COMMAND_TIMEOUT (R37). A taken command reaching TIMEOUT frames completes with TIMEOUT or PENDING. -/
  | commandTimeout (id : Nat)
  /-- UNKNOWN_OPCODE (R64). A command with an opcode not in the index completes UNSUPPORTED. -/
  | unknownOpcode (id : Nat)
  /-- SYS_NOP (R62). Returns the request payload unchanged. -/
  | sysNop (id : Nat)
  /-- SYS_GET_INFO (R62). Returns version, mode, security count, UID, capabilities and the caller's instance and generation. -/
  | sysGetInfo (id : Nat)
  /-- SYS_GET_NONCE (R62). Issues a new outstanding nonce and returns it with its expiry frame. -/
  | sysGetNonce (id : Nat)
  /-- SYS_QUERY_PENDING (R62). Returns the state and outcome of a PENDING command by TAG. -/
  | sysQueryPending (id : Nat)
  /-- SYS_SET_MGR_PORT (R62). Writes MGR_PORT into the boot header for the next cold reset. -/
  | sysSetMgrPort (id : Nat)
  /-- SYS_WARM_RESET (R62). Schedules a warm reset at the effect tick. -/
  | sysWarmReset (id : Nat)
  /-- SYS_KEY_PROVISION (R62). Writes an integrator key into the fuses, checking the token for key slot 1. -/
  | sysKeyProvision (id : Nat)
  /-- SYS_GET_PAIR_STATUS (R62). Returns the active pair, standby state and last pair fault. -/
  | sysGetPairStatus (id : Nat)
  /-- FW_GET_SLOTS (R63). Returns the state of image slots A and B and the configuration store. -/
  | fwGetSlots (id : Nat)
  /-- FW_STAGE (R63). Reads an image from host memory, writes it to flash, reads it back and judges it under R46. -/
  | fwStage (id : Nat)
  /-- FW_LOAD_STANDBY (R63). Has the standby pair load and check an image slot. -/
  | fwLoadStandby (id : Nat)
  /-- FW_SWITCH (R63). Schedules a handover to the standby pair at target frame F. -/
  | fwSwitch (id : Nat)
  /-- FW_COMMIT (R63). Writes the boot header naming the running slot, raises the fuse counter and clears TRIAL. -/
  | fwCommit (id : Nat)
  /-- TIME_SET (R88). Sets the seconds, or the full time, that SYSTIME reads at the effect boundary. -/
  | timeSet (id : Nat)
  /-- TIME_GET (R88). Returns the time, state and uncertainty at the effect tick. -/
  | timeGet (id : Nat)
  /-- TIME_SET_FRAME_PERIOD (R88). Requests a new frame period and STROBE_OFFSET. -/
  | timeSetFramePeriod (id : Nat)
  /-- TIME_SET_PPS (R88). Enables or configures PPS discipline. -/
  | timeSetPps (id : Nat)
  /-- TIME_ADJUST (R88). Sets TIM_RATE and applies a relative step in FREE. -/
  | timeAdjust (id : Nat)
  /-- TIME_GET_DISCIPLINE (R88). Returns the discipline loop state and counters. -/
  | timeGetDiscipline (id : Nat)
  /-- LINK_RECALIBRATE (R116). Runs a DELAY, RX or FULL recalibration on a root or hub link. -/
  | linkRecalibrate (id : Nat)
  /-- LINK_GET_STATUS (R116). Returns the state, delay and counts of a root or hub link. -/
  | linkGetStatus (id : Nat)
  /-- TREE_GET_TOPOLOGY (R158). Returns the devices on a port from a start address. -/
  | treeGetTopology (id : Nat)
  /-- TREE_ENUMERATE (R158). Enumerates every known attachment, optionally rescanning hubs, and reports the outcome. -/
  | treeEnumerate (id : Nat)
  /-- TREE_PORT_RESET (R158). Ends a disable, resets the link and restores hub-port power. -/
  | treePortReset (id : Nat)
  /-- TREE_SUSPEND (R158). Takes a link into L2. -/
  | treeSuspend (id : Nat)
  /-- TREE_RESUME (R158). Resumes a link and reports devices with WAKE_PENDING. -/
  | treeResume (id : Nat)
  /-- TREE_DEVICE_MODE (R158). Enables or disables device mode on a root port. -/
  | treeDeviceMode (id : Nat)
  /-- TREE_CONTROL_XFER (R158). Runs one control transfer to a device for the manager. -/
  | treeControlXfer (id : Nat)
  /-- TREE_REMOVE_DEVICE (R158). Disables and removes a device and its subtree, optionally removing power. -/
  | treeRemoveDevice (id : Nat)
  /-- ALLOC_SET_POLICY (R215). Sets the allocation policy values. -/
  | allocSetPolicy (id : Nat)
  /-- ALLOC_GET_POLICY (R215). Returns the allocation policy. -/
  | allocGetPolicy (id : Nat)
  /-- ALLOC_PIN_CONTEXTS (R215). Pins the named contexts of a device. -/
  | allocPinContexts (id : Nat)
  /-- ALLOC_UNPIN_CONTEXTS (R215). Removes explicit pins of the named contexts. -/
  | allocUnpinContexts (id : Nat)
  /-- ALLOC_GET_LOAD (R215). Returns a load map as it stood at the effect tick. -/
  | allocGetLoad (id : Nat)
  /-- GRAPH_LOAD (R271). Loads a graph image and its result lists into the inactive bank. -/
  | graphLoad (id : Nat)
  /-- GRAPH_SWAP (R271). Schedules a swap of the active graph bank. -/
  | graphSwap (id : Nat)
  /-- GRAPH_UNLOAD (R271). Unloads the inactive or active graph. -/
  | graphUnload (id : Nat)
  /-- GRAPH_GET_STATS (R271). Returns the cluster's per-core statistics. -/
  | graphGetStats (id : Nat)
  /-- GRAPH_TRACE_CONFIG (R271). Configures or disables the decision trace. -/
  | graphTraceConfig (id : Nat)
  /-- INST_CREATE (R288). Creates an instance with its resources, port, window and ranges. -/
  | instCreate (id : Nat)
  /-- INST_DESTROY (R288). Destroys an instance at its effect tick. -/
  | instDestroy (id : Nat)
  /-- INST_RESET (R288). Resets an instance at its effect tick. -/
  | instReset (id : Nat)
  /-- INST_GET (R288). Returns an instance's description. -/
  | instGet (id : Nat)
  /-- INST_RESIZE (R288). Changes the selected resources of an instance. -/
  | instResize (id : Nat)
  /-- INST_GET_POOL (R288). Returns the pool totals and free resources. -/
  | instGetPool (id : Nat)
  /-- PWR_GET_PORT (R333). Returns a port's power state and measurements. -/
  | pwrGetPort (id : Nat)
  /-- PWR_SET_POLICY (R333). Sets a port's role capability, flags and PDOs. -/
  | pwrSetPolicy (id : Nat)
  /-- PWR_REQUEST_CONTRACT (R333). Sends REQUEST as a sink or resends SRC_CAPS as a source. -/
  | pwrRequestContract (id : Nat)
  /-- PWR_ROLE_SWAP (R333). Requests a power role swap. -/
  | pwrRoleSwap (id : Nat)
  /-- PWR_HARD_RESET (R333). Sends a hard reset on a port. -/
  | pwrHardReset (id : Nat)
  /-- PWR_SET_LIMITS (R333). Sets a port's protection limits and sense resistor. -/
  | pwrSetLimits (id : Nat)
  /-- PWR_PORT_OFF (R333). Turns a port off, or re-enables it from OFF or FAULT_LATCHED. -/
  | pwrPortOff (id : Nat)
  /-- MAINS_CONFIGURE (R343). Configures wiring, nominal frequency and channel scaling. -/
  | mainsConfigure (id : Nat)
  /-- MAINS_GET_STATUS (R343). Returns the committed word and event records. -/
  | mainsGetStatus (id : Nat)
  /-- MAINS_SET_THRESHOLDS (R343). Sets the event thresholds. -/
  | mainsSetThresholds (id : Nat)
  /-- MAINS_CALIBRATE (R343). Starts a gain calibration of a channel. -/
  | mainsCalibrate (id : Nat)
  /-- PAIR_CONFIGURE (R369). Sets mode, count, time sources, flags and address window. -/
  | pairConfigure (id : Nat)
  /-- PAIR_GET_STATUS (R369). Returns the pairing state. -/
  | pairGetStatus (id : Nat)
  /-- PAIR_SET_NUMBER (R369). Sets the controller number. -/
  | pairSetNumber (id : Nat)
  /-- PAIR_TAKEOVER (R369). Takes over named dual-homed hubs from the partner. -/
  | pairTakeover (id : Nat)
  /-- PAIR_RELEASE (R369). Returns hubs to their home controller. -/
  | pairRelease (id : Nat)
  /-- PAIR_PREPARE_REPLACE (R369). Takes over the partner's dual-homed hubs and sends STOP. -/
  | pairPrepareReplace (id : Nat)
  /-- PD_GET_STATE (R384). Returns the power-domain state. -/
  | pdGetState (id : Nat)
  /-- PD_SET_STATE (R384). Changes the state of a domain. -/
  | pdSetState (id : Nat)
  /-- PD_SET_DVFS (R384). Requests a DVFS point. -/
  | pdSetDvfs (id : Nat)
  /-- PD_SLEEP (R384). Enters BUS_KEEP or SLEEP. -/
  | pdSleep (id : Nat)
  /-- PD_SET_WAKE (R384). Sets the wake sources, wake order and RTC alarm. -/
  | pdSetWake (id : Nat)
  /-- CRN_GET_INFO (R398). Returns Cairn's counters and flags. -/
  | crnGetInfo (id : Nat)
  /-- CRN_FREEZE (R398). Freezes MRAM writes. -/
  | crnFreeze (id : Nat)
  /-- CRN_READ (R398). Copies records to host memory. -/
  | crnRead (id : Nat)
  /-- CRN_UNFREEZE (R398). Ends a freeze. -/
  | crnUnfreeze (id : Nat)
  /-- CRN_CLEAR (R398). Erases the ring with a token, optionally testing the media. -/
  | crnClear (id : Nat)
  /-- SCR_UNLOCK (R407). Opens Scree with a token. -/
  | scrUnlock (id : Nat)
  /-- SCR_LOCK (R407). Ends every injection and locks Scree. -/
  | scrLock (id : Nat)
  /-- SCR_INJECT (R407). Starts or stops an injection of one kind. -/
  | scrInject (id : Nat)
  /-- BIST_RUN (R407). Runs the selected built-in self-tests. -/
  | bistRun (id : Nat)
  /-- BIST_GET_RESULT (R407). Returns the result of the last BIST run. -/
  | bistGetResult (id : Nat)
  /-- RST_N_ASSERT (R3). Assertion of RST_N is a cold reset that returns every register to its reset value and holds the logic die in reset. -/
  | rstNAssert
  /-- POWER_ON (R47). VAO and VIN_PD come within their operating range, which can mark T0 of the boot sequence. -/
  | powerOn
  /-- RST_N_RISE (R47). RST_N rises with the supplies in range, marking T0, and the power-die sequencer starts the logic-die regulators. -/
  | rstNRise
  /-- REGULATORS_READY (R47). The logic-die regulators report ready during boot. -/
  | regulatorsReady
  /-- REFERENCE_READY (R47). The 25 MHz reference reports ready and the system PLL is started. -/
  | referenceReady
  /-- PLL_LOCK (R47). The system PLL locks; both pairs start the boot ROM and self-test, and the boot ROM reads the boot header and fixes BAR0 (R27). -/
  | pllLock
  /-- WARM_RESET (R52). At its tick the warm reset resets root ports, the frame engine and all instances, writes back all cached contexts and reruns boot from image selection. -/
  | warmReset
  /-- NONCE_EXPIRY (R61). The outstanding nonce ends 65,536 frames after issue. -/
  | nonceExpiry
  /-- STANDBY_TAKEOVER (R55). At the second tick after a pair fault the standby pair becomes active and completes the journalled commands. -/
  | standbyTakeover
  /-- SWITCH_STOP_TAKING (R57). Two frames before the FW_SWITCH target the active pair stops taking slots, sets MODE 2 and writes its handover state. -/
  | switchStopTaking
  /-- HANDOVER_STATE_CHECK (R57). One frame before the target the standby pair checks the handover state against MIN_STATE_VER. -/
  | handoverStateCheck
  /-- SWITCH_HANDOVER (R57). At the target tick ACTIVE_PAIR changes and the new pair re-executes abandoned commands. -/
  | switchHandover
  /-- SUSPENDED_BOUNDARY (R66). While ticks are suspended, FRAME_NO increases at each boundary SYSTIME passes. -/
  | suspendedBoundary
  /-- FRAME_OUT_FALL (R83). FRAME_OUT falls 200 ns after the boundary. -/
  | frameOutFall
  /-- PPS_OUT_FALL (R83). PPS_OUT falls PPS_WIDTH frames after it rose. -/
  | ppsOutFall
  /-- HARD_STOP (R71). At 16 wt before the next tick, unstarted periodic transactions are deferred with DEFERRED_OVERRUN and counted. -/
  | hardStop
  /-- SLEW_COMPLETE (R73). The last share of a residual correction completes and SLEWING returns to 0. -/
  | slewComplete
  /-- FRAME_PERIOD_CHANGE (R88). A new frame period takes effect at the first qualifying millisecond boundary once SLEWING is 0. -/
  | framePeriodChange
  /-- DM_BUS_RESET (R155). A bus reset in device mode discards the control transfer, resets toggles, address and FULL, and raises DM_RESET. -/
  | dmBusReset
  /-- HANDLE_RELEASE_EFFECT (R200). At the tick of frame c + 2 a released or replaced placement leaves the maps and a bound entry is closed. -/
  | handleReleaseEffect
  /-- ADDRESS_HOLDBACK_EXPIRY (R206). A freed address becomes assignable 64 frames after it was freed. -/
  | addressHoldbackExpiry
  /-- PAGE_IN_ISSUE (R209). The pager issues a directory or context read for a needed context. -/
  | pageInIssue
  /-- PAGE_IN_RETRY (R213). A failed page-in is retried in the following frame, the third failure counting as a failed check. -/
  | pageInRetry
  /-- DRAIN_DEADLINE (R217). At the tick of frame n + 2 unissued writes of bank n are abandoned and the slots written FAILED. -/
  | drainDeadline
  /-- RUN_DEADLINE (R255). A run still live at the tick of frame n + 3 is stopped, its EMITs writing INCOMPLETE. -/
  | runDeadline
  /-- TRACE_RECORD_DROP (R268). A trace record not written within 1 frame is dropped and counted. -/
  | traceRecordDrop
  /-- GRAPH_SWAP_EFFECT (R267). At the target tick the new graph becomes active and the old delay entries are discarded. -/
  | graphSwapEffect
  /-- EVENT_COMMIT (R296). A deliverable source commits one record into every queue of its delivery set that has room. -/
  | eventCommit
  /-- CP_CLAIM (R305). The active pair claims its highest internal request above the stack top and pushes it. -/
  | cpClaim
  /-- DEAD_BATTERY_START (R323). With DBEN high and SNS attached, the power die turns port 0 on as a sink at default power and sets DB. -/
  | deadBatteryStart
  /-- TEN_CYCLE_END (R337). A 10- or 12-cycle magnitude interval ends. -/
  | tenCycleEnd
  /-- TEN_SECOND_END (R337). A 10 s frequency interval ends and its value is computed or discarded. -/
  | tenSecondEnd
  /-- CALIBRATION_COMPLETE (R341). A mains calibration over 50 cycles completes and sets the channel's gain trim. -/
  | calibrationComplete
  /-- HEARTBEAT_MISS (R356). No copy of the partner's HEARTBEAT within 16 µs of a tick declares the partner DOWN. -/
  | heartbeatMiss
  /-- TIME_SOURCE_RETURN (R348). When the primary source's heartbeat returns, controllers return to it at the next whole second. -/
  | timeSourceReturn
  /-- STOP (R364). A received STOP makes the leaving controller disable its root ports, port power and HEARTBEAT. -/
  | saddleStop
  /-- PFI_N_DEASSERT (R414). PFI_N deasserting after 100 ms high ends the power-fail conditions from the next tick. -/
  | pfiNDeassert
  /-- BUS_KEEP_ENTRY (R373). At the effect tick the H24 lowers DVS, puts pairs and cluster in low-power states and takes links to L1. -/
  | busKeepEntry
  /-- BUS_KEEP_EXIT (R374). A doorbell or enabled wake source ends BUS_KEEP and restores the domains. -/
  | busKeepExit
  /-- SLEEP_ENTRY (R375). At the effect tick the H24 resets instances, removes devices, saves state and powers off the logic die. -/
  | sleepEntry
  /-- REGULATOR_STAGE_COMPLETE (R379). A rail's power-good asserts and the sequencer enables the next rail or starts the oscillator. -/
  | regulatorStageComplete
  /-- WAKE_RETRY (R380). One second after a failed regulator stage the sequencer retries, up to 3 attempts. -/
  | wakeRetry
  /-- DVFS_CHANGE (R381). At the effect tick the DVS divider and code change in the enforced order. -/
  | dvfsChange
  /-- RAIL_LOSS_REBOOT (R413). One second after a rail loss the H24 boots as after power-on. -/
  | railLossReboot
  /-- VAO_LOSS (R20). VAO leaving its range turns every port's gates off and makes Tarn undefined. -/
  | vaoLoss
  /-- FREEZE_EXPIRY (R392). A freeze ends 65,536 frames after the latest freeze or read, raising FREEZE_EXPIRED and draining the holding queue. -/
  | freezeExpiry
  /-- UNLOCK_EXPIRY (R399). Scree locks when its lifetime expires, ending injections. -/
  | unlockExpiry
  /-- VIN_PD_LOSS (R323). VIN_PD falling out of range leaves the power die unsupplied, so every SNS ball presents the dead-battery Rd and port power stops. -/
  | vinPdLoss
  deriving DecidableEq, Repr

end Sys2Proof
end

