-- ==== Sys2Proof/Decode.lean ====
section
/-! DEFINITION. Commands that a word spells. No row of spec/opcode_table.json gives bits: the block takes its commands from outside
(register accesses, words of its buses, pins, its own engines), so no word spells one (log entry 72). -/

namespace Sys2Proof

/-- The rows of the table that give bits, with their mask, pattern and command. -/
def tableRows : List (Nat × Nat × Nat × Instr) := []

/-- The command whose row has `nbits` bits and whose fixed bits `w` carries. -/
def decodeTableWord (nbits w : Nat) : Option Instr :=
  (tableRows.find? fun r => r.1 == nbits && w &&& r.2.1 == r.2.2.1).map fun r => r.2.2.2

end Sys2Proof
end

