-- ==== Sys2Proof/Config.lean ====
section
/-! DEFINITION. What an implementation of the H24 fixes and the spec leaves open: constants without a body, so that
nothing in Lean can evaluate them or prove a value of them. Each is named in a row of notes/assumptions. -/

namespace Sys2Proof

/-- The chip's 64-bit unique ID (GLB_UID_LO, GLB_UID_HI; R60). Free. -/
opaque Config.uid : Nat

/-- Build number of the running image (MBX_FW_VER.BUILD). Free. -/
opaque Config.build : Nat

/-- The nonce that the n-th SYS_GET_NONCE returns (R61). Free. -/
opaque Config.nonce : Nat → Nat

/-- SHA-256 of a byte string (R45, R60). A defined function that the model does not compute. (DESIGN CHOICE, log entry 28.) -/
opaque Config.sha256 : List Byte → List Byte

/-- ECDSA P-256 verification of a signature over a hash by a public key (R45, R60); the model does not compute it. -/
opaque Config.sigValid : List Byte → List Byte → List Byte → Bool

/-- The Mituley key in the fuses (R59). Free. -/
opaque Config.mituleyKey : List Byte

/-- Priority of the control pair's internal request for the tick and for a mailbox doorbell (R305): 0 to 7, free. (DESIGN CHOICE, log entry 58.) -/
opaque Config.cpPriorityTick : Nat

/-- As `cpPriorityTick`, for the mailbox doorbells. -/
opaque Config.cpPriorityDoorbell : Nat

/-- Numbers of the two internal requests that a claim returns (R305). Free. -/
opaque Config.cpNumberTick : Nat
opaque Config.cpNumberDoorbell : Nat

/-- Stamp in the record of a level source that commits again with no occurrence since the commit before (R298, R301):
FRAME_NO and NS, by source and core cycle. Free. (DESIGN CHOICE, log entry 57.) -/
opaque Config.noOccurrenceStamp : Nat → Nat → Nat × Nat

/-- Launch offset of the SOF of a frame on a root port, in whole core cycles: 8 to 14 (R68, R83: 20 to 35 ns). Free. (DESIGN CHOICE, log entry 67.) -/
opaque Config.launchOffset : Nat → Nat → Fin 7

/-- TX preset that a receiver asks of its partner in EQ: a result of its adaptation (R102). Free, by port and number of its trainings; the
model takes it modulo 8. (DESIGN CHOICE, log entry 236.) -/
opaque Config.presetWanted : Nat → Nat → Nat

/-- Delay that SOF_JITTER adds to the SOF of a frame on a port, before its reduction to 0 to J core cycles (R402:
pseudo-random). Free, by port and frame. -/
opaque Config.sofJitter : Nat → Nat → Nat

/-- How a rounding of chapter 3 to an integer takes an exact half: true rounds up (R81, R85). Free, by twice the value. (DESIGN CHOICE, log entry 62.) -/
opaque Config.roundHalfUp : Int → Bool

/-- Which of the two splits of R73 a correction takes whose residual is exactly half a period. Free. -/
opaque Config.splitHalfUp : Int → Bool

/-- How the mains observer rounds a value that is no whole number of its unit: true rounds up (R337 to R340 give no
rounding). Free, by numerator and denominator. (DESIGN CHOICE, log entry 175.) -/
opaque Config.mainsUp : Nat → Nat → Bool

/-- Element 14 after a 10 s interval that held no whole cycle: the spec states no value. Free, by its end in seconds. (DESIGN CHOICE, log entry 184.) -/
opaque Config.noCycles : Nat → BitVec 24

/-- How GRAPH_GET_STATS rounds a quotient that is no whole number: true rounds up (R271 gives no rounding). Free, by
numerator and denominator. -/
opaque Config.statsUp : Nat → Nat → Bool

/-- A quotient of GRAPH_GET_STATS over nothing (no frame, no started instance): the spec states no value. Free, by the field's
offset. -/
opaque Config.statsNone : Nat → Nat

/-- TAG, flags and buffer of a descriptor whose read failed: the spec states no TAG for its record (R160, R180). Free, by
instance-table entry and index. (DESIGN CHOICE, log entry 105.) -/
opaque Config.unreadTag : Nat → Nat → Nat

/-- Level of the DBEN ball, by core cycle (R332): the board drives it. After a dead-battery start it has been high (R323). Free. (DESIGN CHOICE,
log entry 271.) -/
opaque Config.dbenHigh : Nat → Bool

/-- Which of a dual-homed hub's upstream ports leads to this controller's link (root port, hub, hub port), where both are in L0: the board's
wiring, which no request reads. Free. (DESIGN CHOICE, log entry 158.) -/
opaque Config.upPort : Nat → Nat → Nat → Bool

/-- The load map (numbered as Machine/Alloc.lean numbers them) and entry that a word of memory 1 holds: R194 gives the
slots' sizes and not their places. Free. (DESIGN CHOICE, log entry 26.) -/
opaque Config.mapOfWord : Nat → Nat × Nat

/-- What a word of the cluster's memories holds (R245 gives the areas, not the places in them): the node that a word of a graph table outside
the node entries concerns; the node and element of a value, by word of the run area; bank, node and element of a state word, by memory and
word. Free. (DESIGN CHOICE, log entry 251.) -/
opaque Config.tableWord : Nat → Nat
opaque Config.valueWord : Nat → Nat × Nat
opaque Config.stateWord : Nat → Nat → Nat × Nat × Nat

/-- The settings of an accepted configuration store, whose body the spec does not lay out: from the store's image and an item number,
the setting in the form of the request that would make it. Items: 0 instance 0's entries (4 bytes), DMA channels and queues (a byte
each), 2 bytes, TABLE_BASE (8) and TABLE_PASID (4), 1 TIME_SET_PPS, 2 ALLOC_SET_POLICY, 3 MAINS_CONFIGURE, 4 PAIR_CONFIGURE, 5 PAIR_SET_NUMBER, 6 the GPIO assignment,
8 + p PWR_SET_POLICY of port p. Free. (DESIGN CHOICE, log entry 35.) (DESIGN CHOICE, log entry 47.) -/
opaque Config.storeItem : List Byte → Nat → Option (List Byte)

/-- Bytes of Tarn after VAO has been out of range: undefined (R20). Free, by a counter and the offset. (DESIGN CHOICE, log entry 37.) -/
opaque Config.tarnUndefined : Nat → Nat → Byte

/-- Bytes of Tarn's boot region, which the spec gives no layout (R19). Free, by the number of commands that the active pair has taken and the
offset. (DESIGN CHOICE, log entry 243.) -/
opaque Config.tarnBody : Nat → Nat → Byte

/-- Bus Master Enable of host port H1 (`true`) or H0 in a frame, where no row of the command table carries it: free. (DESIGN CHOICE, log entry
265.) -/
opaque Config.busMaster : Bool → Nat → Bool

end Sys2Proof
end

