-- ==== Sys2Proof/Machine/Bits.lean ====
section
/-! DEFINITION. Bit fields of a register word (R4), little-endian byte strings (R5), two's complement, rounding, and
the cyclic checks the chapters name. -/

namespace Sys2Proof.Machine

/-- A field of a register: the register's address and the bits [hi:lo]. -/
structure Fld where
  reg : Nat
  hi  : Nat
  lo  : Nat
  deriving DecidableEq, Repr

/-- What the register table gives one register: the masks of its RW (RWS included), W1C, RC, RWS and write-only fields,
its reset value, and its reserved encodings as (hi, lo, first, last) (R7, R9). -/
structure RegDesc where
  rw    : Nat
  w1c   : Nat
  rc    : Nat
  rws   : Nat
  wo    : Nat
  reset : Nat
  rsv   : List (Nat × Nat × Nat × Nat)
  deriving DecidableEq, Repr

/-- The value of bits [hi:lo] of a word. -/
def bits (w : Word) (hi lo : Nat) : Nat := (w.toNat >>> lo) % 2 ^ (hi - lo + 1)

/-- The mask of bits [hi:lo]. -/
def bitMask (hi lo : Nat) : Word := BitVec.ofNat 32 ((2 ^ (hi - lo + 1) - 1) <<< lo)

/-- `w` with bits [hi:lo] replaced by the low bits of `v`. -/
def setBits (w : Word) (hi lo v : Nat) : Word :=
  (w &&& ~~~ bitMask hi lo) ||| BitVec.ofNat 32 ((v % 2 ^ (hi - lo + 1)) <<< lo)

def Fld.ex (f : Fld) (w : Word) : Nat := bits w f.hi f.lo
def Fld.ins (f : Fld) (w : Word) (v : Nat) : Word := setBits w f.hi f.lo v

/-- Largest value of a field. -/
def Fld.max (f : Fld) : Nat := 2 ^ (f.hi - f.lo + 1) - 1

/-- Bit `i` of a number. -/
def bitAt (v i : Nat) : Bool := (v >>> i) % 2 = 1

def b2n (b : Bool) : Nat := if b then 1 else 0

/-- The `n` low bytes of `v`, least significant first (R5). -/
def leBytes : Nat → Nat → List Byte
  | 0, _ => []
  | n + 1, v => BitVec.ofNat 8 v :: leBytes n (v / 256)

/-- The number that bytes spell, least significant first (R5). -/
def leNat : List Byte → Nat
  | [] => 0
  | b :: bs => b.toNat + 256 * leNat bs

/-- The number that bytes spell, most significant first. -/
def beNat (l : List Byte) : Nat := leNat l.reverse

/-- `n` bytes of a byte string from offset `o`. -/
def slice (l : List Byte) (o n : Nat) : List Byte := (l.drop o).take n

/-- The little-endian number of `n` bytes at offset `o`. -/
def leAt (l : List Byte) (o n : Nat) : Nat := leNat (slice l o n)

/-- `n` zero bytes. -/
def zeros (n : Nat) : List Byte := List.replicate n 0

/-- Two's complement reading of the low `n` bits. -/
def toSigned (n : Nat) (v : Nat) : Int :=
  let m := v % 2 ^ n
  if m < 2 ^ (n - 1) then (m : Int) else (m : Int) - (2 ^ n : Nat)

/-- Two's complement coding in `n` bits. -/
def ofSigned (n : Nat) (i : Int) : Nat := (i % ((2 ^ n : Nat) : Int)).toNat

/-- `a / b` rounded to the nearest integer, halves to even (R84, R105). -/
def divRoundEven (a : Int) (b : Nat) : Int :=
  let q := a / (b : Int)
  let r := a % (b : Int)
  if 2 * r < (b : Int) then q
  else if 2 * r > (b : Int) then q + 1
  else if q % 2 = 0 then q else q + 1

/-- Limit an integer to [lo, hi]. -/
def clampInt (i lo hi : Int) : Int := if i < lo then lo else if i > hi then hi else i

/-- Modular distance from `a` forward to `b` in 32-bit counts (FRAME_NO, R66). -/
def since32 (b a : Nat) : Nat := (b + 2 ^ 32 - a % 2 ^ 32) % 2 ^ 32

/-- One bit step of a reflected CRC of polynomial `poly`. -/
def crcStepR (poly c : Nat) : Nat → Nat
  | 0 => c
  | n + 1 => crcStepR poly (if c % 2 = 1 then (c / 2) ^^^ poly else c / 2) n

/-- CRC-32C state after the bytes, from state `c` (R161: reflected polynomial 0x82F6_3B78). -/
def crc32cFrom (c : Nat) : List Byte → Nat
  | [] => c
  | b :: bs => crc32cFrom (crcStepR 0x82F63B78 (c ^^^ b.toNat) 8) bs

/-- CRC-32C of a byte string: initial value and final inversion 0xFFFF_FFFF (R161). -/
def crc32c (l : List Byte) : Nat := crc32cFrom 0xFFFFFFFF l ^^^ 0xFFFFFFFF

/-- The largest r with r² × den ≤ num, among r below 2^n added to `r`. -/
def isqrtQ (num den : Nat) : Nat → Nat → Nat
  | 0, r => r
  | n + 1, r => if (r + 2 ^ n) * (r + 2 ^ n) * den ≤ num then isqrtQ num den n (r + 2 ^ n) else isqrtQ num den n r

/-- Set element `i` of a list, if there is one. -/
def listSet {α : Type} : List α → Nat → α → List α
  | [], _, _ => []
  | _ :: t, 0, v => v :: t
  | h :: t, n + 1, v => h :: listSet t n v

end Sys2Proof.Machine
end

