-- ==== Sys2Proof/Machine/SMap.lean ====
section
/-! DEFINITION. Sparse arrays as plain data: a list of (key, value) pairs with strictly rising keys and no entry equal
to what an unlisted key reads as (`d key`), so that equal arrays are equal lists. Memories of bytes are the case
`Memory`. -/

namespace Sys2Proof.Machine

/-- A sparse array in canonical form. -/
abbrev SMap (α : Type) := List (Nat × α)

/-- A memory of bytes, cell by cell. -/
abbrev Memory := SMap Byte

/-- The element at key `k`; `d` says what an unlisted key reads as. -/
def SMap.get {α : Type} (d : Nat → α) : SMap α → Nat → α
  | [], k => d k
  | (j, v) :: m, k => if j = k then v else SMap.get d m k

/-- List `v` at key `k`, in its place. -/
def SMap.insert {α : Type} (k : Nat) (v : α) : SMap α → SMap α
  | [] => [(k, v)]
  | (j, w) :: m => if k < j then (k, v) :: (j, w) :: m else if k = j then (k, v) :: m else (j, w) :: SMap.insert k v m

/-- Write `v` at key `k`, keeping the canonical form: a value that an unlisted key reads as is not listed. -/
def SMap.put {α : Type} [DecidableEq α] (d : Nat → α) (k : Nat) (v : α) (m : SMap α) : SMap α :=
  if v = d k then m.filter (fun x => x.1 != k) else SMap.insert k v m

/-- Every key of the list is above `lo`, keys rise strictly, and no value is its key's default. -/
def SMap.wfFrom {α : Type} [DecidableEq α] (d : Nat → α) : Option Nat → SMap α → Bool
  | _, [] => true
  | lo, (j, v) :: m =>
    (match lo with
      | none => true
      | some l => decide (l < j)) && !decide (v = d j) && SMap.wfFrom d (some j) m

/-- The canonical form. -/
def SMap.wf {α : Type} [DecidableEq α] (d : Nat → α) (m : SMap α) : Bool := SMap.wfFrom d none m

/-- Keys that are listed. -/
def SMap.keys {α : Type} (m : SMap α) : List Nat := m.map (·.1)

/-- Apply `f` to every listed element, keeping the canonical form. -/
def SMap.map {α : Type} [DecidableEq α] (d : Nat → α) (f : Nat → α → α) : SMap α → SMap α
  | [] => []
  | (j, v) :: m => if f j v = d j then SMap.map d f m else (j, f j v) :: SMap.map d f m

/-- What a byte of an on-chip memory that nothing has written reads as: 0 (DESIGN CHOICE, log entry 3). -/
def zeroByte (_ : Nat) : Byte := 0

/-- What a flash byte that nothing has written reads as: erased, 0xFF (DESIGN CHOICE, log entry 4). -/
def erasedByte (_ : Nat) : Byte := 0xFF

/-- The canonical form of an on-chip memory. -/
def Memory.wf (m : Memory) : Bool := SMap.wf zeroByte m

/-- `n` bytes of memory from address `a`. -/
def Memory.read (d : Nat → Byte) (m : Memory) (a : Nat) : Nat → List Byte
  | 0 => []
  | n + 1 => SMap.get d m a :: Memory.read d m (a + 1) n

/-- Write consecutive bytes from address `a`. -/
def Memory.write (d : Nat → Byte) (m : Memory) (a : Nat) : List Byte → Memory
  | [] => m
  | b :: bs => Memory.write d (SMap.put d a b m) (a + 1) bs

end Sys2Proof.Machine
end

