-- ==== Sys2Proof/Machine/BlocksBus.lean ====
section
/-! DEFINITION. The state of the bus side as plain data: link ports, the device tree, enumeration, device mode, the
allocator and the context cache (04, 05, 06, 07), each with its reset. -/

namespace Sys2Proof.Machine

/-! ### Link ports (04) -/

/-- What the stages a port is in belong to (R101, R107, R109, R111). -/
inductive TrainKind where
  | full | recal | l2exit | recovery | l1exit
  deriving DecidableEq, Repr

/-- One exchange of a measurement (R104): launch of the PING, arrival of the ECHO, round trip once TURN has come. -/
structure Exchange where
  seq    : Nat
  launch : Nat
  echo   : Option Nat
  trip   : Option Int
  deriving DecidableEq, Repr

/-- What a root port holds beside its registers (R95 to R113). Instants of words are in 1/64 wt. -/
structure LinkPort where
  kind      : TrainKind
  detects   : Nat               -- consecutive detects that found termination (R101)
  absents   : Nat               -- consecutive detects that found none (R110)
  waitUntil : Option Nat        -- frame at which the wait after a failed training ends (R103)
  fails     : Nat               -- consecutive failed trainings (R103)
  failSaid  : Bool              -- TRAIN_FAIL raised in this run of failures (R103)
  inverted  : Bool              -- input inverted until the next DETECT (R102)
  ts1Seen   : Bool              -- a valid TS1 received in this stage
  ts1Done   : Nat               -- consecutive TS1 with EQ_DONE = 1 (R101)
  adapted   : Bool              -- own EQ_DONE (R102)
  ts2Rx     : Nat               -- consecutive TS2 with LINK_VER = 1 (R101)
  verBad    : Bool              -- a TS2 with another LINK_VER came (R101)
  wordLock  : Bool              -- R96
  exch      : List Exchange     -- exchanges of the measurement under way (R104)
  pings     : Nat               -- PINGs sent in it
  attempts  : Nat               -- measurements refused in this DELAY stage (R105)
  descr     : Nat               -- descrambler (R95)
  scr       : Nat               -- transmit scrambler before word time `scrAt` of the frame (R95)
  scrAt     : Nat
  said      : List (Nat × Nat)  -- link-local control words sent in the current frame: CODE, BODY (R97)
  recent    : List Bool         -- of the last 64 received words, newest first: failed R93 (R96)
  good      : Nat               -- consecutive received words that passed R93, up to 64 (R96)
  presetReq : Nat               -- TX preset asked of the partner in EQ (R102)
  presetNeg : Nat               -- TX preset that the partner asked for last: the negotiated one (R102, R115)
  descrOn   : Bool              -- loaded, and not past 4 consecutive mismatches (R97)
  mism      : Nat               -- consecutive IDLE mismatches (R97)
  pmReq     : Nat               -- PM request outstanding: 0 none, 1 L1, 3 L2 (R97, R108)
  pmEnter   : Nat               -- after the ACK: state to enter at a tick, 9 or 10, 0 none (R108)
  pmAt      : Nat               -- core cycle of the ACK (R108)
  lowFrame  : Nat               -- frame of entry into L1 or L2, or of the last detect there (R110)
  l0Next    : Bool              -- RECOVERY is complete: L0 at the next tick (R109)
  retrain   : Bool              -- RETRAIN written: RECOVERY at the next tick (R115)
  ctrlEff   : Word              -- LNK_CTRL in effect (R15)
  errTotal  : Nat               -- word errors, recoveries, failed trainings since cold reset (R116)
  recTotal  : Nat
  failTotal : Nat
  rejected  : Option Nat        -- the last measurement, if R113 rejected it
  dlyBase   : Nat               -- frame from which the DELAY and the RX interval count (R112)
  rxBase    : Nat
  dlyDue    : Bool              -- slot scheduled (R111)
  rxDue     : Bool
  slot      : Option Nat        -- kind of the slot that runs
  slotWt    : Nat               -- word time of its start
  resetIdle : Bool              -- electrical idle of a bus reset (R148)
  refused   : Bool              -- disabled by a refusal or TREE_REMOVE_DEVICE (R147, R158)
  echoed    : Option (Nat × Nat)   -- device mode: SEQ of the last ECHO sent and the TURN after it (R104)
  deriving DecidableEq, Repr

def LinkPort.reset (_ : Nat) : LinkPort :=
  { kind := .full, detects := 0, absents := 0, waitUntil := none, fails := 0, failSaid := false, inverted := false,
    ts1Seen := false, ts1Done := 0, adapted := false, ts2Rx := 0, verBad := false, wordLock := false, exch := [],
    pings := 0, attempts := 0, descr := 0xFFFFFF, scr := 0xFFFFFF, scrAt := 16, said := [], recent := [], good := 0, presetReq := 0, presetNeg := 0, descrOn := false, mism := 0, pmReq := 0, pmEnter := 0, pmAt := 0,
    lowFrame := 0, l0Next := false, retrain := false, ctrlEff := 0x0044F108, errTotal := 0, recTotal := 0, failTotal := 0,
    rejected := none, dlyBase := 0, rxBase := 0, dlyDue := false, rxDue := false, slot := none, slotWt := 0,
    resetIdle := false, refused := false, echoed := none }

/-- A LINK_RECALIBRATE in progress on a root link (R116): the slot or training it waits for has run (`ran`). -/
structure RecalCmd where
  cmd  : Nat
  port : Nat
  kind : Nat
  ran  : Bool
  deriving DecidableEq, Repr

structure Links where
  tab    : SMap LinkPort
  recals : List RecalCmd
  deriving DecidableEq, Repr

def Links.reset : Links := { tab := [], recals := [] }

/-! ### The device tree (05) -/

/-- One link below a root port: the root link itself (`hub` 0, `hport` 0) or a hub's downstream link (R116). -/
structure LinkSel where
  port  : Nat
  hport : Nat
  hub   : Nat
  deriving DecidableEq, Repr

/-- One enumerated device (R146). Delays are in 1/64 wt. -/
structure Device where
  link    : LinkSel
  tier    : Nat
  isHub   : Bool
  dual    : Bool
  cls     : Nat
  owner   : Nat          -- instance that owns the device, 0 the manager
  down    : Nat          -- delay from the root port's pins to the device's pins (R76)
  turn    : Nat          -- TURN on its upstream link (R126)
  fwd     : Nat          -- FWD_LATENCY of a hub (R144)
  ports   : Nat          -- NUM_PORTS
  ganged  : Bool         -- OC_MODE
  power   : Nat          -- POWER_PORTS
  eps     : List EpDesc
  susp    : Bool         -- below a link in L2
  alone   : Bool         -- its hub port was suspended by itself (R150)
  recov   : Bool         -- its hub last reported its upstream link in RECOVERY (R145, R225)
  wakeEn  : Bool         -- REMOTE_WAKE enabled
  wake    : Bool         -- WAKE_PENDING reported
  routes  : List (Nat × Nat)   -- a hub's route table as the H24 has written it
  groups  : List (Nat × Nat)   -- group slots set by SET_GROUP
  covered : Bool         -- carried by the partner (R353)
  deriving DecidableEq, Repr

/-- A link that a refusal or TREE_REMOVE_DEVICE keeps disabled, or whose hub-port power is removed (R141, R147, R158). -/
structure OffLink where
  link  : LinkSel
  power : Bool           -- its power is removed
  deriving DecidableEq, Repr

/-- Requests of R146, in order. -/
inductive EnumStep where
  | route0 | devDesc | serving | setAddr | routeA | status | unroute0 | epDesc | hubDesc | power | config
  deriving DecidableEq, Repr

/-- An enumeration in progress on a root port. `pos` counts the requests of a loop already complete. -/
structure Enum where
  link    : LinkSel
  step    : EnumStep
  pos     : Nat
  path    : List Nat         -- hubs from the root downward
  addr    : Nat
  tier    : Nat
  down    : Nat
  turn    : Nat
  hubInfo : Bool             -- the partner announced itself as a hub
  dev     : List Byte        -- DEVICE descriptor
  eps     : List Byte
  hubd    : List Byte
  repeats : Nat              -- SET_ADDRESS repeats (Races)
  page    : Option Nat       -- page of the address, once its directory entry is read (R164)
  waiting : Bool             -- a request is outstanding
  deriving DecidableEq, Repr

/-- A TREE_ENUMERATE in progress (R158). -/
structure EnumCmd where
  cmd     : Nat
  waits   : List LinkSel
  rescan  : List Nat         -- hub ports still to be re-read: hub address * 16 + port
  added   : Nat
  refused : Nat
  deriving DecidableEq, Repr

/-- Where a tree command on a link stands. -/
inductive LinkCmdStage where
  | asked      -- a request to the hub is outstanding
  | wait       -- the link has not reached the state it waits for
  | wakes      -- devices with REMOTE_WAKE are being read (R152)
  | done       -- it completes at the next tick
  deriving DecidableEq, Repr

/-- A tree command that waits for its link: TREE_PORT_RESET (0x0102), TREE_SUSPEND (0x0103), TREE_RESUME (0x0104),
TREE_REMOVE_DEVICE (0x0107; `count` devices removed). -/
structure LinkCmd where
  cmd   : Nat
  op    : Nat
  link  : LinkSel
  stage : LinkCmdStage
  takeFrame : Nat
  count : Nat
  deriving DecidableEq, Repr

/-- A LINK_RECALIBRATE on a hub's link (R116): the frame of the status stage of its SET_PORT_FEATURE, once it has come. -/
structure HubRecal where
  cmd   : Nat
  link  : LinkSel
  setAt : Option Nat
  deriving DecidableEq, Repr

/-- Stage of the control transfer (R131). -/
inductive CtlStage where
  | setup | data | status
  deriving DecidableEq, Repr

/-- One answer of the port in device mode: a handshake (CODE and REASON), or a packet with its data words. `sop`: BODY of its HSK or SOP
word (R119, R122). -/
structure DmSent where
  ep    : Nat
  hsk   : Option (Nat × Nat)
  sop   : Nat
  words : List Nat
  deriving DecidableEq, Repr

/-- Device mode of one root port (R153 to R157). -/
structure DevMode where
  port    : Nat
  on      : Bool
  info    : List Byte       -- CLASS to FLAGS of TREE_DEVICE_MODE
  buf     : SMap Word       -- TRE_DM_BUF
  groups  : List (Nat × Nat)
  setup   : List Nat        -- setup words of the standard request in progress on EP0, or none
  refused : Bool            -- it is not supported: its data and status stages are answered STALL
  stage   : CtlStage
  reply   : List Byte       -- data of its IN stage
  clsLen  : Nat             -- LENGTH of the class or vendor request in progress
  clsIn   : Bool            -- its data stage is IN
  moved   : Nat             -- bytes of the data stage acknowledged
  sentLen : Nat             -- bytes of the packet under way
  addrNext : Option Nat     -- SET_ADDRESS waiting for the ACK of its status packet
  armed   : Bool            -- FULL of EP0 was set by software
  token   : Option (Nat × Nat)   -- KIND and EP of the token whose packet is awaited
  await   : Option Nat      -- endpoint whose data packet awaits the downstream ACK
  lastSof : Option Nat      -- FRAME_SEQ of the current frame
  strobeAt : Option Nat     -- core cycle of the strobe that the SOF of this frame fixed
  lastStrobe : Option Nat   -- core cycle of the last strobe since the port accepted an SOF (R100)
  sofCyc  : Nat             -- core cycle at which that frame began, as the last SOF or flywheeled strobe placed it
  period  : Nat             -- PERIOD of the last SOF
  samples : List (Nat × Bool)   -- the last two samples taken: FRAME_SEQ, flywheeled (R100, R129)
  sec     : Nat             -- SYSTIME of the last strobe
  ns      : Nat
  ready   : Bool            -- software asked for a wake that may not be signalled yet (R151, R152)
  signalled : Bool          -- a remote wake has been signalled (R152)
  wake    : Bool            -- WAKE_PENDING
  beacons : Nat             -- wake beacons sent
  answers : List DmSent     -- answers of the current frame
  deriving DecidableEq, Repr

def DevMode.reset : DevMode :=
  { port := 0, on := false, info := [], buf := [], groups := [], setup := [], refused := false, stage := .setup, reply := []
    clsLen := 0, clsIn := false, moved := 0, sentLen := 0, addrNext := none, armed := false, token := none, await := none, lastSof := none
    strobeAt := none, lastStrobe := none, sofCyc := 0, period := 0, samples := [], sec := 0, ns := 0, ready := false, signalled := false, wake := false, beacons := 0
    answers := [] }

structure Tree where
  devs     : SMap (Option Device)
  enums    : List Enum
  waiting  : List (LinkSel × Bool × Nat × Nat)   -- links in L0 not yet enumerated: partner hub, one-way delay, TURN
  enumCmds : List EnumCmd
  linkCmds : List LinkCmd
  hubRecals : List HubRecal
  hubGets  : List (Nat × LinkSel)                -- LINK_GET_STATUS of hub links in progress
  offLinks : List OffLink
  resetPorts : List LinkSel                      -- hub ports that a request which has just completed reset (R149)
  dm       : DevMode
  deriving DecidableEq, Repr

def Tree.reset : Tree :=
  { devs := [], enums := [], waiting := [], enumCmds := [], linkCmds := [], hubRecals := [], hubGets := [], offLinks := [],
    resetPorts := [], dm := DevMode.reset }

/-! ### Endpoint contexts (R165) and the cache (R208) -/

structure Ctx where
  valid    : Bool
  typ      : Nat
  state    : Nat
  sea      : Nat
  inst     : Nat
  gen      : Nat
  entry    : Nat
  format   : Nat
  dfmt     : Nat
  toggle   : Nat
  maxWords : Nat
  k        : Nat
  phase    : Nat
  port     : Nat
  tier     : Nat
  hist     : Nat
  intent   : Nat
  handle   : Nat
  enq      : Nat
  deq      : Nat
  retries  : Nat
  done     : Nat
  runCrc   : Nat
  lastFrame : Nat
  newest   : Nat
  wcount   : Nat
  deferrals : Nat
  errors   : Nat
  noSample : Nat
  stale    : Nat
  wbSeq    : Nat
  deriving DecidableEq, Repr

/-- State of a cache entry (R208); `free` stands for a context that is not cached. -/
inductive CacheState where
  | free | fetching | clean | dirty | writing
  deriving DecidableEq, Repr

/-- A context of an enumerated endpoint: its value as the H24 acts on it (R165), where it stands, its pins and locks
(R208, R211), the frame of its last use, and the changes held for a page-in. -/
structure CtxEnt where
  ctx     : Ctx
  st      : CacheState
  held    : Bool
  autoPin : Bool
  explPin : Bool
  wbPin   : Bool         -- pinned until a write-back succeeds (R213)
  pinAt   : Nat          -- frame of the automatic pin
  locked  : Bool
  used    : Nat
  fails   : Nat          -- consecutive failed page-ins (R213)
  gone    : Bool         -- its device is removed: written back with VALID = 0, then freed (R212)
  defer   : Nat          -- deferrals to count once cached (R210)
  page    : Nat          -- address of its page, from the last directory read
  lateIn  : Option Nat   -- frame in which it counts as late (R402, PAGE_LATE)
  deriving DecidableEq, Repr

/-! ### Open instance-table entries (R168 to R183) -/

/-- The descriptor of a transfer ring in progress (R177). -/
structure Desc where
  index  : Nat
  bytes  : List Byte
  started : Option Nat     -- frame of its first transaction (R230)
  fails  : Nat             -- consecutive failures (R227)
  stage  : CtlStage
  moved  : Nat             -- bytes of the current data stage acknowledged
  zlp    : Bool            -- the closing zero-length packet is sent
  crcRun : Nat             -- CRC-32C state over the bytes moved
  stop   : Option (Nat × Nat)  -- CODE and DETAIL to end with once the transaction in progress has ended
  deriving DecidableEq, Repr

structure Entry where
  kind   : Nat            -- 0 completion ring, 1 transfer ring, 2 periodic list
  cring  : Nat
  sea    : Nat
  log2   : Nat
  e2e    : Bool
  format : Nat
  base   : Nat
  pasid  : Nat            -- [31] PASID_EN, [19:0] PASID
  gen    : Nat
  prod   : Nat            -- completion ring: producer and consumer indices, places reserved
  cons   : Nat
  resv   : Nat
  enq    : Nat            -- transfer ring
  deq    : Nat
  ringFrame : Nat         -- frame of the last RING
  ringPrev  : Nat         -- ENQ at the start of that frame: what is eligible in it (R172)
  live   : Bool           -- effective since a tick
  closing : Option (Nat × Nat)  -- CODE that the waiting descriptors end with, DETAIL of the CLOSED record (R175)
  desc   : Option Desc
  fetch  : Bool           -- a descriptor read is outstanding
  wrote  : Bool           -- periodic list: NEWEST holds an index written since OPEN
  deriving DecidableEq, Repr

/-- A completion record to be written (R180, R183): bytes 0x00 to 0x1B. -/
structure CRec where
  inst   : Nat
  gen    : Nat
  cring  : Nat
  entry  : Nat
  bytes  : List Byte
  notify : Bool
  resv   : Bool           -- a place was reserved for it
  deriving DecidableEq, Repr

/-- A doorbell that waits to be processed (R172): instance, OP, ENTRY, VALUE. -/
structure Door where
  inst  : Nat
  op    : Nat
  entry : Nat
  value : Nat
  deriving DecidableEq, Repr

structure Rings where
  tab    : SMap (Option Entry)    -- instance * 16,384 + entry
  doors  : List Door              -- doorbells waiting behind a table read, in order of arrival
  recs   : List CRec              -- records to be written, in order
  crOpen : List (Nat × Nat)       -- completion rings open in the order of R172
  deriving DecidableEq, Repr

def Rings.reset : Rings := { tab := [], doors := [], recs := [], crOpen := [] }

/-! ### The allocator and the pager (07) -/

/-- A placement that charges the maps. `handle` 0 for one that a MODIFY or RELEASE has replaced and that leaves at a tick. -/
structure Grant where
  key    : Nat            -- address * 16 + endpoint
  sea    : Nat
  k      : Nat
  phase  : Nat
  words  : Nat
  handle : Nat
  system : Bool
  owner  : Nat
  first  : Nat            -- first service frame (R199)
  leave  : Option Nat     -- frame at whose tick it leaves the maps (R200, R201)
  close  : Bool           -- its entry is closed then, with DETAIL 3
  gone   : Option (Nat × List Nat)   -- its device is removed: TYPE and link maps that it charges until it leaves (R202)
  deriving DecidableEq, Repr

/-- A request in progress and its judgement, made on the state at its start (R204, Races). `words` are the words admitted;
`old` is the handle that a MODIFY or a RELEASE ends. -/
structure AllocReq where
  op       : Nat
  sea      : Nat
  result   : Nat
  refusal  : Nat
  bwhat    : Nat
  blink    : Nat
  bport    : Nat
  baddr    : Nat
  handle   : Nat
  altK     : Nat
  altWords : Nat
  k        : Nat
  phase    : Nat
  words    : Nat
  first    : Nat
  old      : Nat
  deriving DecidableEq, Repr

structure Alloc where
  grants  : List Grant
  req     : Option AllocReq
  serial  : Nat
  rr      : SMap Nat               -- port * 64 + phase: round-robin counters (R195)
  full    : List (Nat × Nat)       -- map entries that count as full: map number, entry (R194)
  held    : List (Nat × Nat)       -- addresses held back, with the frame freed (R206)
  policy  : Option (List Byte)     -- values set by ALLOC_SET_POLICY, kept across a warm reset (R215)
  pinCmds : List (Nat × List Nat)  -- ALLOC_PIN_CONTEXTS in progress: command, contexts
  pinFull : Bool                   -- PIN_FULL raised in this frame (R211)
  waits   : List Nat               -- root ports whose enumeration waits for its system grant, in order of arrival (R204)
  deriving DecidableEq, Repr

def Alloc.reset : Alloc :=
  { grants := [], req := none, serial := 0, rr := [], full := [], held := [], policy := none, pinCmds := [],
    pinFull := false, waits := [] }

structure Pager where
  ctxs   : SMap (Option CtxEnt)    -- address * 16 + endpoint
  dirs   : List (Nat × Nat)        -- directory entries read in this frame (R209)
  issue  : List Nat                -- page-ins to issue, in order
  retry  : List (Nat × Nat)        -- failed page-ins, with the frame of the failure (R213)
  wbRetry : List (Nat × Nat)       -- failed write-backs, with the frame
  dirWait : List Nat               -- directory entries to be read when a read is to spare (R209)
  pinRule : Nat                    -- AUTO_PIN and PIN_K that the automatic pins follow (R211)
  deriving DecidableEq, Repr

def Pager.reset : Pager := { ctxs := [], dirs := [], issue := [], retry := [], wbRetry := [], dirWait := [], pinRule := 0 }

end Sys2Proof.Machine
end

