-- ==== Sys2Proof/Machine/BlocksCtl.lean ====
section
/-! DEFINITION. The state of the control side as plain data: host ports, boot and control pairs, mailboxes, time,
event controller, instances, Cairn (01, 02, 03, 10, 11, 16), each with its reset. Registers stand in the register file
(Machine/Regs.lean); these structures hold what the chapters give beyond the register tables. -/

namespace Sys2Proof.Machine

/-! ### Host ports (R26, R160, R234, R294) -/

/-- One posted write issued on a host port. `relaxed` is its Relaxed Ordering bit, `poisoned` its EP bit, `ecrc`
says that it carries an ECRC (R233). -/
structure HostWrite where
  port     : Side
  pasid    : Option Nat
  addr     : Nat
  data     : List Byte
  relaxed  : Bool
  poisoned : Bool
  ecrc     : Bool := false
  deriving DecidableEq, Repr

/-- What a host read was issued for. -/
inductive ReadUse where
  | directory   -- a directory entry (R209)
  | page        -- a context (R209)
  | table       -- an instance-table entry (R170)
  | desc        -- a transfer descriptor (R176)
  | ahead       -- a descriptor behind the one in progress, for its OUT data (R229)
  | out         -- bulk or control OUT data (R229): its offset is the descriptor's index * 2^24 + the offset in its data
  | slot        -- a periodic OUT slot (R187)
  | slotSeq     -- its second WSEQ (R187)
  | dmaDesc     -- a DMA descriptor (R237)
  | dmaSrc      -- DMA source data (R238)
  | fw          -- an image or the descriptors of GRAPH_LOAD, or the image of FW_STAGE (R63, R271): its key is the command
  deriving DecidableEq, Repr

/-- One non-posted read outstanding on a host port, tagged with the instance and generation of its work (R279, R282). -/
structure HostRead where
  tag   : Nat
  port  : Side
  pasid : Option Nat
  addr  : Nat
  len   : Nat
  use   : ReadUse
  inst  : Nat
  gen   : Nat
  key   : Nat       -- context, directory index, instance-table entry, DMA channel or command it serves
  frame : Nat       -- frame it is read for
  off   : Nat       -- offset of its first byte in the transfer
  dead  : Bool      -- marked at a reset of its instance: discarded when it completes (R282)
  ecrc  : Bool := false   -- it carries an ECRC (R233)
  deriving DecidableEq, Repr

structure HostSide where
  writes   : List HostWrite        -- posted writes, in the order of issue
  reads    : List HostRead         -- reads in the order of issue: of each port the first 256 (H0) or 128 (H1) are outstanding (R26)
  nextTag  : Nat
  msix     : List (Side × Nat)     -- messages sent, in order
  msixEcrc : List Bool             -- of each of these: it carried an ECRC (R233)
  msixMask : List (Side × Nat)     -- vectors masked by their vector control
  msixPend : List (Side × Nat)     -- Pending Bits
  msixTab  : SMap Word             -- message addresses and data of the two MSI-X tables, by word: H1's from 1,024
  readData : Nat                   -- value the last register read returned
  readEcrc : Bool                  -- its completion carried an ECRC (R233)
  ur       : List Side             -- Unsupported Requests reported, in order
  ecrcErr  : List Side             -- ECRC errors of host writes reported through AER, in order (R233)
  ecrcGen  : List Side             -- ports with ECRC Generation Enable set in their AER capability (R233)
  ecrcChk  : List Side             -- ports with ECRC Check Enable set
  deriving DecidableEq, Repr

/-- (DESIGN CHOICE, log entry 24.) (DESIGN CHOICE, log entry 214.) -/
def HostSide.reset : HostSide :=
  { writes := [], reads := [], nextTag := 0, msix := [], msixEcrc := [], msixMask := [], msixPend := [], msixTab := [], readData := 0, readEcrc := false, ur := [],
    ecrcErr := [], ecrcGen := [], ecrcChk := [] }

/-! ### Boot and control pairs (02) -/

/-- Where the boot sequence of R47 stands. -/
inductive BootStage where
  | held        -- RST_N low or supplies out of range
  | regulators  -- T0 passed, regulators starting
  | reference   -- regulators ready, waiting for the reference
  | pll         -- system PLL started
  | rom         -- boot ROM runs, header read
  | loaded      -- an image is loaded into both pairs
  | recovery    -- no image accepted
  | running     -- GLB_STATUS.FW_RUNNING has become 1
  | asleep      -- the logic die is off in SLEEP (R375)
  | stopped     -- a regulator or rail failure stopped the logic die
  deriving DecidableEq, Repr

/-- A warm reset requested and not yet begun: the frame of its tick and the REASON it will report. -/
structure WarmReq where
  frame  : Nat
  reason : Nat
  deriving DecidableEq, Repr

structure Boot where
  stage   : BootStage
  rstN    : Bool
  vaoOk   : Bool
  vinOk   : Bool
  barPort : Side
  barOpen : Bool
  reason  : Nat
  warm    : Option WarmReq
  gpio    : Nat          -- GPIO balls that the configuration store has assigned; 0: inputs with pull-down (R419)
  deriving DecidableEq, Repr

def Boot.reset : Boot :=
  { stage := .held, rstN := false, vaoOk := false, vinOk := false, barPort := .h0, barOpen := false, reason := 1, warm := none, gpio := 0 }

/-- State of one control pair. -/
inductive PairMode where
  | none | loading | ready | active | halted
  deriving DecidableEq, Repr

structure CtlPair where
  mode : PairMode
  slot : Nat        -- image slot it holds: 0 A, 1 B
  wd   : Nat        -- frames since the watchdog was restarted (R53)
  back : Option (PairMode × Nat)  -- while FW_LOAD_STANDBY loads it: what it was and held before (R40, R63)
  deriving DecidableEq, Repr

def CtlPair.reset : CtlPair := { mode := .none, slot := 0, wd := 0, back := none }

/-- An outstanding FW_SWITCH (R57): its command, target frame, and the handover state's format byte once written and
whether the standby pair has accepted it. -/
structure FwSwitch where
  cmd      : Nat
  target   : Nat
  stopped  : Bool
  written  : Option Nat
  accepted : Option Bool
  deriving DecidableEq, Repr

/-- The fuses (R46, R59). -/
structure Fuses where
  key0     : Option (List Byte)
  key1     : Option (List Byte)
  key1Uses : Nat
  sec      : Nat
  deriving DecidableEq, Repr

structure Firmware where
  pairA      : CtlPair
  pairB      : CtlPair
  lastCause  : Nat
  lastFrame  : Nat
  takeoverAt : Option Nat
  switch     : Option FwSwitch
  nonce      : Option (Nat × Nat)    -- value and issue frame (R61)
  fuses      : Fuses
  eccAt      : Option Nat            -- core cycle of the error in GLB_ECC_LAST (R31)
  fresh      : Nat                   -- counter the free values are applied to (MODEL's own)
  deriving DecidableEq, Repr

/-- (DESIGN CHOICE, log entry 5.) -/
def Firmware.reset : Firmware :=
  { pairA := CtlPair.reset, pairB := CtlPair.reset, lastCause := 0, lastFrame := 0, takeoverAt := none, switch := none,
    nonce := none, fuses := { key0 := none, key1 := none, key1Uses := 0, sec := 0 }, eccAt := none, fresh := 0 }

/-! ### Mailboxes (02) -/

/-- One command that the active pair has taken (R36). `id` counts takes; `target` is the frame of AT_FRAME. -/
structure Cmd where
  id        : Nat
  mbx       : Nat
  slot      : Nat
  tag       : Nat
  gen       : Nat
  opcode    : Nat
  req       : List Byte
  target    : Option Nat
  takeFrame : Nat
  timeout   : Nat
  pend      : Bool
  begun     : Bool      -- its own rules are judged and its work has begun
  ended     : Option (Nat × Nat × Nat × List Byte)  -- it has ended while no pair could write its slot: status, DETAIL, EFFECT_FRAME, response (R53)
  ring      : Nat × Nat × Bool := (0, 0, false)  -- Cairn's LAST_SEQ, NEXT and WRAPPED at the take (R395)
  deriving DecidableEq, Repr

/-- The outcome kept for a PENDING command (R39). -/
structure PendOutcome where
  mbx    : Nat
  tag    : Nat
  id     : Nat
  done   : Bool
  status : Nat
  detail : Nat
  frame  : Nat
  resp   : List Byte
  deriving DecidableEq, Repr

/-- One journal entry in the firmware area of Tarn (R19, R54): a command's mailbox, slot, TAG and generation, and its status after
the commit. The journal itself is a field of State, since Tarn keeps it over the resets that clear the mailboxes (R20). -/
structure Journal where
  id     : Nat
  mbx    : Nat
  slot   : Nat
  tag    : Nat
  gen    : Nat
  status : Option Nat
  deriving DecidableEq, Repr

structure Mailbox where
  slots    : Memory                 -- mailbox m, slot s at m * 0x800 + s * 0x100
  rung     : List (Nat × Nat)       -- (mailbox, slot) in arrival order
  taken    : List Cmd
  nextId   : Nat
  outcomes : List PendOutcome
  cpReqs   : List CpReq
  cpStack  : List (Nat × CpReq)     -- priority and request, top first
  cpAnswer : Nat                    -- what the last claim of the control pairs' port returned (R305)
  deriving DecidableEq, Repr

def Mailbox.reset : Mailbox :=
  { slots := [], rung := [], taken := [], nextId := 0, outcomes := [], cpReqs := [], cpStack := [],
    cpAnswer := 0x3FF }

/-! ### The frame and system time (03) -/

/-- Region of the current frame that has been reached (R68, R70). -/
inductive FramePhase where
  | running   -- before Col
  | col       -- Col has begun
  | stopped   -- the hard stop has passed
  deriving DecidableEq, Repr

/-- A TIME_SET_FRAME_PERIOD that waits for its boundary (R88). -/
structure PeriodChange where
  cmd    : Nat
  code   : Nat
  strobe : Nat
  target : Nat
  deriving DecidableEq, Repr

/-- The discipline loop's hidden state (R79 to R82). Instants are counts of core cycles. -/
structure Discipline where
  integ    : Int            -- in 1/1024 ppb
  integPrev : Int           -- integ before the update that waits for its tick
  acqCount : Nat
  lastAcc  : Option Nat
  judged   : Option Nat
  entry    : Nat
  hoFromLocked : Bool
  rejErrs  : List Int       -- errors of the consecutive rejected edges, newest first
  uncertBase : Nat
  hoPpb    : Nat
  sleepPpb : Nat
  accTotal : Nat
  rejTotal : Nat
  accAge   : Option Nat     -- frames since the last accepted edge
  deriving DecidableEq, Repr

def Discipline.reset : Discipline :=
  { integ := 0, integPrev := 0, acqCount := 0, lastAcc := none, judged := none, entry := 0, hoFromLocked := true, rejErrs := [],
    uncertBase := 0xFFFFFFFF, hoPpb := 2000, sleepPpb := 200000, accTotal := 0, rejTotal := 0, accAge := none }

/-- The SOF of one frame on one root port (R75, R98): the 16 line-word bodies. -/
structure SofSent where
  port  : Nat
  frame : Nat
  accDelay : Nat
  words : List Nat
  deriving DecidableEq, Repr

structure Time where
  cyc        : Nat           -- core cycles elapsed
  sys        : Nat           -- SYSTIME in units of 2^-32 ns
  frameNo    : Nat
  ticking    : Bool
  started    : Bool          -- the first tick has occurred
  boundary   : Nat           -- boundary of the current frame, in ns
  stamp      : Nat           -- SYSTIME at the tick
  phase      : FramePhase
  overrunNow : Bool
  tickCyc    : Nat           -- core cycle of the tick
  colWt      : Nat           -- word time of the frame's start of Col, fixed at the tick (R67, R68)
  counting   : Bool          -- FRAME_NO counts boundaries while ticks are suspended (R66)
  waitTick   : Bool          -- reconstructed, and no tick since (R86)
  recon      : Bool          -- a reconstruction is due at an RTC edge (R86)
  ctrlEff    : Word          -- TIM_CTRL in effect (R15)
  corrResid  : Int           -- ns
  loopCorr   : Bool          -- the residual began at the current tick, by the loop
  share      : Int           -- ns slewed in this frame's Col
  slew       : Int           -- part of it not yet applied, in 2^-32 ns (R73)
  corrReq    : Option (Bool × Int)   -- correction for the next tick: relative?, ns
  rateNext   : Option Int
  disc       : Discipline
  period     : Option PeriodChange
  frameOut   : Bool
  ppsOut     : Bool
  ppsFall    : Option Nat
  rtc        : Nat
  calStart   : Option Nat
  calBad     : Bool
  sleepSnap  : Bool
  sofs       : List SofSent
  jumps      : Nat           -- whole-period corrections so far (R73)
  deriving DecidableEq, Repr

def Time.reset : Time :=
  { cyc := 0, sys := 0, frameNo := 0, ticking := false, started := false, boundary := 0, stamp := 0, phase := .running,
    overrunNow := false, tickCyc := 0, colWt := 0, counting := false, waitTick := false, recon := false,
    ctrlEff := 0x32019001, corrResid := 0, loopCorr := false, share := 0, slew := 0,
    corrReq := none, rateNext := none, disc := Discipline.reset, period := none, frameOut := false, ppsOut := false,
    ppsFall := none, rtc := 0, calStart := none, calBad := false, sleepSnap := false, sofs := [], jumps := 0 }

/-! ### Event controller (11) -/

/-- State of a source (R291). -/
inductive SrcState where
  | inactive | pending | offered | inService
  deriving DecidableEq, Repr

/-- One event source (R290 to R293, R302). -/
structure Source where
  st       : SrcState
  mask     : Bool
  claim    : Bool
  holdoff  : Nat
  prio     : Nat
  targets  : Nat
  owner    : Nat
  quar     : Bool
  occ      : Nat
  run      : Nat
  arg      : Nat
  sw       : Bool
  held     : Bool
  first    : Option (Nat × Nat)   -- FRAME_NO and NS of the first occurrence since the last commit
  commitAt : Option Nat           -- frame of the last commit whose hold-off may run
  inQueues : List Nat             -- physical queues that hold its record while OFFERED
  server   : Option Nat           -- physical queue that claimed it
  ownerNext : Option Nat          -- OWNER written, effective at the next tick
  quarDue  : Bool                 -- RUN would have reached 4,096 at the last tick (R302)
  deriving DecidableEq, Repr

/-- A record committed and not yet written: physical queue, index, PHASE, the first three words, NS, owner instance and
generation. -/
structure EventRec where
  queue : Nat
  index : Nat
  phase : Nat
  word0 : Nat
  arg   : Nat
  frame : Nat
  ns    : Nat
  inst  : Nat
  gen   : Nat
  commit : Nat       -- number of the commit it belongs to
  old   : Bool := false  -- the queue has been enabled anew since its commit
  deriving DecidableEq, Repr

/-- A commit whose records are not all written (R424): the source as it stood before, records left, written and lost. -/
structure CommitOut where
  id     : Nat
  source : Nat
  before : Source
  left   : Nat
  landed : Nat
  lost   : List Nat   -- queues that lost it
  deriving DecidableEq, Repr

structure EventCtl where
  srcs    : SMap Source
  records : List EventRec
  commits : Nat             -- commits so far
  outs    : List CommitOut
  qInst   : SMap Nat        -- 1 + instance that holds the physical queue, 0 none
  wakeIn  : Nat             -- levels of WAKE0 to WAKE3
  wakeCap : Nat             -- latches whose RTC capture is due at the next RTC edge
  deriving DecidableEq, Repr

/-- Kind of each source (R289). -/
def srcLevel (s : Nat) : Bool := 8 ≤ s && s ≤ 26

/-- Sources whose ARG accumulates by OR (R289). -/
def srcOr (s : Nat) : Bool := 512 ≤ s && s ≤ 1022 && ((s - 512) % 8 = 1 || (s - 512) % 8 = 2 || (s - 512) % 8 = 3)

/-- Source numbers that the table of R289 assigns. -/
def srcExists (s : Nat) : Bool := s ≤ 26 || (32 ≤ s && s ≤ 35) || (512 ≤ s && s < 1023 && (s - 512) % 8 ≠ 7)

/-- The instance that owns source `s` at reset (R289). -/
def srcOwner0 (s : Nat) : Nat := if 512 ≤ s then (s - 512) / 8 else 0

/-- A source at cold reset (the Reset columns of R306). -/
def Source.reset (s : Nat) : Source :=
  { st := .inactive, mask := false, claim := srcLevel s, holdoff := 0, prio := 0, targets := 1, owner := srcOwner0 s,
    quar := false, occ := 0, run := 0, arg := 0, sw := false, held := false, first := none, commitAt := none,
    inQueues := [], server := none, ownerNext := none, quarDue := false }

def EventCtl.reset : EventCtl := { srcs := [], records := [], commits := 0, outs := [], qInst := [], wakeIn := 0, wakeCap := 0 }

/-! ### Instances (10) -/

/-- One virtual instance. Its existence, port, generation and counts are in INS_Ii_STATE and its neighbours. -/
structure Instance where
  exist    : Bool
  port     : Side
  gen      : Nat
  dma      : List Nat          -- physical channels, ascending
  queues   : List Nat          -- physical event queues, ascending
  allot    : Nat
  share    : Nat
  table    : Nat
  tablePasid : Nat             -- [31] PASID_EN, [19:0] PASID
  window   : Nat               -- [31] REQUIRE, [24:20] PASID_LOG2, [19:0] PASID_BASE
  ranges   : List (Nat × Nat)
  discards : Nat               -- since creation
  lateSeen : Bool              -- a discard since the last reset has raised INS_EVENT.LATE
  deriving DecidableEq, Repr

/-- An instance at cold reset. Instance 0's window, which no rule states, takes every PASID (DESIGN CHOICE, log entry 6). -/
def Instance.reset (i : Nat) : Instance :=
  { exist := i = 0, port := .h0, gen := 0, dma := [], queues := [], allot := 0, share := 0, table := 0, tablePasid := 0,
    window := if i = 0 then 0x1400000 else 0, ranges := [], discards := 0, lateSeen := false }

/-- Instances and the resets that wait for a tick (R280, R283). -/
structure Instances where
  tab     : SMap Instance
  resetAt : List Nat           -- instances reset at the next tick by R283
  portRst : Bool               -- a port reset waits for it: PORT_RESET
  resetOn : List Nat           -- instances reset at the current tick (R284)
  portOn  : List Nat           -- those among them that a port reset has reset (R283)
  deriving DecidableEq, Repr

def Instances.reset : Instances := { tab := [], resetAt := [], portRst := false, resetOn := [], portOn := [] }

/-! ### Cairn (16) -/

/-- A record before it is written (R388). -/
structure CairnRec where
  kind   : Nat
  code   : Nat
  rpt    : Nat
  arg    : Nat
  frame  : Nat
  sec    : Nat
  us     : Nat
  est    : Bool
  held   : Bool
  power  : Nat
  ord    : Nat := 0   -- place in the order in which records were raised (R390)
  deriving DecidableEq, Repr

/-- The holding queue and the shadow ring after VAO has been out of range: undefined (R20). Free, by a counter. -/
opaque Config.tarnHold : Nat → List (CairnRec × Nat)
opaque Config.tarnShadow : Nat → List (Nat × CairnRec)

/-- A byte of a slot whose write failed its read-back twice (R394), by a counter and the address. Free. (DESIGN CHOICE, log entry 256.) -/
opaque Config.mramTorn : Nat → Nat → Byte

/-- Which write of Cairn a loss of supply cuts, and what it leaves (R393), by a counter: 0 none, 1 a torn record, 2 a record without its header, 3 a
record with a torn header, 4 a torn rewrite. Free. (DESIGN CHOICE, log entry 274.) -/
opaque Config.mramCut : Nat → Nat

/-- The last failure of a pattern test of CRN_CLEAR that does not pass (R396, R397): place, slot, and the further failures. The row of its outcome
carries none of them: free, by a counter. (DESIGN CHOICE, log entry 275.) -/
opaque Config.patternFail : Nat → Nat × Nat × Nat

/-- As these, the firmware's journal. -/
opaque Config.tarnJournal : Nat → List Journal

/-- The newest record written, for merging (R391). -/
structure CairnLast where
  record  : CairnRec
  seq     : Nat
  slot    : Nat
  latest  : Nat      -- frame of the latest merged occurrence
  rewrote : Nat      -- frame of the last rewrite
  dirty   : Bool
  deriving DecidableEq, Repr

/-- A CRN_CLEAR in progress (R396). -/
structure CairnClear where
  cmd     : Nat
  scope   : Nat
  keySlot : Nat
  erased  : Bool     -- the ring is erased and the CLEAR record is to be written
  failed  : Bool     -- a pattern test failed
  deriving DecidableEq, Repr

structure Cairn where
  mram     : Memory
  shadow   : List (Nat × CairnRec)   -- shadow ring in Tarn, oldest first, with SEQ
  hold     : List (CairnRec × Nat)   -- holding queue in Tarn, oldest first, with the frame of the latest merged occurrence
  queue    : List (CairnRec × Nat)   -- commit queue, oldest first, in the same form
  draining : Bool
  raised   : Nat                     -- records raised so far (R390)
  cycle    : Nat × Nat               -- core cycle of the latest raise, and the place of the first record raised in it (R392, Races)
  flush    : Bool                    -- PFI_N: the pending rewrite and the header go out (R387, R393)
  shadowAt : Option Nat              -- frame of the latest merged occurrence of the shadow ring's newest record (R391)
  undef    : Bool                    -- Tarn has lost its contents since the shadow ring was written (R20)
  opFrom   : Nat                     -- core cycle up to which OP_SEC counts, and cycles short of a second (R387)
  opCyc    : Nat
  last     : Option CairnLast
  frozenAt : Option Nat              -- frame of the latest CRN_FREEZE or CRN_READ while frozen
  lostRun  : Nat                     -- dropped since the last LOST record
  lostAll  : Nat                     -- since cold reset
  holdLost : Nat                     -- dropped from the holding queue in this freeze
  holdAll  : Nat                     -- since cold reset
  powerCycles : Nat
  opSec    : Nat
  lastSeq  : Nat
  next     : Nat
  wrapped  : Bool
  media    : Bool
  clears   : Nat
  logNext  : Nat
  update   : Nat
  copy     : Nat                     -- header copy that is current
  clearing : Option CairnClear
  hdrAt    : Nat                     -- OP_SEC at the last header write
  reads    : List (Nat × Nat)        -- CRN_READ commands in progress, with LAST_SEQ at take
  deriving DecidableEq, Repr

def Cairn.reset : Cairn :=
  { mram := [], shadow := [], hold := [], queue := [], draining := false, raised := 0, cycle := (0, 0), flush := false, shadowAt := none, undef := false, opFrom := 0, opCyc := 0, last := none,
    frozenAt := none, lostRun := 0, lostAll := 0, holdLost := 0, holdAll := 0, powerCycles := 0, opSec := 0,
    lastSeq := 0, next := 0, wrapped := false, media := false, clears := 0, logNext := 0, update := 0, copy := 0,
    clearing := none, hdrAt := 0, reads := [] }

end Sys2Proof.Machine
end

