-- ==== Sys2Proof/Machine/BlocksMains.lean ====
section
/-! DEFINITION. The state of the mains observer as plain data (13_mains_observer.md), with its reset. Samples are in microvolts
at the pins, instants in ns of SYSTIME. -/

namespace Sys2Proof.Machine

/-- Settings, results and running sums of one channel (R336, R337, R341). `ppm` is its gain trim, `nextPpm` one that waits
for its tick. -/
structure MainsCh where
  udin    : Nat           -- 0.1 V
  fsv     : Nat           -- 0.1 V
  ppm     : Int
  nextPpm : Option Int
  half    : Nat           -- latest Urms(1/2), 0.01 % of UDIN
  ten     : Nat           -- latest 10/12-cycle magnitude
  sumSq   : Nat           -- squares of the 10/12-cycle interval under way
  count   : Nat
  dip     : Bool
  swell   : Bool
  int     : Bool
  overRng : Bool          -- over-range in this frame
  deriving DecidableEq, Repr

def MainsCh.reset (_ : Nat) : MainsCh :=
  { udin := 0, fsv := 0, ppm := 0, nextPpm := none, half := 0, ten := 0, sumSq := 0, count := 0, dip := false, swell := false
    int := false, overRng := false }

/-- A polyphase event in progress: start stamp, channels that took part, extreme value (R338). -/
structure MainsEvent where
  start : Nat
  chans : Nat
  ext   : Nat
  deriving DecidableEq, Repr

/-- The last polyphase event to end: MNS_EVT_INFO, SEC, NS, DUR (R342). -/
structure MainsLast where
  info : Nat
  sec  : Nat
  ns   : Nat
  dur  : Nat
  deriving DecidableEq, Repr

/-- A calibration (R341): squares and counts of the 10-cycle groups, newest first, and cycles seen. -/
structure MainsCal where
  cmd    : Nat
  ch     : Nat
  vref   : Nat
  cycles : Nat
  groups : List (Nat × Nat)
  deriving DecidableEq, Repr

structure Mains where
  chs     : SMap MainsCh
  wiring  : Nat
  dipAt   : Nat
  swellAt : Nat
  intAt   : Nat
  hyst    : Nat
  fLow    : Nat
  fHigh   : Nat
  samples : List (Nat × List Int)    -- instant and values of the four channels, newest first, of the last cycles
  marks   : List Nat                 -- half-cycle instants, newest first
  rise    : Option Nat               -- latest positive-going zero crossing of the reference channel
  cycle   : Nat                      -- length of the last cycle, in ns
  good    : Nat                      -- consecutive cycles within 15 % of F_NOM
  freq    : Nat                      -- one-cycle frequency, mHz
  excRun  : Nat                      -- consecutive cycles that speak against the excursion state
  dip     : Option MainsEvent
  swell   : Option MainsEvent
  int     : Option MainsEvent
  exc     : Option MainsEvent
  tenCyc  : Nat                      -- cycles of the 10/12-cycle interval under way
  tenFlag : Bool                     -- a dip, swell or interruption overlapped it
  tenLast : Bool                     -- the latest value is flagged
  secA    : Option Nat               -- first and last crossing, and cycles, of the 10 s interval under way
  secB    : Nat
  secN    : Nat
  secJump : Nat                      -- whole-period corrections at its start
  freq10  : Nat
  cal     : Option MainsCal
  last    : MainsLast
  dips    : Nat                      -- totals since cold reset
  swells  : Nat
  ints    : Nat
  excs    : Nat
  word    : List Nat                 -- the committed word
  late    : Option (List Nat)        -- a word finished after its tick, which is committed at the following one (Races of 01)
  deriving DecidableEq, Repr

def Mains.reset : Mains :=
  { chs := [], wiring := 0, dipAt := 9000, swellAt := 11000, intAt := 500, hyst := 200, fLow := 1000, fHigh := 1000
    samples := [], marks := [], rise := none, cycle := 0, good := 0, freq := 0, excRun := 0, dip := none, swell := none
    int := none, exc := none, tenCyc := 0, tenFlag := false, tenLast := false, secA := none, secB := 0, secN := 0
    secJump := 0, freq10 := 0, cal := none, last := { info := 0, sec := 0, ns := 0, dur := 0 }, dips := 0, swells := 0
    ints := 0, excs := 0, word := List.replicate 16 0, late := none }

end Sys2Proof.Machine
end

