-- ==== Sys2Proof/Machine/BlocksPair.lean ====
section
/-! DEFINITION. The state of pairing as plain data (14_pairing_and_systems.md), with its reset. The settings and states that the
PAR registers show stand in the register file. -/

namespace Sys2Proof.Machine

/-- A message sent on a Saddle link (R347). Its coding is internal to the part (R346). `intent` and `verdict` are the two halves
of R354; `release` asks the partner to take hubs (R363); `stopAck` acknowledges STOP (R369). -/
inductive SaddleMsg where
  | heartbeat (number frame partner d : Nat) (pfail : Bool)
  | time (source sec ns uncert state : Nat) (est : Bool) (delay hops : Nat)
  | mirror (items : List MirrorItem)
  | handover (hubs : List Nat) (frame : Nat)
  | spurLost (hub : Nat)
  | stop
  | stopAck
  | release (hubs : List Nat) (frame : Nat)
  | intent (key k words : Nat) (modify : Bool)
  | verdict (key result code bwhat blink bport baddr altK altWords : Nat)
  deriving DecidableEq, Repr

/-- What started a takeover (R357). -/
inductive Trigger where
  | down | powerFail | spurLost | command
  deriving DecidableEq, Repr

/-- A takeover (R357): its hubs, trigger frame `g`, the first service frame to catch up, the hubs whose SELECT_UPSTREAM has
completed, and whether its tick g + 1 has passed. -/
structure Take where
  hubs : List Nat
  why  : Trigger
  g    : Nat
  lo   : Nat
  sel  : List Nat
  live : Bool
  deriving DecidableEq, Repr

/-- A hub moving to this controller by orderly handover (R363): its target frame, the frames tried, the state of its
SELECT_UPSTREAM and whether a HANDOVER has told the partner. -/
structure Move where
  hub  : Nat
  target : Nat
  tries : Nat
  sel  : Bool
  told : Bool
  deriving DecidableEq, Repr

/-- A PAIR_TAKEOVER, PAIR_RELEASE or PAIR_PREPARE_REPLACE in progress (R369): hubs that still move, moved and left; the frame at
which what has not moved is left. `stop`: STOP follows; `asked`: it has been sent. -/
structure PairCmd where
  cmd   : Nat
  op    : Nat
  hubs  : List Nat
  moved : Nat
  left  : Nat
  ends  : Nat
  asked : Bool
  deriving DecidableEq, Repr

/-- What a follower uses of a TIME message (R349); `err` is e. -/
structure TimeUse where
  source : Nat
  ns     : Nat
  uncert : Nat
  state  : Nat
  est    : Bool
  hops   : Nat
  err    : Int
  deriving DecidableEq, Repr

/-- The own link through which a dual-homed hub of the partner's is reached (R353), with that link's delay (1/64 wt) and TURN. -/
structure Placed where
  hub   : Nat
  link  : LinkSel
  delay : Nat
  turn  : Nat
  deriving DecidableEq, Repr

structure Pair where
  out       : List (Nat × SaddleMsg)  -- link and message, sent since the tick
  heard     : List (Nat × Nat)        -- link and number of the HEARTBEATs of this frame
  heardPrev : List Nat                -- numbers heard in the frame before
  ringOff   : Nat                     -- the ring's FRAME_NO less this controller's (R351)
  usedTime  : Bool                    -- the TIME message of this boundary is used (R349)
  longTime  : Option TimeUse          -- that of the path with more hops, while the other has delivered none (R349)
  srcEst    : Bool                    -- TIME_EST of the source
  srcHold   : Bool                    -- the source is in HOLDOVER
  base      : Nat                     -- TIM_UNCERT by the last TIME message
  lastMsg   : Nat                     -- core cycle of that message, or of the entry into FOLLOW
  holds     : Bool                    -- HOLDOVER was entered from FOLLOW
  fresh     : Bool                    -- no loop update since FOLLOW was entered
  joinRun   : Nat                     -- consecutive loop updates within 100 ns while JOIN is armed
  view      : List MirrorItem         -- what has been mirrored to the partner
  togs      : List (Nat × Nat)        -- contexts and toggles of the carried dual-homed endpoints at the previous tick (R355)
  known     : List MirrorItem         -- devices and grants that the partner carries, as its MIRROR last said (R353)
  ups       : SMap Nat                -- upstream port of a dual-homed hub that leads here, U0 until it is known (R357)
  pports    : SMap Nat                -- the partner's root port towards it (R369)
  uncov     : List Nat                -- uncovered devices (R353)
  intents   : List Grant              -- intents of the partner admitted and not yet mirrored (R354)
  takes     : List Take
  moves     : List Move
  leaving   : List (Nat × Nat)        -- hubs that the partner takes, and the frame
  cmds      : List PairCmd
  resets    : List Nat                -- contexts that wait for RESET_ENDPOINT
  adopt     : List Nat                -- contexts that take the toggle of their first good packet
  lost      : List Nat                -- hubs declared lost in this frame (R359)
  silent    : List Nat                -- devices of transactions without an answer in this frame
  spoke     : List Nat                -- devices that answered in this frame
  stopped   : Bool                    -- STOP has been received (R364)
  pfi       : Option Nat              -- frame of PFI_N's stamp while its conditions hold (R365)
  pfiHubs   : List Nat                -- hubs omitted since the tick after it
  pfiHold   : Bool                    -- PFI_N has deasserted in this frame: descriptors start again from the next tick (R414)
  takeovers : Nat                     -- since cold reset
  lostAll   : Nat                     -- catch-up samples lost since cold reset
  saved     : Option (List Byte)      -- settings of PAIR_CONFIGURE in the flash's persistent data
  savedNo   : Option Nat              -- number of PAIR_SET_NUMBER there
  placed    : List Placed := []       -- own links of the partner's dual-homed hubs (R353)
  tried     : List (LinkSel × Nat) := []  -- a link with a hub, and a hub of the partner's that does not answer through it
  foreign   : List LinkSel := []      -- links with a dual-homed hub whose serving port is not this controller's (R353)
  whole     : Bool := false           -- the partner became UP: the whole mirror goes out at the next tick (R355)
  lockLost  : List Nat := []          -- links that lost word lock in this frame: a root port, or 8 + the address of a device below a hub (R359)
  deriving DecidableEq, Repr

def Pair.reset : Pair :=
  { out := [], heard := [], heardPrev := [], ringOff := 0, usedTime := false, longTime := none, srcEst := false, srcHold := false, base := 0
    lastMsg := 0, holds := false, fresh := false, joinRun := 0, view := [], togs := [], known := [], ups := [], pports := [], uncov := [], intents := [], takes := []
    moves := [], leaving := [], cmds := [], resets := [], adopt := [], lost := [], silent := [], spoke := [], stopped := false
    pfi := none, pfiHubs := [], pfiHold := false, takeovers := 0, lostAll := 0, saved := none, savedNo := none }

end Sys2Proof.Machine
end

