-- ==== Sys2Proof/Machine/BlocksPdm.lean ====
section
/-! DEFINITION. The state of the power domains as plain data (15_power_domains.md), with its reset. Domain states, the DVFS point and
the wake configuration stand in the PDM registers. -/

namespace Sys2Proof.Machine

/-- The wake-failure capture in the save-area header (R380). -/
structure Capture where
  fail    : Nat           -- PDM_FAIL
  rtc     : Nat           -- RTC count [31:0] at the failure
  pending : Bool
  deriving DecidableEq, Repr

/-- A DVFS change (R381): its PD_SET_DVFS (none for bus-keep), target and old point, the code driven before, the core cycle at which DVS_PG asserted.
`begun`: its DVFS_CHANGE has been made. -/
structure DvsChange where
  cmd    : Option Nat
  target : Nat
  old    : Nat
  code   : Nat
  begun  : Bool
  pg     : Option Nat
  deriving DecidableEq, Repr

/-- What BUS_KEEP returns to (R373, R374): states of the standby pair and the cluster and the point before entry, root links
taken to L1, wake levels seen at entry; `door`: a doorbell has been rung since. -/
structure Keep where
  standby : Nat
  clu     : Nat
  point   : Nat
  links   : List Nat
  seen    : Nat
  door    : Bool
  deriving DecidableEq, Repr

/-- An exit from BUS_KEEP under way (R374): core cycle of the trigger, frame at whose tick DEVICE is RUN, sources. -/
structure Leave where
  cyc     : Nat
  frame   : Nat
  sources : Nat
  door    : Bool
  deriving DecidableEq, Repr

/-- A PD_SLEEP that waits for its effect tick (R384). -/
structure SleepDue where
  frame  : Nat
  depth  : Nat
  cluOff : Bool
  deriving DecidableEq, Repr

/-- The save area (R376): register words, sources, instances, holders of the queues, allocation policy, the slot running and FRAME_NO
of E, HO_PPB and SLEEP_PPB. -/
structure Save where
  regs   : SMap Word
  srcs   : SMap Source
  inst   : SMap Instance
  qInst  : SMap Nat
  policy : Option (List Byte)
  slot   : Nat
  frame  : Nat
  hoPpb  : Nat
  sleepPpb : Nat
  mains  : Mains
  deriving DecidableEq, Repr

/-- Bytes of the save area's regions before their CRC, whose layout inside a region R376 does not give: free, fixed by what is saved and by the
offset. (DESIGN CHOICE, log entry 243.) -/
opaque Config.saveByte : Save → Nat → Byte

/-- The save area and the wake-failure capture after VAO has been out of range: undefined (R20). Free, by a counter. (DESIGN CHOICE, log entry 37.) -/
opaque Config.tarnSaved : Nat → Option Save
opaque Config.tarnCapture : Nat → Option Capture

structure Pdm where
  seq      : Bool               -- the sequenced order is in use
  rail     : Nat                -- rail whose stage runs in that order: 1 to 4; 0 in the fast order
  en       : Nat                -- SEQ_EN_IO, CORE, DVS, PHY as bits 0 to 3
  fails    : Nat                -- failed attempts of this bring-up
  retry    : Bool               -- a retry waits its 1 s
  lost     : Bool               -- a rail has been lost; the boot of R413 waits its 1 s
  pfiStop  : Bool               -- PFI_N stopped a wake; it restarts at deassertion
  waking   : Bool               -- a wake from SLEEP is under way
  fired    : Nat                -- wake sources that have fired in it
  tphyCmd  : Option Nat         -- PD_SET_STATE bringing TPHY up
  stdCmd   : Option Nat         -- PD_SET_STATE bringing the standby pair up
  cluCmd   : Option Nat         -- PD_SET_STATE bringing the cluster up, ready from the tick after
  capture  : Option Capture
  dvs      : Option DvsChange
  dvsSel   : Nat                -- code on DVS_SEL1 and DVS_SEL0
  keep     : Option Keep
  leave    : Option Leave
  due      : Option SleepDue
  saved    : Option Save
  alarmFrom : Option Nat        -- RTC count of the sleep snapshot
  alarmHit : Bool               -- the RTC alarm has fired since
  keepFault : Bool              -- the active pair faulted in BUS_KEEP; a takeover follows the standby's self-test (R374)
  deriving DecidableEq, Repr

def Pdm.reset : Pdm :=
  { seq := false, rail := 0, en := 0, fails := 0, retry := false, lost := false, pfiStop := false, waking := false, fired := 0
    tphyCmd := none, stdCmd := none, cluCmd := none, capture := none, dvs := none, dvsSel := 0, keep := none, leave := none
    due := none, saved := none, alarmFrom := none, alarmHit := false, keepFault := false }

end Sys2Proof.Machine
end

