-- ==== Sys2Proof/Machine/BlocksPower.lean ====
section
/-! DEFINITION. The state of port power as plain data (12_port_power.md), with its reset. The settings and states that the
PPW registers show stand in the register file. -/

namespace Sys2Proof.Machine

/-- Termination that PPp_SNS presents (R311, R312). -/
inductive SnsTerm where
  | openLine | rp | rd
  deriving DecidableEq, Repr

/-- One message on SNS (R314 to R316): what HEADER says and the objects; `SnsMsg.line` is what goes over the line. TYPE 16 stands for the
hard-reset signal, which has no HEADER. -/
structure SnsMsg where
  typ  : Nat
  id   : Nat
  prole : Bool
  drole : Bool
  objs : List Nat
  deriving DecidableEq, Repr

/-- Which end of a swap this port is (R326, R328), and how far it has come. -/
inductive SwapStep where
  | none
  | asked        -- PR_SWAP sent, no answer yet
  | oldSource    -- gates off or following VS, PS_READY of the new source awaited
  | waitOld      -- new source, waiting for the old source's PS_READY
  | turnOn       -- new source, gates on or to be turned on, its own PS_READY not sent
  | newContract  -- new source after its PS_READY, without a new contract
  deriving DecidableEq, Repr

structure PortPow where
  attached : Bool
  term     : SnsTerm
  vsel     : Nat
  gates    : Bool
  dis      : Bool             -- PPp_DIS discharges VP
  prior    : Nat              -- state that a refused negotiation returns to
  txId     : Nat              -- MSG_ID of the next message
  rxId     : Option Nat       -- last MSG_ID accepted
  tx       : Option SnsMsg    -- sent, GOOD_RX awaited
  tries    : Nat              -- resends of it
  backoff  : Bool             -- stopped at a collision, to be resent
  waiting  : List (Nat × List Nat)   -- messages to send after it: TYPE and objects
  sent     : List SnsMsg      -- everything sent, in order
  capsSent : Nat              -- sends of SRC_CAPS since the port began to offer
  capsOpen : Nat              -- sends of SRC_CAPS since the last that was acknowledged (R319)
  caps     : List Nat         -- the partner's last SRC_CAPS or SNK_CAPS
  partnerDrp : Bool
  request  : Nat              -- request object under way, or of the contract
  accVolt  : Nat              -- VOLT of the PDO that the accepted request named, as the PDOs stood at ACCEPT (R321)
  negLeft  : Nat              -- messages to start until the answer to REQUEST is on the line, that answer included; 0: none waits (R322)
  again    : Option (Nat × List Nat) -- request answered WAIT, to be repeated
  frs      : Nat              -- FRS_CURRENT in force, in 20 mA
  srcPdos  : List Nat
  snkPdos  : List Nat
  frsOffer : Nat              -- FRS_CURRENT offered
  swap     : SwapStep
  wasSource : Bool            -- source when the swap began
  fast     : Bool             -- the swap under way or just made is a fast one
  frsSig   : Bool             -- the FRS signal is being sent
  dropped  : Bool             -- the PDO in use is no longer offered (Races)
  faultRun : Nat              -- faults, each within 60 s of the one before
  faultAt  : Option Nat       -- core cycle of the last one
  held     : Nat              -- bits of PPW_Pp_EVENT set while the logic die did not run (R331)
  cmds     : List Nat         -- port-power commands that wait on this port
  frsVp    : Bool             -- fast swap: VP is in the window of the new source
  frsAck   : Bool             -- fast swap: FR_SWAP has been answered
  softDue  : Bool             -- a negotiation was under way when the logic die stopped (Races)
  offDone  : Bool             -- VP has fallen below 5 V after PWR_PORT_OFF
  calm     : Option Nat       -- core cycle at which the last ramp or swap ended (R324)
  swapAt   : Option Nat       -- core cycle at which the last swap ended (R324)
  ramp     : Bool             -- VP ramps to default power (R320, R324)
  cut      : Bool             -- the SNS driver has disconnected (R324)
  trips    : List Nat         -- ARG of trips whose Cairn record waits for the logic die (R324)
  lowAt    : Option Nat       -- core cycle since which VP is below 5 V, until it is back or its removal is reported (R330)
  capsDue  : Bool             -- new source PDOs to be sent once the negotiation under way has ended (R333)
  swapDue  : Bool             -- PWR_ROLE_SWAP waits for the negotiation under way (R333)
  deriving DecidableEq, Repr

/-- A port at cold reset: policy of R333 without a configuration store (one source PDO of 12 V 0.5 A), state OFF, Rd presented
until the first tick (R322, R323). -/
def PortPow.reset (_ : Nat) : PortPow :=
  { attached := false, term := .rd, vsel := 3, gates := false, dis := false, prior := 0, txId := 0, rxId := none, tx := none
    tries := 0, backoff := false, waiting := [], sent := [], capsSent := 0, capsOpen := 0, caps := [], partnerDrp := false, request := 0, accVolt := 0
    negLeft := 0, again := none, frs := 0, srcPdos := [50 * 2 ^ 20], snkPdos := [], frsOffer := 0, swap := .none, wasSource := false
    fast := false, frsSig := false, dropped := false, faultRun := 0, faultAt := none, held := 0, cmds := [], frsVp := false
    frsAck := false, softDue := false, offDone := false, calm := none, swapAt := none
    ramp := false, cut := false, trips := [], lowAt := none, capsDue := false, swapDue := false }

structure PortPower where
  tab   : SMap PortPow
  begun : Bool               -- the first tick after a cold reset has come
  deriving DecidableEq, Repr

def PortPower.reset : PortPower := { tab := [], begun := false }

end Sys2Proof.Machine
end

