-- ==== Sys2Proof/Machine/BlocksRed.lean ====
section
/-! DEFINITION. The state of the reduction cluster as plain data (09_reduction_cluster.md), with its reset. Cluster instants are
in thirds of a core cycle since power-on: one DVS cycle is 3, 4 or 6 of them (R244). -/

namespace Sys2Proof.Machine

/-- An element of a value: 24-bit two's complement and its validity flag (R246). -/
abbrev RElem := Int × Bool

abbrev RVal := List RElem

/-- One node entry of a graph table (R251). -/
structure GNode where
  op     : Nat
  trace  : Bool
  hint   : Option Nat
  a      : Option Nat
  b      : Option Nat
  c      : Option Nat
  outLen : Nat
  p      : List Int       -- P0 to P4
  deriving DecidableEq, Repr

/-- A result list (R262): its descriptor, the length of its EMIT's input, and its own write count (R263). -/
structure RList where
  log2     : Nat
  unpacked : Bool
  inst     : Nat
  gen      : Nat
  base     : Nat
  pasid    : Nat          -- [31] PASID_EN, [19:0] PASID
  len      : Nat
  wcount   : Nat
  deriving DecidableEq, Repr

/-- A graph bank (R266). `st`: per node, per element, its state words; an element not listed is at its starting value. `bad`:
nodes whose table words are uncorrectable (R269). `fresh`: no run of it since the swap. `dying`: unloaded while active. -/
structure GBank where
  id    : Nat
  nodes : List GNode
  pool  : List Nat
  lists : List RList
  st    : SMap (SMap (List Int))
  aff   : SMap Nat        -- 1 + core that last completed the node
  bad   : List Nat
  fresh : Bool
  dying : Bool
  load  : Nat             -- number of the load that wrote it
  lost  : List (Nat × Nat) := []  -- node and element whose state word was found uncorrectable since the node last ran (R269)
  deriving DecidableEq, Repr

/-- An entry of the delay list (R259). -/
structure GDelay where
  due   : Nat
  node  : Nat
  bank  : Nat
  value : Int
  seq   : Nat             -- order of insertion
  deriving DecidableEq, Repr

/-- A live run (R254). `wait`: per node, inputs not yet complete. -/
structure GRun where
  n       : Nat
  bank    : Nat
  rel     : Nat           -- its release tick
  out     : SMap RVal
  ended   : List Nat      -- nodes whose instance has completed
  due     : List GDelay   -- delay entries that joined it, in the order of the list
  swapped : Bool
  mains   : List Nat      -- the mains word captured for it
  flags   : Nat           -- TIME_ESTIMATED and HOLDOVER captured with it
  deriving DecidableEq, Repr

/-- A ready instance in a core's list (R256). -/
structure GReady where
  run  : Nat
  rel  : Nat              -- release tick of its run
  node : Nat
  at_  : Nat
  deriving DecidableEq, Repr

/-- The instance a core executes. -/
structure GBusy where
  run   : Nat
  node  : Nat
  start : Nat
  stop  : Nat
  deriving DecidableEq, Repr

structure GCore where
  list : List GReady
  busy : Option GBusy
  free : Nat              -- instant at which it last became idle
  deriving DecidableEq, Repr

def GCore.reset (_ : Nat) : GCore := { list := [], busy := none, free := 0 }

/-- A result slot to be written (R263). -/
structure GSlot where
  list    : RList
  index   : Nat           -- number of the list
  bank    : Nat
  load    : Nat
  n       : Nat
  result  : Nat
  swapped : Bool
  value   : RVal
  deriving DecidableEq, Repr

/-- A queued bus command for one root port (R264). -/
structure GCmd where
  port   : Nat
  group  : Nat
  ep     : Nat
  words  : List Nat
  frame  : Nat            -- frame in whose bulk region it is due
  deriving DecidableEq, Repr

/-- The decision trace's configuration (GRAPH_TRACE_CONFIG, R271). -/
structure GTrace where
  base  : Nat
  log2  : Nat
  all   : Bool
  mask  : Nat
  pasid : Option Nat
  deriving DecidableEq, Repr

/-- A trace record to be written (R268): its address, its first three words and its last. -/
structure GTraceRec where
  addr  : Nat
  pasid : Option Nat
  words : List Nat
  made  : Nat             -- instant of the decision
  deriving DecidableEq, Repr

/-- Sums of one core over the window of GRAPH_GET_STATS (R271), in cluster instants where they are times. -/
structure GStat where
  busy    : Nat
  depth   : Nat
  waitSum : Nat
  waitMax : Nat
  started : Nat
  nodes   : Nat
  deriving DecidableEq, Repr

def GStat.reset (_ : Nat) : GStat := { busy := 0, depth := 0, waitSum := 0, waitMax := 0, started := 0, nodes := 0 }

structure GWindow where
  frames   : Nat
  span     : Nat          -- core time that passed, in cluster instants
  done     : Nat
  declined : Nat
  stopped  : Nat
  cores    : SMap GStat
  deriving DecidableEq, Repr

def GWindow.reset : GWindow := { frames := 0, span := 0, done := 0, declined := 0, stopped := 0, cores := [] }

/-- A capture of the mains word at a tick (R254), with TIME_ESTIMATED and HOLDOVER. -/
structure GCap where
  frame : Nat
  word  : List Nat
  flags : Nat
  deriving DecidableEq, Repr

structure Red where
  bank0    : Option GBank
  bank1    : Option GBank
  active   : Option Nat
  other    : Nat                  -- the bank a load writes while no bank is active
  swap     : Option (Nat × Nat)   -- command and target frame of the GRAPH_SWAP awaiting its tick
  loads    : Nat                  -- graphs loaded so far
  live     : List GRun            -- older first
  cores    : SMap GCore
  enEff    : Nat                  -- CORE_EN that the lists follow
  gather   : Nat                  -- instant at which the gather unit is free
  clk      : Nat                  -- instant of the latest scheduling event
  stole    : Option Nat           -- instant of the latest steal
  delay    : List GDelay
  seq      : Nat
  bp       : Bool
  declined : List Nat             -- runs declined lately, newest first
  stopped  : List Nat             -- runs stopped lately, newest first
  caps     : List GCap            -- the two-entry capture buffer
  slots    : List GSlot
  cmds     : List GCmd
  trace    : Option GTrace
  tseq     : Nat                  -- number of the next trace record
  recs     : List GTraceRec
  window   : GWindow
  tickDone : Nat                  -- 1 + frame whose stop and swap have been made, 0 none
  image    : Option (Nat × List Byte) := none   -- a GRAPH_LOAD judged, with what its reads returned: it takes effect at the tick
  deriving DecidableEq, Repr

def Red.reset : Red :=
  { bank0 := none, bank1 := none, active := none, other := 0, swap := none, loads := 0, live := [], cores := [], enEff := 0xFFFF
    gather := 0, clk := 0, stole := none, delay := [], seq := 0, bp := false, declined := [], stopped := [], caps := []
    slots := [], cmds := [], trace := none, tseq := 0, recs := [], window := GWindow.reset, tickDone := 0 }

end Sys2Proof.Machine
end

