-- ==== Sys2Proof/Machine/BlocksTest.lean ====
section
/-! DEFINITION. The state of Scree, the built-in self-test and the test access port as plain data (17), with its reset. -/

namespace Sys2Proof.Machine

/-- A running injection (R402). `left`: data words, page-ins or edges still to be hit, in this frame for kinds 1 and 6. -/
structure Injection where
  kind : Nat
  port : Nat
  p0   : Nat
  p1   : Nat
  ends : Option Nat       -- frame at whose tick it ends; none for kinds 8 and 9
  left : Nat
  deriving DecidableEq, Repr

/-- A BIST_RUN in progress: its command, the tests it runs and PORT_MASK (R403). -/
structure BistRun where
  cmd   : Nat
  tests : Nat
  ports : Nat
  deriving DecidableEq, Repr

/-- What BIST_GET_RESULT reports of the last run (R407). -/
structure BistResult where
  run     : Nat
  failed  : Nat
  frame   : Nat
  mems    : Nat
  ports   : Nat
  saddle  : Nat
  word    : Nat
  errors  : Nat
  damaged : Nat
  deriving DecidableEq, Repr

def BistResult.none : BistResult :=
  { run := 0, failed := 0, frame := 0, mems := 0, ports := 0, saddle := 0, word := 0, errors := 0, damaged := 0 }

structure Scree where
  injs   : List Injection
  bist   : Option BistRun
  last   : BistResult
  jtag   : JtagInstr
  halted : Bool             -- EXTEST, CLAMP or HIGHZ holds the logic die (R405)
  deriving DecidableEq, Repr

def Scree.reset : Scree :=
  { injs := [], bist := none, last := BistResult.none, jtag := .idcode, halted := false }

/-- The injection of kind `k`, if it runs. -/
def Scree.inj (x : Scree) (k : Nat) : Option Injection := x.injs.find? fun i => i.kind == k

end Sys2Proof.Machine
end

