-- ==== Sys2Proof/Machine/BlocksXfer.lean ====
section
/-! DEFINITION. The state of the transfer and DMA engines as plain data (08), each with its reset. -/

namespace Sys2Proof.Machine

/-- One periodic service of the current frame's plan (R219, R222). -/
structure Svc where
  key      : Nat
  port     : Nat
  addr     : Nat
  ep       : Nat
  dirIn    : Bool
  assured  : Bool
  frame    : Nat          -- S
  inst     : Nat
  gen      : Nat
  entry    : Nat
  attempts : Nat
  ready    : Bool         -- a ready indication came (R221)
  cause    : Nat          -- CAUSE of its last attempt
  past     : Bool         -- it has ended
  order    : Nat          -- place in the list; grows when an attempt fails (retry pass)
  deriving DecidableEq, Repr

inductive TxnKind where
  | periodic | hist | control | system | bulk
  deriving DecidableEq, Repr

/-- What a transaction occupies, counted from its launch (R126, R190, R219): downstream words of token and packet, whether a downstream
ACK follows the answer, upstream words of the answer with the guard word, E and the one-way delay to the device in 1/64 wt. -/
structure Need where
  down : Nat
  ack  : Bool
  up   : Nat
  resp : Nat
  path : Nat
  deriving DecidableEq, Repr

def Need.nothing : Need := { down := 0, ack := false, up := 0, resp := 0, path := 0 }

/-- What the transactions of the frame take of one root link (R219). Positions are word times from the tick; upstream intervals and E are
in 1/64 wt. -/
structure Lane where
  cursor : Nat                 -- launch of the last transaction
  down   : List (Nat × Nat)    -- downstream word times taken, [from, to)
  up     : List (Nat × Nat)    -- upstream arrivals reserved, [from, to)
  busy   : List (Nat × Nat)    -- per device: the word time from which its next token may go (R127)
  tail   : Nat                 -- end of the last periodic transaction (R220)
  deriving DecidableEq, Repr

/-- A frame begins: its first token goes no earlier than 16 wt, after the SOF (R219). -/
def Lane.reset (_ : Nat) : Lane := { cursor := 16, down := [], up := [], busy := [], tail := 16 }

/-- One open transaction (R127). -/
structure Txn where
  port  : Nat
  addr  : Nat
  key   : Nat
  ep    : Nat
  kind  : TxnKind
  dirIn : Bool
  setup : Bool            -- a SETUP packet of a control transfer
  frame : Nat             -- service frame for periodic and HIST
  inst  : Nat
  gen   : Nat
  entry : Nat
  bytes : Nat             -- OUT: payload bytes sent
  hold  : Nat             -- bank words kept for its answer (R216)
  abort : Bool            -- closed with EOP ABORT; what it belongs to has ended
  ready : Bool            -- a ready indication came in this frame (R221)
  start : Nat := 0        -- its launch, in word times from the tick (R219)
  need  : Need := Need.nothing
  deriving DecidableEq, Repr

/-- What the H24 sent on a root port in the current frame: a token (KIND 1 to 5) with the packet that follows it, or a
downstream ACK (KIND 6). `bad`: data words sent with an inverted CHECK (R402). -/
structure Sent where
  port  : Nat
  kind  : Nat
  addr  : Nat             -- TARGET; the group of a BCAST
  ep    : Nat
  hseq  : Nat
  sop   : Option Nat
  words : List Nat        -- data words after the SOP: STAMP, payload, CHECK
  abort : Bool
  bad   : Nat
  start : Nat := 0        -- word time of its first word (R219)
  line  : List Nat := []  -- its 30-bit line words, data scrambled (R93, R95)
  deriving DecidableEq, Repr

/-- What a control transfer that the H24 makes itself is for: enumeration on a root port (R146), a hub's port or hub status
(R140), a request whose answer is not used, a device's wake status (R152), a command waiting for its answer. -/
inductive SysUse where
  | enumerate
  | portStatus (hport : Nat)
  | hubStatus
  | plain
  | wake
  | command (cmd : Nat)
  | select               -- SELECT_UPSTREAM of a takeover or a handover (R357, R363)
  | resetEp (key : Nat)  -- RESET_ENDPOINT after a takeover (R357)
  | probe (hub hport : Nat)  -- GET_HUB_STATUS of a hub of the partner's through a link of this controller's (R353)
  deriving DecidableEq, Repr

/-- A control transfer of the H24's own (R131, R146, R158). `result`: 0 complete, 1 STALL, 2 no response, 3 ERR,
4 RESET_ABORT, 5 more data than LENGTH. -/
structure SysCtl where
  port   : Nat
  addr   : Nat
  setup  : List Nat
  out    : List Byte
  use    : SysUse
  stage  : CtlStage
  begun  : Option Nat      -- frame of the launch of its first SETUP
  moved  : Nat
  toggle : Nat
  fails  : Nat
  got    : List Byte
  result : Option Nat
  deriving DecidableEq, Repr

/-- A periodic IN slot to be written (R185, R217). -/
structure SlotW where
  key    : Nat
  inst   : Nat
  gen    : Nat
  entry  : Nat
  sframe : Nat
  bank   : Nat            -- frame in whose bank its words stand
  result : Nat
  fly    : Bool
  hist   : Bool
  cause  : Nat
  words  : List Nat
  notRed : Bool
  assured : Bool
  deriving DecidableEq, Repr

/-- A history recovery (R224). `limit` is the last frame of its window; catch-up after a takeover has its own (R361). -/
structure HistRec where
  key    : Nat
  inst   : Nat
  gen    : Nat
  entry  : Nat
  sframe : Nat
  tries  : Nat
  triedAt : Option Nat
  catchup : Bool
  deriving DecidableEq, Repr

/-- State of an OUT slot that has been fetched (R187). -/
inductive OutState where
  | reading | ready | notReady | checkFailed | badLength | failed
  deriving DecidableEq, Repr

structure OutSvc where
  key   : Nat
  inst  : Nat
  gen   : Nat
  entry : Nat
  frame : Nat
  first : Option (List Byte)
  words : List Nat
  st    : OutState
  deriving DecidableEq, Repr

/-- A result word of an OUT slot to be written (R187). -/
structure OutRes where
  key   : Nat
  inst  : Nat
  gen   : Nat
  entry : Nat
  frame : Nat
  result : Nat
  words : Nat
  deriving DecidableEq, Repr

/-- Bytes of a bulk or control IN packet to be written to host memory (R228). -/
structure BulkW where
  inst   : Nat
  gen    : Nat
  entry  : Nat
  key    : Nat
  index  : Nat            -- descriptor
  off    : Nat            -- offset of its first byte in the buffer
  crc    : Nat            -- CRC-32C state over the bytes before it
  addr   : Nat
  bytes  : List Byte
  bank   : Nat
  deriving DecidableEq, Repr

/-- A fetched OUT packet (R229). -/
structure BulkOut where
  inst  : Nat
  gen   : Nat
  entry : Nat
  key   : Nat
  index : Nat             -- descriptor
  off   : Nat
  bytes : List Byte
  frame : Nat             -- frame it is fetched for
  deriving DecidableEq, Repr

/-- A descriptor read ahead of the one in progress (R229); none where its read failed. -/
structure AheadD where
  inst  : Nat
  gen   : Nat
  entry : Nat
  index : Nat
  desc  : Option (List Byte)
  deriving DecidableEq, Repr

/-- A sample that a service of frame `frame` collected with RESULT DATA, kept for the runs (R252, R254). -/
structure Coll where
  key   : Nat
  frame : Nat
  words : List Nat
  deriving DecidableEq, Repr

structure Xfer where
  start   : Bool              -- the bank index starts at the next tick (R216)
  used    : Nat               -- words of the current frame's bank in use
  svcs    : List Svc
  opens   : List Txn
  slots   : List SlotW
  hists   : List HistRec
  outs    : List OutSvc
  results : List OutRes
  bulkIn  : List BulkW
  bulkOut : List BulkOut
  ahead   : List AheadD       -- descriptors read ahead in this frame (R229)
  polled  : List Nat          -- contexts not polled again in this frame (R226)
  last    : SMap Nat          -- per root port, 1 + context served last by the round robin (R226)
  deferred : Nat              -- transactions deferred by overrun in this frame (R71)
  readied : List Nat          -- bulk and control contexts with a ready indication for their current descriptor in this frame (R221)
  ctls    : List SysCtl       -- control transfers of the H24's own, in order of issue
  sent    : List Sent         -- sent in the current frame
  plens   : SMap Nat          -- length P of the periodic region per root port (R218)
  coll    : List Coll         -- samples for the reduction cluster (R254)
  lanes   : SMap Lane         -- what each root link of the current frame is taken by (R219)
  dmaLast : SMap Nat          -- per host port, the DMA channel whose turn comes first (R234)
  deriving DecidableEq, Repr

def Xfer.reset : Xfer :=
  { start := true, used := 0, svcs := [], opens := [], slots := [], hists := [], outs := [], results := [], bulkIn := [],
    bulkOut := [], ahead := [], polled := [], last := [], deferred := 0, readied := [], ctls := [], sent := [], plens := [], coll := [], lanes := [], dmaLast := [] }

/-! ### The DMA engine (R235 to R243) -/

/-- Source bytes staged for their turn (R238): offset of their block, whether the read succeeded, whether the write of them can be issued,
and whether a staging word is uncorrectable. -/
structure DmaGot where
  off  : Nat
  data : List Byte
  ok   : Bool
  wok  : Bool
  bad  : Bool
  deriving DecidableEq, Repr

/-- The descriptor a channel runs. `lo`, `hi`: bytes of the range not yet done; `rlo`, `rhi`: bytes not yet read. -/
structure DmaJob where
  index   : Nat
  bytes   : List Byte
  overlap : Bool
  dir     : Nat
  lo      : Nat
  hi      : Nat
  crc     : Nat
  moved   : Nat
  outcome : Option (Nat × Nat)     -- CODE, DETAIL
  loaded  : Bool
  asked   : Bool := false          -- the read of the descriptor has been issued
  rlo     : Nat := 0
  rhi     : Nat := 0
  got     : List DmaGot := []
  deriving DecidableEq, Repr

/-- A DMA completion record to be written (R240): bytes 0x00 to 0x0B, and bits of the last word. -/
structure DmaRec where
  inst   : Nat
  gen    : Nat
  bytes  : List Byte
  frame  : Nat
  code   : Nat
  notify : Bool
  resv   : Bool
  last   : Bool                    -- the last STOPPED record of a STOP
  deriving DecidableEq, Repr

structure DmaCh where
  inst  : Option Nat               -- instance it is bound to
  enq   : Nat
  prod  : Nat                      -- record index
  cons  : Nat
  resv  : Nat
  job   : Option DmaJob
  recs  : List DmaRec
  deriving DecidableEq, Repr

def DmaCh.reset (_ : Nat) : DmaCh :=
  { inst := none, enq := 0, prod := 0, cons := 0, resv := 0, job := none, recs := [] }

end Sys2Proof.Machine
end

