-- ==== Sys2Proof/Machine/Regs.lean ====
section
/-! DEFINITION. The BAR0 register map (R28) and the registers of the BAR2 pages (R278, R308), as the register tables of
the chapters give them: the address of every register, every field's place, and for each register its access codes
(R7), its reset value and its reserved encodings (R9). An address below 0x10_0000 is a BAR0 offset; the page of
instance `i` stands at 0x10_0000 + i * 0x1_0000. -/

namespace Sys2Proof.Machine

/-- Base of mailbox `m` (R32): the MBX block for the manager, the page of instance `m` otherwise. -/
def Reg.MBX_BASE (m : Nat) : Nat := if m = 0 then 0x10000 else 0x100000 + m * 0x10000

def Reg.GLB_ID : Nat := 0x0
def Reg.GLB_STEP : Nat := 0x4
def Reg.GLB_UID_LO : Nat := 0x8
def Reg.GLB_UID_HI : Nat := 0xC
def Reg.GLB_CAP : Nat := 0x10
def Reg.GLB_STATUS : Nat := 0x14
def Reg.GLB_RESET : Nat := 0x20
def Reg.GLB_ECC_CORR : Nat := 0x30
def Reg.GLB_ECC_UNCORR : Nat := 0x34
def Reg.GLB_ECC_LAST : Nat := 0x38
/-- MBX_DOORBELL of mailbox `m` (R32). -/
def Reg.MBX_DOORBELL (m : Nat) : Nat := Reg.MBX_BASE m + 0x800
/-- MBX_OWNER of mailbox `m` (R32). -/
def Reg.MBX_OWNER (m : Nat) : Nat := Reg.MBX_BASE m + 0x804
/-- MBX_DONE of mailbox `m` (R32). -/
def Reg.MBX_DONE (m : Nat) : Nat := Reg.MBX_BASE m + 0x808
/-- MBX_CTRL of mailbox `m` (R32). -/
def Reg.MBX_CTRL (m : Nat) : Nat := Reg.MBX_BASE m + 0x80C
/-- MBX_ERR of mailbox `m` (R32). -/
def Reg.MBX_ERR (m : Nat) : Nat := Reg.MBX_BASE m + 0x810
def Reg.MBX_FW_VER : Nat := 0x10820
def Reg.MBX_FW_STATE : Nat := 0x10824
def Reg.MBX_BOOT_INFO : Nat := 0x10828
def Reg.TIM_CTRL : Nat := 0x20000
def Reg.TIM_STATUS : Nat := 0x20004
def Reg.TIM_SYSTIME_SEC : Nat := 0x20010
def Reg.TIM_SYSTIME_NS : Nat := 0x20014
def Reg.TIM_FRAME_NO : Nat := 0x20018
def Reg.TIM_RATE : Nat := 0x20020
def Reg.TIM_PPS_ERR : Nat := 0x20038
def Reg.TIM_UNCERT : Nat := 0x20040
def Reg.TIM_RTC_PERIOD : Nat := 0x20044
def Reg.TIM_PPS_CTRL : Nat := 0x20030
def Reg.TIM_PPS_WINDOW : Nat := 0x20034
def Reg.TIM_PPS_COUNT : Nat := 0x2003C
def Reg.TIM_OVERRUN : Nat := 0x20050
def Reg.LNK_CTRL (p : Nat) : Nat := 0x30000 + p * 0x1000
def Reg.LNK_STATUS (p : Nat) : Nat := 0x30004 + p * 0x1000
def Reg.LNK_DELAY (p : Nat) : Nat := 0x30010 + p * 0x1000
def Reg.LNK_DELAY_INFO (p : Nat) : Nat := 0x30014 + p * 0x1000
def Reg.LNK_ERR (p : Nat) : Nat := 0x30020 + p * 0x1000
def Reg.LNK_RECOV (p : Nat) : Nat := 0x30024 + p * 0x1000
def Reg.LNK_RECAL (p : Nat) : Nat := 0x30030 + p * 0x1000
def Reg.LNK_RECAL_FRAME (p : Nat) : Nat := 0x30034 + p * 0x1000
def Reg.LNK_EVENT (p : Nat) : Nat := 0x30040 + p * 0x1000
def Reg.LNK_EVENT_EN (p : Nat) : Nat := 0x30044 + p * 0x1000
def Reg.TRE_CTRL : Nat := 0x40000
def Reg.TRE_STATUS : Nat := 0x40004
def Reg.TRE_EVENT : Nat := 0x40010
def Reg.TRE_EVENT_EN : Nat := 0x40014
def Reg.TRE_PORT_DEVS (p : Nat) : Nat := 0x40020 + p * 0x4
def Reg.TRE_REFUSE : Nat := 0x40040
def Reg.TRE_REFUSE_COUNT : Nat := 0x40044
def Reg.TRE_DM_CTRL : Nat := 0x41000
def Reg.TRE_DM_STATUS : Nat := 0x41004
def Reg.TRE_DM_STROBE_SEC : Nat := 0x41008
def Reg.TRE_DM_STROBE_NS : Nat := 0x4100C
def Reg.TRE_DM_EP_CFG (n : Nat) : Nat := 0x41100 + n * 0x8
def Reg.TRE_DM_EP_STAT (n : Nat) : Nat := 0x41104 + n * 0x8
def Reg.INS_DOORBELL (i : Nat) : Nat := 0x101000 + i * 0x10000
def Reg.INS_DB_ERR (i : Nat) : Nat := 0x101004 + i * 0x10000
def Reg.INS_CR_OPEN (i : Nat) : Nat := 0x101008 + i * 0x10000
def Reg.SCH_CTRL : Nat := 0x50000
def Reg.SCH_STATUS : Nat := 0x50004
def Reg.SCH_DIR_LO : Nat := 0x50010
def Reg.SCH_DIR_HI : Nat := 0x50014
def Reg.SCH_DIR_PASID : Nat := 0x50018
def Reg.SCH_ADDR_WINDOW : Nat := 0x50020
def Reg.SCH_ALLOC_SEA : Nat := 0x50030
def Reg.SCH_ALLOC_PARAM : Nat := 0x50034
def Reg.SCH_ALLOC_HANDLE : Nat := 0x50038
def Reg.SCH_ALLOC_REQ : Nat := 0x5003C
def Reg.SCH_ALLOC_RESP : Nat := 0x50040
def Reg.SCH_ALLOC_GRANT : Nat := 0x50044
def Reg.SCH_ALLOC_PLACE : Nat := 0x50048
def Reg.SCH_ALLOC_FIRST : Nat := 0x5004C
def Reg.SCH_POLICY0 : Nat := 0x50060
def Reg.SCH_POLICY1 : Nat := 0x50064
def Reg.SCH_CACHE : Nat := 0x50070
def Reg.SCH_PAGE_COUNT : Nat := 0x50074
def Reg.SCH_PAGE_LATE : Nat := 0x50078
def Reg.SCH_EVENT : Nat := 0x50080
def Reg.SCH_EVENT_EN : Nat := 0x50084
def Reg.XFR_CTRL : Nat := 0x60000
def Reg.XFR_STATUS : Nat := 0x60004
def Reg.XFR_RETRY : Nat := 0x60010
def Reg.XFR_WITHDRAWN : Nat := 0x60014
def Reg.XFR_DEFER : Nat := 0x60018
def Reg.XFR_HIST : Nat := 0x6001C
def Reg.XFR_CHECK : Nat := 0x60020
def Reg.XFR_DRAIN : Nat := 0x60024
def Reg.XFR_EVENT : Nat := 0x60030
def Reg.XFR_EVENT_EN : Nat := 0x60034
def Reg.DMA_CTRL : Nat := 0x70000
def Reg.DMA_BUSY : Nat := 0x70004
def Reg.DMA_BOUND : Nat := 0x70008
def Reg.DMA_ERR : Nat := 0x70010
def Reg.DMA_CH_RING_LO (n : Nat) : Nat := 0x71000 + n * 0x40
def Reg.DMA_CH_RING_HI (n : Nat) : Nat := 0x71004 + n * 0x40
def Reg.DMA_CH_CQ_LO (n : Nat) : Nat := 0x71008 + n * 0x40
def Reg.DMA_CH_CQ_HI (n : Nat) : Nat := 0x7100C + n * 0x40
def Reg.DMA_CH_CFG (n : Nat) : Nat := 0x71010 + n * 0x40
def Reg.DMA_CH_PASID (n : Nat) : Nat := 0x71014 + n * 0x40
def Reg.DMA_CH_DOORBELL (n : Nat) : Nat := 0x71018 + n * 0x40
def Reg.DMA_CH_CQ_ACK (n : Nat) : Nat := 0x7101C + n * 0x40
def Reg.DMA_CH_STATUS (n : Nat) : Nat := 0x71020 + n * 0x40
def Reg.DMA_CH_CTRL (n : Nat) : Nat := 0x71024 + n * 0x40
def Reg.RED_CTRL : Nat := 0x80000
def Reg.RED_STATUS : Nat := 0x80004
def Reg.RED_BP : Nat := 0x80008
def Reg.RED_RUN_LAST : Nat := 0x80010
def Reg.RED_RUN_COUNT : Nat := 0x80014
def Reg.RED_ARITH : Nat := 0x80018
def Reg.RED_CMD : Nat := 0x8001C
def Reg.RED_DELAY : Nat := 0x80020
def Reg.RED_MEM : Nat := 0x80024
def Reg.RED_TRACE : Nat := 0x80028
def Reg.RED_EVENT : Nat := 0x80030
def Reg.RED_EVENT_EN : Nat := 0x80034
def Reg.RED_NODE_EVENT : Nat := 0x80038
def Reg.RED_CORE_BUSY (c : Nat) : Nat := 0x80100 + c * 0x20
def Reg.RED_CORE_NODES (c : Nat) : Nat := 0x80104 + c * 0x20
def Reg.RED_CORE_WAIT_SUM (c : Nat) : Nat := 0x80108 + c * 0x20
def Reg.RED_CORE_WAIT_MAX (c : Nat) : Nat := 0x8010C + c * 0x20
def Reg.RED_CORE_DEPTH (c : Nat) : Nat := 0x80110 + c * 0x20
def Reg.INS_SELF (i : Nat) : Nat := 0x10100C + i * 0x10000
def Reg.INS_PAGE_LATE (i : Nat) : Nat := 0x101010 + i * 0x10000
def Reg.INS_ISO_LAST (i : Nat) : Nat := 0x101014 + i * 0x10000
def Reg.INS_FRAME_NO (i : Nat) : Nat := 0x101018 + i * 0x10000
def Reg.INS_EXIST_LO : Nat := 0x90000
def Reg.INS_EXIST_HI : Nat := 0x90004
def Reg.INS_PORT_LO : Nat := 0x90008
def Reg.INS_PORT_HI : Nat := 0x9000C
def Reg.INS_POOL_ENTRIES : Nat := 0x90010
def Reg.INS_POOL_SHARE : Nat := 0x90014
def Reg.INS_POOL_MISC : Nat := 0x90018
def Reg.INS_EVENT : Nat := 0x90020
def Reg.INS_EVENT_EN : Nat := 0x90024
def Reg.INS_I_STATE (i : Nat) : Nat := 0x90100 + i * 0x10
def Reg.INS_I_ENTRIES (i : Nat) : Nat := 0x90104 + i * 0x10
def Reg.INS_I_SHARE (i : Nat) : Nat := 0x90108 + i * 0x10
def Reg.INS_I_LATE (i : Nat) : Nat := 0x9010C + i * 0x10
def Reg.EVQ_STATUS : Nat := 0xA0000
def Reg.EVQ_GROUP_MASK_LO : Nat := 0xA0008
def Reg.EVQ_GROUP_MASK_HI : Nat := 0xA000C
def Reg.EVQ_GROUP_PEND_LO : Nat := 0xA0010
def Reg.EVQ_GROUP_PEND_HI : Nat := 0xA0014
def Reg.EVQ_WAKE_CFG : Nat := 0xA0020
def Reg.EVQ_WAKE_LATCH : Nat := 0xA0024
def Reg.EVQ_WAKE_STAMP (n : Nat) : Nat := 0xA0030 + n * 0x4
def Reg.EVQ_CP_STATUS : Nat := 0xA0040
def Reg.EVQ_Q_BASE_LO (q : Nat) : Nat := 0xA8000 + q * 0x40
def Reg.EVQ_Q_BASE_HI (q : Nat) : Nat := 0xA8004 + q * 0x40
def Reg.EVQ_Q_CFG (q : Nat) : Nat := 0xA8008 + q * 0x40
def Reg.EVQ_Q_PASID (q : Nat) : Nat := 0xA800C + q * 0x40
def Reg.EVQ_Q_PROD (q : Nat) : Nat := 0xA8010 + q * 0x40
def Reg.EVQ_Q_CONS (q : Nat) : Nat := 0xA8014 + q * 0x40
def Reg.EVQ_Q_CLAIM (q : Nat) : Nat := 0xA8018 + q * 0x40
def Reg.EVQ_Q_COMPLETE (q : Nat) : Nat := 0xA801C + q * 0x40
def Reg.EVQ_Q_STATUS (q : Nat) : Nat := 0xA8020 + q * 0x40
def Reg.PPW_STATUS : Nat := 0xB0000
def Reg.PPW_EVENT : Nat := 0xB0004
def Reg.PPW_P_CFG (p : Nat) : Nat := 0xB1000 + p * 0x100
def Reg.PPW_P_STATUS (p : Nat) : Nat := 0xB1004 + p * 0x100
def Reg.PPW_P_VOLT (p : Nat) : Nat := 0xB1008 + p * 0x100
def Reg.PPW_P_CURR (p : Nat) : Nat := 0xB100C + p * 0x100
def Reg.PPW_P_LIMITS (p : Nat) : Nat := 0xB1010 + p * 0x100
def Reg.PPW_P_SENSE (p : Nat) : Nat := 0xB1014 + p * 0x100
def Reg.PPW_P_FAULT (p : Nat) : Nat := 0xB1018 + p * 0x100
def Reg.PPW_P_FAULT_FRAME (p : Nat) : Nat := 0xB101C + p * 0x100
def Reg.PPW_P_COUNT (p : Nat) : Nat := 0xB1020 + p * 0x100
def Reg.PPW_P_EVENT (p : Nat) : Nat := 0xB1024 + p * 0x100
def Reg.PPW_P_EVENT_EN (p : Nat) : Nat := 0xB1028 + p * 0x100
def Reg.MNS_CTRL : Nat := 0xC0000
def Reg.MNS_STATUS : Nat := 0xC0004
def Reg.MNS_EVENT : Nat := 0xC0010
def Reg.MNS_EVENT_EN : Nat := 0xC0014
def Reg.MNS_EVT_INFO : Nat := 0xC0020
def Reg.MNS_EVT_SEC : Nat := 0xC0024
def Reg.MNS_EVT_NS : Nat := 0xC0028
def Reg.MNS_EVT_DUR : Nat := 0xC002C
def Reg.MNS_COUNT : Nat := 0xC0030
def Reg.MNS_LATE : Nat := 0xC0034
def Reg.MNS_WORD (e : Nat) : Nat := 0xC0100 + e * 0x4
def Reg.PAR_CTRL : Nat := 0xD0000
def Reg.PAR_STATUS : Nat := 0xD0004
def Reg.PAR_LINK0 : Nat := 0xD0010
def Reg.PAR_LINK1 : Nat := 0xD0014
def Reg.PAR_PARTNER_FRAME : Nat := 0xD0020
def Reg.PAR_PARTNER_D : Nat := 0xD0024
def Reg.PAR_DEVICES : Nat := 0xD0030
def Reg.PAR_CATCHUP : Nat := 0xD0034
def Reg.PAR_COUNT : Nat := 0xD0038
def Reg.PAR_TIME : Nat := 0xD0040
def Reg.PAR_EVENT : Nat := 0xD0050
def Reg.PAR_EVENT_EN : Nat := 0xD0054
def Reg.PDM_STATE : Nat := 0xE0000
def Reg.PDM_DVFS : Nat := 0xE0004
def Reg.PDM_WAKE_CFG : Nat := 0xE0008
def Reg.PDM_RTC_ALARM : Nat := 0xE000C
def Reg.PDM_WAKE_CAUSE : Nat := 0xE0010
def Reg.PDM_WAKE_TIME : Nat := 0xE0014
def Reg.PDM_FAIL : Nat := 0xE0018
def Reg.PDM_EVENT : Nat := 0xE0020
def Reg.PDM_EVENT_EN : Nat := 0xE0024
def Reg.CRN_STATUS : Nat := 0xF0000
def Reg.CRN_LAST_SEQ : Nat := 0xF0004
def Reg.CRN_POWER_CYCLES : Nat := 0xF0008
def Reg.CRN_OP_SEC : Nat := 0xF000C
def Reg.CRN_HOLD : Nat := 0xF0010
def Reg.CRN_LOST : Nat := 0xF0014
def Reg.CRN_MEDIA : Nat := 0xF0018
def Reg.CRN_EVENT : Nat := 0xF0020
def Reg.CRN_EVENT_EN : Nat := 0xF0024
def Reg.SCR_STATUS : Nat := 0xF8000
def Reg.SCR_EXPIRY : Nat := 0xF8004
def Reg.SCR_ACTIVE : Nat := 0xF8008
def Reg.SCR_COUNT : Nat := 0xF800C
def Reg.SCR_BIST : Nat := 0xF8010
def Reg.SCR_EVENT : Nat := 0xF8020
def Reg.SCR_EVENT_EN : Nat := 0xF8024
def Reg.EVQ_SRC_SEL (i : Nat) : Nat := 0x103800 + i * 0x10000
def Reg.EVQ_FALLBACK (i : Nat) : Nat := 0x10380C + i * 0x10000

/-! Fields. -/

def Fd.GLB_ID_VENDOR : Fld := ⟨Reg.GLB_ID, 31, 16⟩
def Fd.GLB_ID_DEVICE : Fld := ⟨Reg.GLB_ID, 15, 0⟩
def Fd.GLB_STEP_LOGIC_STEP : Fld := ⟨Reg.GLB_STEP, 23, 16⟩
def Fd.GLB_STEP_POWER_STEP : Fld := ⟨Reg.GLB_STEP, 15, 8⟩
def Fd.GLB_STEP_PKG_STEP : Fld := ⟨Reg.GLB_STEP, 7, 0⟩
def Fd.GLB_UID_LO_UID : Fld := ⟨Reg.GLB_UID_LO, 31, 0⟩
def Fd.GLB_UID_HI_UID : Fld := ⟨Reg.GLB_UID_HI, 31, 0⟩
def Fd.GLB_CAP_MAINS : Fld := ⟨Reg.GLB_CAP, 15, 15⟩
def Fd.GLB_CAP_PAIRING : Fld := ⟨Reg.GLB_CAP, 14, 14⟩
def Fd.GLB_CAP_INST_MAX : Fld := ⟨Reg.GLB_CAP, 13, 8⟩
def Fd.GLB_CAP_PORT_MASK : Fld := ⟨Reg.GLB_CAP, 7, 0⟩
def Fd.GLB_STATUS_COLD_BOOT : Fld := ⟨Reg.GLB_STATUS, 7, 7⟩
def Fd.GLB_STATUS_OSC_FALLBACK : Fld := ⟨Reg.GLB_STATUS, 6, 6⟩
def Fd.GLB_STATUS_FW_RUNNING : Fld := ⟨Reg.GLB_STATUS, 5, 5⟩
def Fd.GLB_STATUS_STANDBY_READY : Fld := ⟨Reg.GLB_STATUS, 4, 4⟩
def Fd.GLB_STATUS_ACTIVE_PAIR : Fld := ⟨Reg.GLB_STATUS, 3, 3⟩
def Fd.GLB_STATUS_MGR_PORT : Fld := ⟨Reg.GLB_STATUS, 2, 2⟩
def Fd.GLB_STATUS_H1_UP : Fld := ⟨Reg.GLB_STATUS, 1, 1⟩
def Fd.GLB_STATUS_H0_UP : Fld := ⟨Reg.GLB_STATUS, 0, 0⟩
def Fd.GLB_RESET_KEY : Fld := ⟨Reg.GLB_RESET, 31, 16⟩
def Fd.GLB_RESET_WARM : Fld := ⟨Reg.GLB_RESET, 0, 0⟩
def Fd.GLB_ECC_CORR_COUNT : Fld := ⟨Reg.GLB_ECC_CORR, 15, 0⟩
def Fd.GLB_ECC_UNCORR_COUNT : Fld := ⟨Reg.GLB_ECC_UNCORR, 15, 0⟩
def Fd.GLB_ECC_LAST_UNCORR : Fld := ⟨Reg.GLB_ECC_LAST, 31, 31⟩
def Fd.GLB_ECC_LAST_MEM : Fld := ⟨Reg.GLB_ECC_LAST, 30, 27⟩
def Fd.GLB_ECC_LAST_WORD : Fld := ⟨Reg.GLB_ECC_LAST, 26, 0⟩
def Fd.MBX_DOORBELL_RING (m : Nat) : Fld := ⟨Reg.MBX_DOORBELL m, 7, 0⟩
def Fd.MBX_OWNER_FW (m : Nat) : Fld := ⟨Reg.MBX_OWNER m, 7, 0⟩
def Fd.MBX_DONE_DONE (m : Nat) : Fld := ⟨Reg.MBX_DONE m, 7, 0⟩
def Fd.MBX_CTRL_DONE_EVENT (m : Nat) : Fld := ⟨Reg.MBX_CTRL m, 0, 0⟩
def Fd.MBX_ERR_WR_BUSY (m : Nat) : Fld := ⟨Reg.MBX_ERR m, 15, 8⟩
def Fd.MBX_ERR_RING_BUSY (m : Nat) : Fld := ⟨Reg.MBX_ERR m, 7, 0⟩
def Fd.MBX_FW_VER_LINE : Fld := ⟨Reg.MBX_FW_VER, 31, 24⟩
def Fd.MBX_FW_VER_RELEASE : Fld := ⟨Reg.MBX_FW_VER, 23, 16⟩
def Fd.MBX_FW_VER_BUILD : Fld := ⟨Reg.MBX_FW_VER, 15, 0⟩
def Fd.MBX_FW_STATE_PAIR_FAULTS : Fld := ⟨Reg.MBX_FW_STATE, 23, 16⟩
def Fd.MBX_FW_STATE_SEC_COUNT : Fld := ⟨Reg.MBX_FW_STATE, 15, 8⟩
def Fd.MBX_FW_STATE_STBY_SLOT : Fld := ⟨Reg.MBX_FW_STATE, 4, 4⟩
def Fd.MBX_FW_STATE_TRIAL : Fld := ⟨Reg.MBX_FW_STATE, 3, 3⟩
def Fd.MBX_FW_STATE_RUN_SLOT : Fld := ⟨Reg.MBX_FW_STATE, 2, 2⟩
def Fd.MBX_FW_STATE_MODE : Fld := ⟨Reg.MBX_FW_STATE, 1, 0⟩
def Fd.MBX_BOOT_INFO_BOOT_TIME : Fld := ⟨Reg.MBX_BOOT_INFO, 31, 16⟩
def Fd.MBX_BOOT_INFO_REASON : Fld := ⟨Reg.MBX_BOOT_INFO, 15, 8⟩
def Fd.MBX_BOOT_INFO_BOOT_ERR : Fld := ⟨Reg.MBX_BOOT_INFO, 7, 0⟩
def Fd.TIM_CTRL_STROBE_OFFSET : Fld := ⟨Reg.TIM_CTRL, 31, 20⟩
def Fd.TIM_CTRL_PPS_WIDTH : Fld := ⟨Reg.TIM_CTRL, 19, 8⟩
def Fd.TIM_CTRL_FRAME_OUT_EN : Fld := ⟨Reg.TIM_CTRL, 3, 3⟩
def Fd.TIM_CTRL_PPS_OUT_EN : Fld := ⟨Reg.TIM_CTRL, 2, 2⟩
def Fd.TIM_CTRL_PERIOD : Fld := ⟨Reg.TIM_CTRL, 1, 0⟩
def Fd.TIM_STATUS_JUMPED : Fld := ⟨Reg.TIM_STATUS, 7, 7⟩
def Fd.TIM_STATUS_OVERRUN : Fld := ⟨Reg.TIM_STATUS, 6, 6⟩
def Fd.TIM_STATUS_SLEWING : Fld := ⟨Reg.TIM_STATUS, 5, 5⟩
def Fd.TIM_STATUS_TIME_ESTIMATED : Fld := ⟨Reg.TIM_STATUS, 4, 4⟩
def Fd.TIM_STATUS_STATE : Fld := ⟨Reg.TIM_STATUS, 2, 0⟩
def Fd.TIM_SYSTIME_SEC_SEC : Fld := ⟨Reg.TIM_SYSTIME_SEC, 31, 0⟩
def Fd.TIM_SYSTIME_NS_NS : Fld := ⟨Reg.TIM_SYSTIME_NS, 29, 0⟩
def Fd.TIM_FRAME_NO_FRAME_NO : Fld := ⟨Reg.TIM_FRAME_NO, 31, 0⟩
def Fd.TIM_RATE_RATE : Fld := ⟨Reg.TIM_RATE, 31, 0⟩
def Fd.TIM_PPS_ERR_ERR : Fld := ⟨Reg.TIM_PPS_ERR, 31, 0⟩
def Fd.TIM_UNCERT_UNCERT : Fld := ⟨Reg.TIM_UNCERT, 31, 0⟩
def Fd.TIM_RTC_PERIOD_PERIOD : Fld := ⟨Reg.TIM_RTC_PERIOD, 31, 0⟩
def Fd.TIM_PPS_CTRL_DELAY : Fld := ⟨Reg.TIM_PPS_CTRL, 31, 16⟩
def Fd.TIM_PPS_CTRL_POLARITY : Fld := ⟨Reg.TIM_PPS_CTRL, 1, 1⟩
def Fd.TIM_PPS_CTRL_EN : Fld := ⟨Reg.TIM_PPS_CTRL, 0, 0⟩
def Fd.TIM_PPS_WINDOW_WINDOW : Fld := ⟨Reg.TIM_PPS_WINDOW, 16, 0⟩
def Fd.TIM_PPS_COUNT_ACCEPTED : Fld := ⟨Reg.TIM_PPS_COUNT, 31, 16⟩
def Fd.TIM_PPS_COUNT_REJECTED : Fld := ⟨Reg.TIM_PPS_COUNT, 15, 0⟩
def Fd.TIM_OVERRUN_DEFERRED : Fld := ⟨Reg.TIM_OVERRUN, 31, 16⟩
def Fd.TIM_OVERRUN_FRAMES : Fld := ⟨Reg.TIM_OVERRUN, 15, 0⟩
def Fd.LNK_CTRL_RXCAL_INT (p : Nat) : Fld := ⟨Reg.LNK_CTRL p, 23, 20⟩
def Fd.LNK_CTRL_DLYCAL_INT (p : Nat) : Fld := ⟨Reg.LNK_CTRL p, 19, 16⟩
def Fd.LNK_CTRL_TX_PRESET (p : Nat) : Fld := ⟨Reg.LNK_CTRL p, 15, 12⟩
def Fd.LNK_CTRL_INV_ALLOW (p : Nat) : Fld := ⟨Reg.LNK_CTRL p, 8, 8⟩
def Fd.LNK_CTRL_L1_EN (p : Nat) : Fld := ⟨Reg.LNK_CTRL p, 3, 3⟩
def Fd.LNK_CTRL_RETRAIN (p : Nat) : Fld := ⟨Reg.LNK_CTRL p, 2, 2⟩
def Fd.LNK_CTRL_DISABLE (p : Nat) : Fld := ⟨Reg.LNK_CTRL p, 1, 1⟩
def Fd.LNK_CTRL_EN (p : Nat) : Fld := ⟨Reg.LNK_CTRL p, 0, 0⟩
def Fd.LNK_STATUS_LAST_FAIL (p : Nat) : Fld := ⟨Reg.LNK_STATUS p, 27, 24⟩
def Fd.LNK_STATUS_PRESET_TX (p : Nat) : Fld := ⟨Reg.LNK_STATUS p, 23, 20⟩
def Fd.LNK_STATUS_PRESET_RX (p : Nat) : Fld := ⟨Reg.LNK_STATUS p, 19, 16⟩
def Fd.LNK_STATUS_INVERTED (p : Nat) : Fld := ⟨Reg.LNK_STATUS p, 11, 11⟩
def Fd.LNK_STATUS_PARTNER_DUAL (p : Nat) : Fld := ⟨Reg.LNK_STATUS p, 10, 10⟩
def Fd.LNK_STATUS_PARTNER_HUB (p : Nat) : Fld := ⟨Reg.LNK_STATUS p, 9, 9⟩
def Fd.LNK_STATUS_PRESENT (p : Nat) : Fld := ⟨Reg.LNK_STATUS p, 8, 8⟩
def Fd.LNK_STATUS_STATE (p : Nat) : Fld := ⟨Reg.LNK_STATUS p, 3, 0⟩
def Fd.LNK_DELAY_MEASURED (p : Nat) : Fld := ⟨Reg.LNK_DELAY p, 31, 16⟩
def Fd.LNK_DELAY_USED (p : Nat) : Fld := ⟨Reg.LNK_DELAY p, 15, 0⟩
def Fd.LNK_DELAY_INFO_SPREAD (p : Nat) : Fld := ⟨Reg.LNK_DELAY_INFO p, 31, 24⟩
def Fd.LNK_DELAY_INFO_REJECTS (p : Nat) : Fld := ⟨Reg.LNK_DELAY_INFO p, 23, 16⟩
def Fd.LNK_DELAY_INFO_TURN (p : Nat) : Fld := ⟨Reg.LNK_DELAY_INFO p, 15, 0⟩
def Fd.LNK_ERR_WORD (p : Nat) : Fld := ⟨Reg.LNK_ERR p, 31, 16⟩
def Fd.LNK_ERR_SCRAMBLE (p : Nat) : Fld := ⟨Reg.LNK_ERR p, 15, 8⟩
def Fd.LNK_ERR_UNKNOWN (p : Nat) : Fld := ⟨Reg.LNK_ERR p, 7, 0⟩
def Fd.LNK_RECOV_RECOVERIES (p : Nat) : Fld := ⟨Reg.LNK_RECOV p, 31, 16⟩
def Fd.LNK_RECOV_RETRAINS (p : Nat) : Fld := ⟨Reg.LNK_RECOV p, 15, 8⟩
def Fd.LNK_RECOV_TRAIN_FAILS (p : Nat) : Fld := ⟨Reg.LNK_RECOV p, 7, 0⟩
def Fd.LNK_RECAL_SKIPPED (p : Nat) : Fld := ⟨Reg.LNK_RECAL p, 31, 16⟩
def Fd.LNK_RECAL_LAST_KIND (p : Nat) : Fld := ⟨Reg.LNK_RECAL p, 7, 4⟩
def Fd.LNK_RECAL_FRAME_FRAME (p : Nat) : Fld := ⟨Reg.LNK_RECAL_FRAME p, 31, 0⟩
def Fd.LNK_EVENT_DELAY_STEP (p : Nat) : Fld := ⟨Reg.LNK_EVENT p, 5, 5⟩
def Fd.LNK_EVENT_RECOVERY (p : Nat) : Fld := ⟨Reg.LNK_EVENT p, 4, 4⟩
def Fd.LNK_EVENT_TRAIN_FAIL (p : Nat) : Fld := ⟨Reg.LNK_EVENT p, 3, 3⟩
def Fd.LNK_EVENT_WAKE (p : Nat) : Fld := ⟨Reg.LNK_EVENT p, 2, 2⟩
def Fd.LNK_EVENT_DOWN (p : Nat) : Fld := ⟨Reg.LNK_EVENT p, 1, 1⟩
def Fd.LNK_EVENT_UP (p : Nat) : Fld := ⟨Reg.LNK_EVENT p, 0, 0⟩
def Fd.LNK_EVENT_EN_DELAY_STEP (p : Nat) : Fld := ⟨Reg.LNK_EVENT_EN p, 5, 5⟩
def Fd.LNK_EVENT_EN_RECOVERY (p : Nat) : Fld := ⟨Reg.LNK_EVENT_EN p, 4, 4⟩
def Fd.LNK_EVENT_EN_TRAIN_FAIL (p : Nat) : Fld := ⟨Reg.LNK_EVENT_EN p, 3, 3⟩
def Fd.LNK_EVENT_EN_WAKE (p : Nat) : Fld := ⟨Reg.LNK_EVENT_EN p, 2, 2⟩
def Fd.LNK_EVENT_EN_DOWN (p : Nat) : Fld := ⟨Reg.LNK_EVENT_EN p, 1, 1⟩
def Fd.LNK_EVENT_EN_UP (p : Nat) : Fld := ⟨Reg.LNK_EVENT_EN p, 0, 0⟩
def Fd.TRE_CTRL_AUTO_RESUME : Fld := ⟨Reg.TRE_CTRL, 1, 1⟩
def Fd.TRE_CTRL_AUTO_ENUM : Fld := ⟨Reg.TRE_CTRL, 0, 0⟩
def Fd.TRE_STATUS_DEVICES : Fld := ⟨Reg.TRE_STATUS, 29, 16⟩
def Fd.TRE_STATUS_ENUM_BUSY : Fld := ⟨Reg.TRE_STATUS, 15, 8⟩
def Fd.TRE_STATUS_SUSPENDED : Fld := ⟨Reg.TRE_STATUS, 7, 0⟩
def Fd.TRE_EVENT_DM_XFER : Fld := ⟨Reg.TRE_EVENT, 8, 8⟩
def Fd.TRE_EVENT_DM_RESET : Fld := ⟨Reg.TRE_EVENT, 7, 7⟩
def Fd.TRE_EVENT_DUAL_SWITCH : Fld := ⟨Reg.TRE_EVENT, 6, 6⟩
def Fd.TRE_EVENT_WAKE : Fld := ⟨Reg.TRE_EVENT, 5, 5⟩
def Fd.TRE_EVENT_OVER_CURRENT : Fld := ⟨Reg.TRE_EVENT, 4, 4⟩
def Fd.TRE_EVENT_REFUSED : Fld := ⟨Reg.TRE_EVENT, 3, 3⟩
def Fd.TRE_EVENT_ENUM_DONE : Fld := ⟨Reg.TRE_EVENT, 2, 2⟩
def Fd.TRE_EVENT_DETACH : Fld := ⟨Reg.TRE_EVENT, 1, 1⟩
def Fd.TRE_EVENT_ATTACH : Fld := ⟨Reg.TRE_EVENT, 0, 0⟩
def Fd.TRE_EVENT_EN_DM_XFER : Fld := ⟨Reg.TRE_EVENT_EN, 8, 8⟩
def Fd.TRE_EVENT_EN_DM_RESET : Fld := ⟨Reg.TRE_EVENT_EN, 7, 7⟩
def Fd.TRE_EVENT_EN_DUAL_SWITCH : Fld := ⟨Reg.TRE_EVENT_EN, 6, 6⟩
def Fd.TRE_EVENT_EN_WAKE : Fld := ⟨Reg.TRE_EVENT_EN, 5, 5⟩
def Fd.TRE_EVENT_EN_OVER_CURRENT : Fld := ⟨Reg.TRE_EVENT_EN, 4, 4⟩
def Fd.TRE_EVENT_EN_REFUSED : Fld := ⟨Reg.TRE_EVENT_EN, 3, 3⟩
def Fd.TRE_EVENT_EN_ENUM_DONE : Fld := ⟨Reg.TRE_EVENT_EN, 2, 2⟩
def Fd.TRE_EVENT_EN_DETACH : Fld := ⟨Reg.TRE_EVENT_EN, 1, 1⟩
def Fd.TRE_EVENT_EN_ATTACH : Fld := ⟨Reg.TRE_EVENT_EN, 0, 0⟩
def Fd.TRE_PORT_DEVS_DEVICES (p : Nat) : Fld := ⟨Reg.TRE_PORT_DEVS p, 26, 16⟩
def Fd.TRE_PORT_DEVS_HUBS (p : Nat) : Fld := ⟨Reg.TRE_PORT_DEVS p, 10, 0⟩
def Fd.TRE_REFUSE_REASON : Fld := ⟨Reg.TRE_REFUSE, 31, 28⟩
def Fd.TRE_REFUSE_PORT : Fld := ⟨Reg.TRE_REFUSE, 27, 25⟩
def Fd.TRE_REFUSE_HUB_PORT : Fld := ⟨Reg.TRE_REFUSE, 24, 21⟩
def Fd.TRE_REFUSE_HUB_ADDR : Fld := ⟨Reg.TRE_REFUSE, 20, 8⟩
def Fd.TRE_REFUSE_COUNT_COUNT : Fld := ⟨Reg.TRE_REFUSE_COUNT, 15, 0⟩
def Fd.TRE_DM_CTRL_PORT : Fld := ⟨Reg.TRE_DM_CTRL, 10, 8⟩
def Fd.TRE_DM_CTRL_REMOTE_WAKE : Fld := ⟨Reg.TRE_DM_CTRL, 2, 2⟩
def Fd.TRE_DM_CTRL_CONNECT : Fld := ⟨Reg.TRE_DM_CTRL, 1, 1⟩
def Fd.TRE_DM_CTRL_ACTIVE : Fld := ⟨Reg.TRE_DM_CTRL, 0, 0⟩
def Fd.TRE_DM_STATUS_REMOTE_WAKE_EN : Fld := ⟨Reg.TRE_DM_STATUS, 15, 15⟩
def Fd.TRE_DM_STATUS_SUSPENDED : Fld := ⟨Reg.TRE_DM_STATUS, 14, 14⟩
def Fd.TRE_DM_STATUS_CONFIGURED : Fld := ⟨Reg.TRE_DM_STATUS, 13, 13⟩
def Fd.TRE_DM_STATUS_ADDRESS : Fld := ⟨Reg.TRE_DM_STATUS, 12, 0⟩
def Fd.TRE_DM_STROBE_SEC_SEC : Fld := ⟨Reg.TRE_DM_STROBE_SEC, 31, 0⟩
def Fd.TRE_DM_STROBE_NS_NS : Fld := ⟨Reg.TRE_DM_STROBE_NS, 29, 0⟩
def Fd.TRE_DM_EP_CFG_VALID (n : Nat) : Fld := ⟨Reg.TRE_DM_EP_CFG n, 31, 31⟩
def Fd.TRE_DM_EP_CFG_DIR (n : Nat) : Fld := ⟨Reg.TRE_DM_EP_CFG n, 30, 30⟩
def Fd.TRE_DM_EP_CFG_TYPE (n : Nat) : Fld := ⟨Reg.TRE_DM_EP_CFG n, 29, 28⟩
def Fd.TRE_DM_EP_CFG_MAX_WORDS (n : Nat) : Fld := ⟨Reg.TRE_DM_EP_CFG n, 25, 16⟩
def Fd.TRE_DM_EP_CFG_BASE (n : Nat) : Fld := ⟨Reg.TRE_DM_EP_CFG n, 15, 8⟩
def Fd.TRE_DM_EP_CFG_MIN_K (n : Nat) : Fld := ⟨Reg.TRE_DM_EP_CFG n, 7, 4⟩
def Fd.TRE_DM_EP_CFG_FORMAT (n : Nat) : Fld := ⟨Reg.TRE_DM_EP_CFG n, 3, 3⟩
def Fd.TRE_DM_EP_STAT_ARM (n : Nat) : Fld := ⟨Reg.TRE_DM_EP_STAT n, 31, 31⟩
def Fd.TRE_DM_EP_STAT_FULL (n : Nat) : Fld := ⟨Reg.TRE_DM_EP_STAT n, 30, 30⟩
def Fd.TRE_DM_EP_STAT_HALT (n : Nat) : Fld := ⟨Reg.TRE_DM_EP_STAT n, 29, 29⟩
def Fd.TRE_DM_EP_STAT_TOGGLE (n : Nat) : Fld := ⟨Reg.TRE_DM_EP_STAT n, 28, 28⟩
def Fd.TRE_DM_EP_STAT_RX_PAD (n : Nat) : Fld := ⟨Reg.TRE_DM_EP_STAT n, 27, 26⟩
def Fd.TRE_DM_EP_STAT_RX_LEN (n : Nat) : Fld := ⟨Reg.TRE_DM_EP_STAT n, 25, 16⟩
def Fd.TRE_DM_EP_STAT_TX_PAD (n : Nat) : Fld := ⟨Reg.TRE_DM_EP_STAT n, 13, 12⟩
def Fd.TRE_DM_EP_STAT_TX_LEN (n : Nat) : Fld := ⟨Reg.TRE_DM_EP_STAT n, 9, 0⟩
def Fd.INS_DOORBELL_OP (i : Nat) : Fld := ⟨Reg.INS_DOORBELL i, 31, 30⟩
def Fd.INS_DOORBELL_ENTRY (i : Nat) : Fld := ⟨Reg.INS_DOORBELL i, 29, 16⟩
def Fd.INS_DOORBELL_VALUE (i : Nat) : Fld := ⟨Reg.INS_DOORBELL i, 15, 0⟩
def Fd.INS_DB_ERR_OP (i : Nat) : Fld := ⟨Reg.INS_DB_ERR i, 31, 30⟩
def Fd.INS_DB_ERR_ENTRY (i : Nat) : Fld := ⟨Reg.INS_DB_ERR i, 29, 16⟩
def Fd.INS_DB_ERR_REASON (i : Nat) : Fld := ⟨Reg.INS_DB_ERR i, 15, 8⟩
def Fd.INS_DB_ERR_COUNT (i : Nat) : Fld := ⟨Reg.INS_DB_ERR i, 7, 0⟩
def Fd.INS_CR_OPEN_OPEN (i : Nat) : Fld := ⟨Reg.INS_CR_OPEN i, 15, 0⟩
def Fd.SCH_CTRL_AUTO_PIN : Fld := ⟨Reg.SCH_CTRL, 1, 1⟩
def Fd.SCH_CTRL_ALLOC_EN : Fld := ⟨Reg.SCH_CTRL, 0, 0⟩
def Fd.SCH_STATUS_HANDLES : Fld := ⟨Reg.SCH_STATUS, 31, 15⟩
def Fd.SCH_STATUS_REQ_DROPPED : Fld := ⟨Reg.SCH_STATUS, 7, 0⟩
def Fd.SCH_DIR_LO_BASE_LO : Fld := ⟨Reg.SCH_DIR_LO, 31, 14⟩
def Fd.SCH_DIR_HI_BASE_HI : Fld := ⟨Reg.SCH_DIR_HI, 31, 0⟩
def Fd.SCH_DIR_PASID_PASID_EN : Fld := ⟨Reg.SCH_DIR_PASID, 31, 31⟩
def Fd.SCH_DIR_PASID_PASID : Fld := ⟨Reg.SCH_DIR_PASID, 19, 0⟩
def Fd.SCH_ADDR_WINDOW_HI : Fld := ⟨Reg.SCH_ADDR_WINDOW, 28, 16⟩
def Fd.SCH_ADDR_WINDOW_LO : Fld := ⟨Reg.SCH_ADDR_WINDOW, 12, 0⟩
def Fd.SCH_ALLOC_SEA_SEA : Fld := ⟨Reg.SCH_ALLOC_SEA, 23, 0⟩
def Fd.SCH_ALLOC_PARAM_TRY_LONGER : Fld := ⟨Reg.SCH_ALLOC_PARAM, 31, 31⟩
def Fd.SCH_ALLOC_PARAM_KMAX : Fld := ⟨Reg.SCH_ALLOC_PARAM, 27, 24⟩
def Fd.SCH_ALLOC_PARAM_K : Fld := ⟨Reg.SCH_ALLOC_PARAM, 19, 16⟩
def Fd.SCH_ALLOC_PARAM_WORDS : Fld := ⟨Reg.SCH_ALLOC_PARAM, 9, 0⟩
def Fd.SCH_ALLOC_HANDLE_HANDLE : Fld := ⟨Reg.SCH_ALLOC_HANDLE, 31, 0⟩
def Fd.SCH_ALLOC_REQ_OP : Fld := ⟨Reg.SCH_ALLOC_REQ, 2, 0⟩
def Fd.SCH_ALLOC_RESP_BUSY : Fld := ⟨Reg.SCH_ALLOC_RESP, 31, 31⟩
def Fd.SCH_ALLOC_RESP_DONE : Fld := ⟨Reg.SCH_ALLOC_RESP, 30, 30⟩
def Fd.SCH_ALLOC_RESP_RESULT : Fld := ⟨Reg.SCH_ALLOC_RESP, 29, 27⟩
def Fd.SCH_ALLOC_RESP_REFUSAL : Fld := ⟨Reg.SCH_ALLOC_RESP, 26, 23⟩
def Fd.SCH_ALLOC_RESP_BWHAT : Fld := ⟨Reg.SCH_ALLOC_RESP, 22, 20⟩
def Fd.SCH_ALLOC_RESP_BLINK : Fld := ⟨Reg.SCH_ALLOC_RESP, 19, 18⟩
def Fd.SCH_ALLOC_RESP_BPORT : Fld := ⟨Reg.SCH_ALLOC_RESP, 17, 15⟩
def Fd.SCH_ALLOC_RESP_BADDR : Fld := ⟨Reg.SCH_ALLOC_RESP, 12, 0⟩
def Fd.SCH_ALLOC_GRANT_HANDLE : Fld := ⟨Reg.SCH_ALLOC_GRANT, 31, 0⟩
def Fd.SCH_ALLOC_PLACE_ALT_K : Fld := ⟨Reg.SCH_ALLOC_PLACE, 31, 28⟩
def Fd.SCH_ALLOC_PLACE_ALT_WORDS : Fld := ⟨Reg.SCH_ALLOC_PLACE, 25, 16⟩
def Fd.SCH_ALLOC_PLACE_K : Fld := ⟨Reg.SCH_ALLOC_PLACE, 15, 12⟩
def Fd.SCH_ALLOC_PLACE_PHASE : Fld := ⟨Reg.SCH_ALLOC_PLACE, 11, 0⟩
def Fd.SCH_ALLOC_FIRST_FIRST : Fld := ⟨Reg.SCH_ALLOC_FIRST, 31, 0⟩
def Fd.SCH_POLICY0_PERIODIC_PCT : Fld := ⟨Reg.SCH_POLICY0, 31, 25⟩
def Fd.SCH_POLICY0_ASSURED_RETRY : Fld := ⟨Reg.SCH_POLICY0, 24, 23⟩
def Fd.SCH_POLICY0_TAIL_WT : Fld := ⟨Reg.SCH_POLICY0, 22, 13⟩
def Fd.SCH_POLICY0_PIN_K : Fld := ⟨Reg.SCH_POLICY0, 12, 9⟩
def Fd.SCH_POLICY0_PAGER_READS : Fld := ⟨Reg.SCH_POLICY0, 7, 0⟩
def Fd.SCH_POLICY1_PIN_LIMIT : Fld := ⟨Reg.SCH_POLICY1, 31, 16⟩
def Fd.SCH_POLICY1_CTX_PER_FRAME : Fld := ⟨Reg.SCH_POLICY1, 15, 0⟩
def Fd.SCH_CACHE_CACHED : Fld := ⟨Reg.SCH_CACHE, 31, 16⟩
def Fd.SCH_CACHE_PINNED : Fld := ⟨Reg.SCH_CACHE, 15, 0⟩
def Fd.SCH_PAGE_COUNT_PAGE_INS : Fld := ⟨Reg.SCH_PAGE_COUNT, 31, 16⟩
def Fd.SCH_PAGE_COUNT_WRITE_BACKS : Fld := ⟨Reg.SCH_PAGE_COUNT, 15, 0⟩
def Fd.SCH_PAGE_LATE_LATE : Fld := ⟨Reg.SCH_PAGE_LATE, 31, 16⟩
def Fd.SCH_PAGE_LATE_READ_ERR : Fld := ⟨Reg.SCH_PAGE_LATE, 15, 8⟩
def Fd.SCH_PAGE_LATE_WB_ERR : Fld := ⟨Reg.SCH_PAGE_LATE, 7, 0⟩
def Fd.SCH_EVENT_PIN_FULL : Fld := ⟨Reg.SCH_EVENT, 4, 4⟩
def Fd.SCH_EVENT_WB_ERR : Fld := ⟨Reg.SCH_EVENT, 3, 3⟩
def Fd.SCH_EVENT_PAGE_ERR : Fld := ⟨Reg.SCH_EVENT, 2, 2⟩
def Fd.SCH_EVENT_PAGE_LATE : Fld := ⟨Reg.SCH_EVENT, 1, 1⟩
def Fd.SCH_EVENT_ALLOC_DONE : Fld := ⟨Reg.SCH_EVENT, 0, 0⟩
def Fd.SCH_EVENT_EN_PIN_FULL : Fld := ⟨Reg.SCH_EVENT_EN, 4, 4⟩
def Fd.SCH_EVENT_EN_WB_ERR : Fld := ⟨Reg.SCH_EVENT_EN, 3, 3⟩
def Fd.SCH_EVENT_EN_PAGE_ERR : Fld := ⟨Reg.SCH_EVENT_EN, 2, 2⟩
def Fd.SCH_EVENT_EN_PAGE_LATE : Fld := ⟨Reg.SCH_EVENT_EN, 1, 1⟩
def Fd.SCH_EVENT_EN_ALLOC_DONE : Fld := ⟨Reg.SCH_EVENT_EN, 0, 0⟩
def Fd.XFR_CTRL_BULK_OUT_PKTS : Fld := ⟨Reg.XFR_CTRL, 11, 8⟩
def Fd.XFR_CTRL_ERR_RETRY : Fld := ⟨Reg.XFR_CTRL, 2, 0⟩
def Fd.XFR_STATUS_BANK : Fld := ⟨Reg.XFR_STATUS, 1, 0⟩
def Fd.XFR_RETRY_PERIODIC : Fld := ⟨Reg.XFR_RETRY, 31, 16⟩
def Fd.XFR_RETRY_BULK : Fld := ⟨Reg.XFR_RETRY, 15, 0⟩
def Fd.XFR_WITHDRAWN_COUNT : Fld := ⟨Reg.XFR_WITHDRAWN, 15, 0⟩
def Fd.XFR_DEFER_LINK : Fld := ⟨Reg.XFR_DEFER, 15, 0⟩
def Fd.XFR_HIST_RECOVERED : Fld := ⟨Reg.XFR_HIST, 31, 16⟩
def Fd.XFR_HIST_LOST : Fld := ⟨Reg.XFR_HIST, 15, 0⟩
def Fd.XFR_CHECK_CRC24 : Fld := ⟨Reg.XFR_CHECK, 31, 16⟩
def Fd.XFR_CHECK_E2E : Fld := ⟨Reg.XFR_CHECK, 15, 8⟩
def Fd.XFR_CHECK_POISONED : Fld := ⟨Reg.XFR_CHECK, 7, 0⟩
def Fd.XFR_DRAIN_LATE : Fld := ⟨Reg.XFR_DRAIN, 31, 16⟩
def Fd.XFR_EVENT_WITHDRAWN : Fld := ⟨Reg.XFR_EVENT, 3, 3⟩
def Fd.XFR_EVENT_POISONED : Fld := ⟨Reg.XFR_EVENT, 2, 2⟩
def Fd.XFR_EVENT_HIST_LOST : Fld := ⟨Reg.XFR_EVENT, 1, 1⟩
def Fd.XFR_EVENT_DRAIN_LATE : Fld := ⟨Reg.XFR_EVENT, 0, 0⟩
def Fd.XFR_EVENT_EN_WITHDRAWN : Fld := ⟨Reg.XFR_EVENT_EN, 3, 3⟩
def Fd.XFR_EVENT_EN_POISONED : Fld := ⟨Reg.XFR_EVENT_EN, 2, 2⟩
def Fd.XFR_EVENT_EN_HIST_LOST : Fld := ⟨Reg.XFR_EVENT_EN, 1, 1⟩
def Fd.XFR_EVENT_EN_DRAIN_LATE : Fld := ⟨Reg.XFR_EVENT_EN, 0, 0⟩
def Fd.DMA_CTRL_EN : Fld := ⟨Reg.DMA_CTRL, 0, 0⟩
def Fd.DMA_BUSY_BUSY : Fld := ⟨Reg.DMA_BUSY, 31, 0⟩
def Fd.DMA_BOUND_BOUND : Fld := ⟨Reg.DMA_BOUND, 31, 0⟩
def Fd.DMA_ERR_DB_REJECT : Fld := ⟨Reg.DMA_ERR, 15, 8⟩
def Fd.DMA_ERR_ERRORS : Fld := ⟨Reg.DMA_ERR, 7, 0⟩
def Fd.DMA_CH_RING_LO_BASE_LO (n : Nat) : Fld := ⟨Reg.DMA_CH_RING_LO n, 31, 6⟩
def Fd.DMA_CH_RING_HI_BASE_HI (n : Nat) : Fld := ⟨Reg.DMA_CH_RING_HI n, 31, 0⟩
def Fd.DMA_CH_CQ_LO_BASE_LO (n : Nat) : Fld := ⟨Reg.DMA_CH_CQ_LO n, 31, 6⟩
def Fd.DMA_CH_CQ_HI_BASE_HI (n : Nat) : Fld := ⟨Reg.DMA_CH_CQ_HI n, 31, 0⟩
def Fd.DMA_CH_CFG_RING_LOG2 (n : Nat) : Fld := ⟨Reg.DMA_CH_CFG n, 15, 12⟩
def Fd.DMA_CH_CFG_CQ_LOG2 (n : Nat) : Fld := ⟨Reg.DMA_CH_CFG n, 11, 8⟩
def Fd.DMA_CH_PASID_PASID_EN (n : Nat) : Fld := ⟨Reg.DMA_CH_PASID n, 31, 31⟩
def Fd.DMA_CH_PASID_PASID (n : Nat) : Fld := ⟨Reg.DMA_CH_PASID n, 19, 0⟩
def Fd.DMA_CH_DOORBELL_ENQ (n : Nat) : Fld := ⟨Reg.DMA_CH_DOORBELL n, 15, 0⟩
def Fd.DMA_CH_CQ_ACK_CONS (n : Nat) : Fld := ⟨Reg.DMA_CH_CQ_ACK n, 15, 0⟩
def Fd.DMA_CH_STATUS_DEQ (n : Nat) : Fld := ⟨Reg.DMA_CH_STATUS n, 31, 16⟩
def Fd.DMA_CH_STATUS_STATE (n : Nat) : Fld := ⟨Reg.DMA_CH_STATUS n, 1, 0⟩
def Fd.DMA_CH_CTRL_STOP (n : Nat) : Fld := ⟨Reg.DMA_CH_CTRL n, 1, 1⟩
def Fd.DMA_CH_CTRL_EN (n : Nat) : Fld := ⟨Reg.DMA_CH_CTRL n, 0, 0⟩
def Fd.RED_CTRL_CORE_EN : Fld := ⟨Reg.RED_CTRL, 31, 16⟩
def Fd.RED_CTRL_EN : Fld := ⟨Reg.RED_CTRL, 0, 0⟩
def Fd.RED_STATUS_BP : Fld := ⟨Reg.RED_STATUS, 31, 31⟩
def Fd.RED_STATUS_SWAP_PENDING : Fld := ⟨Reg.RED_STATUS, 30, 30⟩
def Fd.RED_STATUS_ACTIVE_BANK : Fld := ⟨Reg.RED_STATUS, 29, 29⟩
def Fd.RED_STATUS_ACTIVE : Fld := ⟨Reg.RED_STATUS, 28, 28⟩
def Fd.RED_STATUS_LOADED1 : Fld := ⟨Reg.RED_STATUS, 27, 27⟩
def Fd.RED_STATUS_LOADED0 : Fld := ⟨Reg.RED_STATUS, 26, 26⟩
def Fd.RED_STATUS_LIVE_RUNS : Fld := ⟨Reg.RED_STATUS, 25, 24⟩
def Fd.RED_STATUS_OUTSTANDING : Fld := ⟨Reg.RED_STATUS, 23, 12⟩
def Fd.RED_BP_BP_HIGH : Fld := ⟨Reg.RED_BP, 23, 12⟩
def Fd.RED_BP_BP_LOW : Fld := ⟨Reg.RED_BP, 11, 0⟩
def Fd.RED_RUN_LAST_FRAME : Fld := ⟨Reg.RED_RUN_LAST, 31, 0⟩
def Fd.RED_RUN_COUNT_DECLINED : Fld := ⟨Reg.RED_RUN_COUNT, 31, 16⟩
def Fd.RED_RUN_COUNT_OVERRUN : Fld := ⟨Reg.RED_RUN_COUNT, 15, 0⟩
def Fd.RED_ARITH_NARROW_SAT : Fld := ⟨Reg.RED_ARITH, 31, 16⟩
def Fd.RED_ARITH_ACC_SAT : Fld := ⟨Reg.RED_ARITH, 15, 0⟩
def Fd.RED_CMD_SENT : Fld := ⟨Reg.RED_CMD, 31, 16⟩
def Fd.RED_CMD_DEFERRED : Fld := ⟨Reg.RED_CMD, 15, 8⟩
def Fd.RED_CMD_DROPPED : Fld := ⟨Reg.RED_CMD, 7, 0⟩
def Fd.RED_DELAY_USED : Fld := ⟨Reg.RED_DELAY, 26, 16⟩
def Fd.RED_DELAY_FULL : Fld := ⟨Reg.RED_DELAY, 7, 0⟩
def Fd.RED_MEM_GATHER_MARKED : Fld := ⟨Reg.RED_MEM, 31, 16⟩
def Fd.RED_MEM_STATE_ERR : Fld := ⟨Reg.RED_MEM, 15, 8⟩
def Fd.RED_MEM_TABLE_ERR : Fld := ⟨Reg.RED_MEM, 7, 0⟩
def Fd.RED_TRACE_LOST : Fld := ⟨Reg.RED_TRACE, 31, 16⟩
def Fd.RED_EVENT_MEM_ERR : Fld := ⟨Reg.RED_EVENT, 7, 7⟩
def Fd.RED_EVENT_NODE_EVENT : Fld := ⟨Reg.RED_EVENT, 6, 6⟩
def Fd.RED_EVENT_SWAPPED : Fld := ⟨Reg.RED_EVENT, 5, 5⟩
def Fd.RED_EVENT_DELAY_FULL : Fld := ⟨Reg.RED_EVENT, 4, 4⟩
def Fd.RED_EVENT_CMD_DROPPED : Fld := ⟨Reg.RED_EVENT, 3, 3⟩
def Fd.RED_EVENT_OVERRUN : Fld := ⟨Reg.RED_EVENT, 2, 2⟩
def Fd.RED_EVENT_DECLINED : Fld := ⟨Reg.RED_EVENT, 1, 1⟩
def Fd.RED_EVENT_RUN_DONE : Fld := ⟨Reg.RED_EVENT, 0, 0⟩
def Fd.RED_EVENT_EN_MEM_ERR : Fld := ⟨Reg.RED_EVENT_EN, 7, 7⟩
def Fd.RED_EVENT_EN_NODE_EVENT : Fld := ⟨Reg.RED_EVENT_EN, 6, 6⟩
def Fd.RED_EVENT_EN_SWAPPED : Fld := ⟨Reg.RED_EVENT_EN, 5, 5⟩
def Fd.RED_EVENT_EN_DELAY_FULL : Fld := ⟨Reg.RED_EVENT_EN, 4, 4⟩
def Fd.RED_EVENT_EN_CMD_DROPPED : Fld := ⟨Reg.RED_EVENT_EN, 3, 3⟩
def Fd.RED_EVENT_EN_OVERRUN : Fld := ⟨Reg.RED_EVENT_EN, 2, 2⟩
def Fd.RED_EVENT_EN_DECLINED : Fld := ⟨Reg.RED_EVENT_EN, 1, 1⟩
def Fd.RED_EVENT_EN_RUN_DONE : Fld := ⟨Reg.RED_EVENT_EN, 0, 0⟩
def Fd.RED_NODE_EVENT_CODE : Fld := ⟨Reg.RED_NODE_EVENT, 31, 24⟩
def Fd.RED_NODE_EVENT_NODE : Fld := ⟨Reg.RED_NODE_EVENT, 21, 12⟩
def Fd.RED_NODE_EVENT_COUNT : Fld := ⟨Reg.RED_NODE_EVENT, 7, 0⟩
def Fd.RED_CORE_BUSY_BUSY (c : Nat) : Fld := ⟨Reg.RED_CORE_BUSY c, 31, 0⟩
def Fd.RED_CORE_NODES_NODES (c : Nat) : Fld := ⟨Reg.RED_CORE_NODES c, 31, 0⟩
def Fd.RED_CORE_WAIT_SUM_WAIT_SUM (c : Nat) : Fld := ⟨Reg.RED_CORE_WAIT_SUM c, 31, 0⟩
def Fd.RED_CORE_WAIT_MAX_WAIT_MAX (c : Nat) : Fld := ⟨Reg.RED_CORE_WAIT_MAX c, 15, 0⟩
def Fd.RED_CORE_DEPTH_MAX (c : Nat) : Fld := ⟨Reg.RED_CORE_DEPTH c, 27, 16⟩
def Fd.RED_CORE_DEPTH_NOW (c : Nat) : Fld := ⟨Reg.RED_CORE_DEPTH c, 11, 0⟩
def Fd.INS_SELF_INSTANCE (i : Nat) : Fld := ⟨Reg.INS_SELF i, 29, 24⟩
def Fd.INS_SELF_GENERATION (i : Nat) : Fld := ⟨Reg.INS_SELF i, 23, 16⟩
def Fd.INS_SELF_PORT (i : Nat) : Fld := ⟨Reg.INS_SELF i, 15, 15⟩
def Fd.INS_SELF_DMA (i : Nat) : Fld := ⟨Reg.INS_SELF i, 13, 8⟩
def Fd.INS_SELF_QUEUES (i : Nat) : Fld := ⟨Reg.INS_SELF i, 4, 0⟩
def Fd.INS_PAGE_LATE_DISCARDED (i : Nat) : Fld := ⟨Reg.INS_PAGE_LATE i, 31, 16⟩
def Fd.INS_PAGE_LATE_ISO (i : Nat) : Fld := ⟨Reg.INS_PAGE_LATE i, 15, 0⟩
def Fd.INS_ISO_LAST_KIND (i : Nat) : Fld := ⟨Reg.INS_ISO_LAST i, 31, 28⟩
def Fd.INS_ISO_LAST_PASID (i : Nat) : Fld := ⟨Reg.INS_ISO_LAST i, 19, 0⟩
def Fd.INS_FRAME_NO_FRAME_NO (i : Nat) : Fld := ⟨Reg.INS_FRAME_NO i, 31, 0⟩
def Fd.INS_EXIST_LO_EXIST : Fld := ⟨Reg.INS_EXIST_LO, 31, 0⟩
def Fd.INS_EXIST_HI_EXIST : Fld := ⟨Reg.INS_EXIST_HI, 31, 0⟩
def Fd.INS_PORT_LO_PORT : Fld := ⟨Reg.INS_PORT_LO, 31, 0⟩
def Fd.INS_PORT_HI_PORT : Fld := ⟨Reg.INS_PORT_HI, 31, 0⟩
def Fd.INS_POOL_ENTRIES_FREE : Fld := ⟨Reg.INS_POOL_ENTRIES, 17, 0⟩
def Fd.INS_POOL_SHARE_FREE : Fld := ⟨Reg.INS_POOL_SHARE, 31, 0⟩
def Fd.INS_POOL_MISC_FREE_QUEUES : Fld := ⟨Reg.INS_POOL_MISC, 24, 16⟩
def Fd.INS_POOL_MISC_FREE_DMA : Fld := ⟨Reg.INS_POOL_MISC, 5, 0⟩
def Fd.INS_EVENT_PORT_RESET : Fld := ⟨Reg.INS_EVENT, 3, 3⟩
def Fd.INS_EVENT_ISO : Fld := ⟨Reg.INS_EVENT, 2, 2⟩
def Fd.INS_EVENT_LATE : Fld := ⟨Reg.INS_EVENT, 1, 1⟩
def Fd.INS_EVENT_CHANGED : Fld := ⟨Reg.INS_EVENT, 0, 0⟩
def Fd.INS_EVENT_EN_PORT_RESET : Fld := ⟨Reg.INS_EVENT_EN, 3, 3⟩
def Fd.INS_EVENT_EN_ISO : Fld := ⟨Reg.INS_EVENT_EN, 2, 2⟩
def Fd.INS_EVENT_EN_LATE : Fld := ⟨Reg.INS_EVENT_EN, 1, 1⟩
def Fd.INS_EVENT_EN_CHANGED : Fld := ⟨Reg.INS_EVENT_EN, 0, 0⟩
def Fd.INS_I_STATE_EXISTS (i : Nat) : Fld := ⟨Reg.INS_I_STATE i, 31, 31⟩
def Fd.INS_I_STATE_PORT (i : Nat) : Fld := ⟨Reg.INS_I_STATE i, 30, 30⟩
def Fd.INS_I_STATE_TABLE_SET (i : Nat) : Fld := ⟨Reg.INS_I_STATE i, 29, 29⟩
def Fd.INS_I_STATE_GENERATION (i : Nat) : Fld := ⟨Reg.INS_I_STATE i, 23, 16⟩
def Fd.INS_I_STATE_DMA (i : Nat) : Fld := ⟨Reg.INS_I_STATE i, 13, 8⟩
def Fd.INS_I_STATE_QUEUES (i : Nat) : Fld := ⟨Reg.INS_I_STATE i, 4, 0⟩
def Fd.INS_I_ENTRIES_BOUND (i : Nat) : Fld := ⟨Reg.INS_I_ENTRIES i, 31, 16⟩
def Fd.INS_I_ENTRIES_ALLOT (i : Nat) : Fld := ⟨Reg.INS_I_ENTRIES i, 13, 0⟩
def Fd.INS_I_SHARE_SHARE (i : Nat) : Fld := ⟨Reg.INS_I_SHARE i, 31, 0⟩
def Fd.INS_I_LATE_DISCARDED (i : Nat) : Fld := ⟨Reg.INS_I_LATE i, 31, 16⟩
def Fd.INS_I_LATE_ISO (i : Nat) : Fld := ⟨Reg.INS_I_LATE i, 15, 0⟩
def Fd.EVQ_STATUS_QUARANTINED : Fld := ⟨Reg.EVQ_STATUS, 26, 16⟩
def Fd.EVQ_GROUP_MASK_LO_MASK : Fld := ⟨Reg.EVQ_GROUP_MASK_LO, 31, 0⟩
def Fd.EVQ_GROUP_MASK_HI_MASK : Fld := ⟨Reg.EVQ_GROUP_MASK_HI, 31, 0⟩
def Fd.EVQ_GROUP_PEND_LO_PEND : Fld := ⟨Reg.EVQ_GROUP_PEND_LO, 31, 0⟩
def Fd.EVQ_GROUP_PEND_HI_PEND : Fld := ⟨Reg.EVQ_GROUP_PEND_HI, 31, 0⟩
def Fd.EVQ_WAKE_CFG_MODE : Fld := ⟨Reg.EVQ_WAKE_CFG, 7, 0⟩
def Fd.EVQ_WAKE_LATCH_LATCHED : Fld := ⟨Reg.EVQ_WAKE_LATCH, 3, 0⟩
def Fd.EVQ_WAKE_STAMP_RTC (n : Nat) : Fld := ⟨Reg.EVQ_WAKE_STAMP n, 31, 0⟩
def Fd.EVQ_CP_STATUS_FAULTS : Fld := ⟨Reg.EVQ_CP_STATUS, 31, 24⟩
def Fd.EVQ_CP_STATUS_DEPTH : Fld := ⟨Reg.EVQ_CP_STATUS, 11, 8⟩
def Fd.EVQ_CP_STATUS_TOP : Fld := ⟨Reg.EVQ_CP_STATUS, 2, 0⟩
def Fd.EVQ_Q_BASE_LO_BASE_LO (q : Nat) : Fld := ⟨Reg.EVQ_Q_BASE_LO q, 31, 6⟩
def Fd.EVQ_Q_BASE_HI_BASE_HI (q : Nat) : Fld := ⟨Reg.EVQ_Q_BASE_HI q, 31, 0⟩
def Fd.EVQ_Q_CFG_EN (q : Nat) : Fld := ⟨Reg.EVQ_Q_CFG q, 31, 31⟩
def Fd.EVQ_Q_CFG_LOG2 (q : Nat) : Fld := ⟨Reg.EVQ_Q_CFG q, 15, 12⟩
def Fd.EVQ_Q_PASID_PASID_EN (q : Nat) : Fld := ⟨Reg.EVQ_Q_PASID q, 31, 31⟩
def Fd.EVQ_Q_PASID_PASID (q : Nat) : Fld := ⟨Reg.EVQ_Q_PASID q, 19, 0⟩
def Fd.EVQ_Q_PROD_PROD (q : Nat) : Fld := ⟨Reg.EVQ_Q_PROD q, 15, 0⟩
def Fd.EVQ_Q_CONS_CONS (q : Nat) : Fld := ⟨Reg.EVQ_Q_CONS q, 15, 0⟩
def Fd.EVQ_Q_CLAIM_CLAIM (q : Nat) : Fld := ⟨Reg.EVQ_Q_CLAIM q, 31, 0⟩
def Fd.EVQ_Q_COMPLETE_SOURCE (q : Nat) : Fld := ⟨Reg.EVQ_Q_COMPLETE q, 9, 0⟩
def Fd.EVQ_Q_STATUS_ARMED (q : Nat) : Fld := ⟨Reg.EVQ_Q_STATUS q, 31, 31⟩
def Fd.EVQ_Q_STATUS_FULL (q : Nat) : Fld := ⟨Reg.EVQ_Q_STATUS q, 15, 8⟩
def Fd.EVQ_Q_STATUS_ERRORS (q : Nat) : Fld := ⟨Reg.EVQ_Q_STATUS q, 7, 0⟩
def Fd.PPW_STATUS_DBEN : Fld := ⟨Reg.PPW_STATUS, 25, 25⟩
def Fd.PPW_STATUS_DB : Fld := ⟨Reg.PPW_STATUS, 24, 24⟩
def Fd.PPW_STATUS_SINKING : Fld := ⟨Reg.PPW_STATUS, 23, 16⟩
def Fd.PPW_STATUS_SOURCING : Fld := ⟨Reg.PPW_STATUS, 7, 0⟩
def Fd.PPW_EVENT_PORT : Fld := ⟨Reg.PPW_EVENT, 7, 0⟩
def Fd.PPW_P_CFG_EN (p : Nat) : Fld := ⟨Reg.PPW_P_CFG p, 31, 31⟩
def Fd.PPW_P_CFG_SRC_COUNT (p : Nat) : Fld := ⟨Reg.PPW_P_CFG p, 10, 8⟩
def Fd.PPW_P_CFG_ACCEPT_SWAP (p : Nat) : Fld := ⟨Reg.PPW_P_CFG p, 4, 4⟩
def Fd.PPW_P_CFG_FRS_ON_PFI (p : Nat) : Fld := ⟨Reg.PPW_P_CFG p, 3, 3⟩
def Fd.PPW_P_CFG_FRS_OFFER (p : Nat) : Fld := ⟨Reg.PPW_P_CFG p, 2, 2⟩
def Fd.PPW_P_CFG_ROLE_CAP (p : Nat) : Fld := ⟨Reg.PPW_P_CFG p, 1, 0⟩
def Fd.PPW_P_STATUS_CONTRACT (p : Nat) : Fld := ⟨Reg.PPW_P_STATUS p, 25, 16⟩
def Fd.PPW_P_STATUS_SNS (p : Nat) : Fld := ⟨Reg.PPW_P_STATUS p, 11, 10⟩
def Fd.PPW_P_STATUS_VOLT (p : Nat) : Fld := ⟨Reg.PPW_P_STATUS p, 9, 8⟩
def Fd.PPW_P_STATUS_FRS_RELY (p : Nat) : Fld := ⟨Reg.PPW_P_STATUS p, 7, 7⟩
def Fd.PPW_P_STATUS_FRS_ARMED (p : Nat) : Fld := ⟨Reg.PPW_P_STATUS p, 6, 6⟩
def Fd.PPW_P_STATUS_DB (p : Nat) : Fld := ⟨Reg.PPW_P_STATUS p, 5, 5⟩
def Fd.PPW_P_STATUS_PROLE (p : Nat) : Fld := ⟨Reg.PPW_P_STATUS p, 4, 4⟩
def Fd.PPW_P_STATUS_STATE (p : Nat) : Fld := ⟨Reg.PPW_P_STATUS p, 3, 0⟩
def Fd.PPW_P_VOLT_VS (p : Nat) : Fld := ⟨Reg.PPW_P_VOLT p, 31, 16⟩
def Fd.PPW_P_VOLT_VP (p : Nat) : Fld := ⟨Reg.PPW_P_VOLT p, 15, 0⟩
def Fd.PPW_P_CURR_PEAK (p : Nat) : Fld := ⟨Reg.PPW_P_CURR p, 31, 16⟩
def Fd.PPW_P_CURR_I (p : Nat) : Fld := ⟨Reg.PPW_P_CURR p, 15, 0⟩
def Fd.PPW_P_LIMITS_FAULT_RETRIES (p : Nat) : Fld := ⟨Reg.PPW_P_LIMITS p, 31, 29⟩
def Fd.PPW_P_LIMITS_RETRY_DELAY (p : Nat) : Fld := ⟨Reg.PPW_P_LIMITS p, 28, 22⟩
def Fd.PPW_P_LIMITS_RC_MA (p : Nat) : Fld := ⟨Reg.PPW_P_LIMITS p, 21, 14⟩
def Fd.PPW_P_LIMITS_OC_BLANK (p : Nat) : Fld := ⟨Reg.PPW_P_LIMITS p, 13, 7⟩
def Fd.PPW_P_LIMITS_OC_PCT_ADD (p : Nat) : Fld := ⟨Reg.PPW_P_LIMITS p, 6, 0⟩
def Fd.PPW_P_SENSE_SENSE (p : Nat) : Fld := ⟨Reg.PPW_P_SENSE p, 9, 0⟩
def Fd.PPW_P_FAULT_CAUSE (p : Nat) : Fld := ⟨Reg.PPW_P_FAULT p, 3, 0⟩
def Fd.PPW_P_FAULT_FRAME_FRAME (p : Nat) : Fld := ⟨Reg.PPW_P_FAULT_FRAME p, 31, 0⟩
def Fd.PPW_P_COUNT_FAULTS (p : Nat) : Fld := ⟨Reg.PPW_P_COUNT p, 31, 24⟩
def Fd.PPW_P_COUNT_HARD_RESETS (p : Nat) : Fld := ⟨Reg.PPW_P_COUNT p, 23, 16⟩
def Fd.PPW_P_COUNT_SWAPS (p : Nat) : Fld := ⟨Reg.PPW_P_COUNT p, 15, 8⟩
def Fd.PPW_P_COUNT_MSG_FAIL (p : Nat) : Fld := ⟨Reg.PPW_P_COUNT p, 7, 0⟩
def Fd.PPW_P_EVENT_ALERT_RX (p : Nat) : Fld := ⟨Reg.PPW_P_EVENT p, 8, 8⟩
def Fd.PPW_P_EVENT_LATCHED (p : Nat) : Fld := ⟨Reg.PPW_P_EVENT p, 7, 7⟩
def Fd.PPW_P_EVENT_FAULT (p : Nat) : Fld := ⟨Reg.PPW_P_EVENT p, 6, 6⟩
def Fd.PPW_P_EVENT_HARD_RESET (p : Nat) : Fld := ⟨Reg.PPW_P_EVENT p, 5, 5⟩
def Fd.PPW_P_EVENT_FAST_SWAP (p : Nat) : Fld := ⟨Reg.PPW_P_EVENT p, 4, 4⟩
def Fd.PPW_P_EVENT_ROLE_SWAP (p : Nat) : Fld := ⟨Reg.PPW_P_EVENT p, 3, 3⟩
def Fd.PPW_P_EVENT_CONTRACT (p : Nat) : Fld := ⟨Reg.PPW_P_EVENT p, 2, 2⟩
def Fd.PPW_P_EVENT_DETACH (p : Nat) : Fld := ⟨Reg.PPW_P_EVENT p, 1, 1⟩
def Fd.PPW_P_EVENT_ATTACH (p : Nat) : Fld := ⟨Reg.PPW_P_EVENT p, 0, 0⟩
def Fd.PPW_P_EVENT_EN_ALERT_RX (p : Nat) : Fld := ⟨Reg.PPW_P_EVENT_EN p, 8, 8⟩
def Fd.PPW_P_EVENT_EN_LATCHED (p : Nat) : Fld := ⟨Reg.PPW_P_EVENT_EN p, 7, 7⟩
def Fd.PPW_P_EVENT_EN_FAULT (p : Nat) : Fld := ⟨Reg.PPW_P_EVENT_EN p, 6, 6⟩
def Fd.PPW_P_EVENT_EN_HARD_RESET (p : Nat) : Fld := ⟨Reg.PPW_P_EVENT_EN p, 5, 5⟩
def Fd.PPW_P_EVENT_EN_FAST_SWAP (p : Nat) : Fld := ⟨Reg.PPW_P_EVENT_EN p, 4, 4⟩
def Fd.PPW_P_EVENT_EN_ROLE_SWAP (p : Nat) : Fld := ⟨Reg.PPW_P_EVENT_EN p, 3, 3⟩
def Fd.PPW_P_EVENT_EN_CONTRACT (p : Nat) : Fld := ⟨Reg.PPW_P_EVENT_EN p, 2, 2⟩
def Fd.PPW_P_EVENT_EN_DETACH (p : Nat) : Fld := ⟨Reg.PPW_P_EVENT_EN p, 1, 1⟩
def Fd.PPW_P_EVENT_EN_ATTACH (p : Nat) : Fld := ⟨Reg.PPW_P_EVENT_EN p, 0, 0⟩
def Fd.MNS_CTRL_EN : Fld := ⟨Reg.MNS_CTRL, 7, 4⟩
def Fd.MNS_CTRL_REF_CH : Fld := ⟨Reg.MNS_CTRL, 3, 2⟩
def Fd.MNS_CTRL_F_NOM : Fld := ⟨Reg.MNS_CTRL, 1, 1⟩
def Fd.MNS_STATUS_WIRING : Fld := ⟨Reg.MNS_STATUS, 15, 14⟩
def Fd.MNS_STATUS_CAL : Fld := ⟨Reg.MNS_STATUS, 13, 13⟩
def Fd.MNS_STATUS_FREQ_LOCK : Fld := ⟨Reg.MNS_STATUS, 12, 12⟩
def Fd.MNS_STATUS_STATE : Fld := ⟨Reg.MNS_STATUS, 11, 0⟩
def Fd.MNS_EVENT_LATE_WORD : Fld := ⟨Reg.MNS_EVENT, 8, 8⟩
def Fd.MNS_EVENT_OVER_RANGE : Fld := ⟨Reg.MNS_EVENT, 7, 7⟩
def Fd.MNS_EVENT_FREQ_EXC : Fld := ⟨Reg.MNS_EVENT, 6, 6⟩
def Fd.MNS_EVENT_INT_END : Fld := ⟨Reg.MNS_EVENT, 5, 5⟩
def Fd.MNS_EVENT_INT_START : Fld := ⟨Reg.MNS_EVENT, 4, 4⟩
def Fd.MNS_EVENT_SWELL_END : Fld := ⟨Reg.MNS_EVENT, 3, 3⟩
def Fd.MNS_EVENT_SWELL_START : Fld := ⟨Reg.MNS_EVENT, 2, 2⟩
def Fd.MNS_EVENT_DIP_END : Fld := ⟨Reg.MNS_EVENT, 1, 1⟩
def Fd.MNS_EVENT_DIP_START : Fld := ⟨Reg.MNS_EVENT, 0, 0⟩
def Fd.MNS_EVENT_EN_LATE_WORD : Fld := ⟨Reg.MNS_EVENT_EN, 8, 8⟩
def Fd.MNS_EVENT_EN_OVER_RANGE : Fld := ⟨Reg.MNS_EVENT_EN, 7, 7⟩
def Fd.MNS_EVENT_EN_FREQ_EXC : Fld := ⟨Reg.MNS_EVENT_EN, 6, 6⟩
def Fd.MNS_EVENT_EN_INT_END : Fld := ⟨Reg.MNS_EVENT_EN, 5, 5⟩
def Fd.MNS_EVENT_EN_INT_START : Fld := ⟨Reg.MNS_EVENT_EN, 4, 4⟩
def Fd.MNS_EVENT_EN_SWELL_END : Fld := ⟨Reg.MNS_EVENT_EN, 3, 3⟩
def Fd.MNS_EVENT_EN_SWELL_START : Fld := ⟨Reg.MNS_EVENT_EN, 2, 2⟩
def Fd.MNS_EVENT_EN_DIP_END : Fld := ⟨Reg.MNS_EVENT_EN, 1, 1⟩
def Fd.MNS_EVENT_EN_DIP_START : Fld := ⟨Reg.MNS_EVENT_EN, 0, 0⟩
def Fd.MNS_EVT_INFO_KIND : Fld := ⟨Reg.MNS_EVT_INFO, 31, 28⟩
def Fd.MNS_EVT_INFO_CAUSE : Fld := ⟨Reg.MNS_EVT_INFO, 27, 26⟩
def Fd.MNS_EVT_INFO_CHANNELS : Fld := ⟨Reg.MNS_EVT_INFO, 23, 20⟩
def Fd.MNS_EVT_INFO_EXTREME : Fld := ⟨Reg.MNS_EVT_INFO, 19, 0⟩
def Fd.MNS_EVT_SEC_SEC : Fld := ⟨Reg.MNS_EVT_SEC, 31, 0⟩
def Fd.MNS_EVT_NS_NS : Fld := ⟨Reg.MNS_EVT_NS, 29, 0⟩
def Fd.MNS_EVT_DUR_DUR : Fld := ⟨Reg.MNS_EVT_DUR, 31, 0⟩
def Fd.MNS_COUNT_DIPS : Fld := ⟨Reg.MNS_COUNT, 31, 24⟩
def Fd.MNS_COUNT_SWELLS : Fld := ⟨Reg.MNS_COUNT, 23, 16⟩
def Fd.MNS_COUNT_INTS : Fld := ⟨Reg.MNS_COUNT, 15, 8⟩
def Fd.MNS_COUNT_EXCURSIONS : Fld := ⟨Reg.MNS_COUNT, 7, 0⟩
def Fd.MNS_LATE_COUNT : Fld := ⟨Reg.MNS_LATE, 15, 0⟩
def Fd.MNS_WORD_ELEMENT (e : Nat) : Fld := ⟨Reg.MNS_WORD e, 23, 0⟩
def Fd.PAR_CTRL_MODE : Fld := ⟨Reg.PAR_CTRL, 31, 30⟩
def Fd.PAR_CTRL_NUMBER : Fld := ⟨Reg.PAR_CTRL, 29, 24⟩
def Fd.PAR_CTRL_COUNT : Fld := ⟨Reg.PAR_CTRL, 23, 17⟩
def Fd.PAR_CTRL_AUTO_TAKEOVER : Fld := ⟨Reg.PAR_CTRL, 16, 16⟩
def Fd.PAR_CTRL_JOIN : Fld := ⟨Reg.PAR_CTRL, 15, 15⟩
def Fd.PAR_CTRL_TIME_SRC0 : Fld := ⟨Reg.PAR_CTRL, 13, 8⟩
def Fd.PAR_CTRL_TIME_SRC1 : Fld := ⟨Reg.PAR_CTRL, 5, 0⟩
def Fd.PAR_STATUS_PARTNER : Fld := ⟨Reg.PAR_STATUS, 31, 29⟩
def Fd.PAR_STATUS_SOURCE : Fld := ⟨Reg.PAR_STATUS, 28, 28⟩
def Fd.PAR_STATUS_ACTIVE_SRC : Fld := ⟨Reg.PAR_STATUS, 27, 22⟩
def Fd.PAR_STATUS_JOINED : Fld := ⟨Reg.PAR_STATUS, 21, 21⟩
def Fd.PAR_STATUS_JOIN_READY : Fld := ⟨Reg.PAR_STATUS, 20, 20⟩
def Fd.PAR_STATUS_RING_CLOSED : Fld := ⟨Reg.PAR_STATUS, 19, 19⟩
def Fd.PAR_STATUS_ALLOC_PARTNER : Fld := ⟨Reg.PAR_STATUS, 18, 18⟩
def Fd.PAR_LINK0_STATE : Fld := ⟨Reg.PAR_LINK0, 31, 28⟩
def Fd.PAR_LINK0_NEIGHBOUR : Fld := ⟨Reg.PAR_LINK0, 27, 22⟩
def Fd.PAR_LINK0_DELAY : Fld := ⟨Reg.PAR_LINK0, 15, 0⟩
def Fd.PAR_LINK1_STATE : Fld := ⟨Reg.PAR_LINK1, 31, 28⟩
def Fd.PAR_LINK1_NEIGHBOUR : Fld := ⟨Reg.PAR_LINK1, 27, 22⟩
def Fd.PAR_LINK1_DELAY : Fld := ⟨Reg.PAR_LINK1, 15, 0⟩
def Fd.PAR_PARTNER_FRAME_FRAME : Fld := ⟨Reg.PAR_PARTNER_FRAME, 31, 0⟩
def Fd.PAR_PARTNER_D_D : Fld := ⟨Reg.PAR_PARTNER_D, 31, 0⟩
def Fd.PAR_DEVICES_COVERED : Fld := ⟨Reg.PAR_DEVICES, 29, 16⟩
def Fd.PAR_DEVICES_UNCOVERED : Fld := ⟨Reg.PAR_DEVICES, 13, 0⟩
def Fd.PAR_CATCHUP_RECOVERED : Fld := ⟨Reg.PAR_CATCHUP, 31, 16⟩
def Fd.PAR_CATCHUP_LOST : Fld := ⟨Reg.PAR_CATCHUP, 15, 0⟩
def Fd.PAR_COUNT_TAKEOVERS : Fld := ⟨Reg.PAR_COUNT, 31, 24⟩
def Fd.PAR_COUNT_RELEASES : Fld := ⟨Reg.PAR_COUNT, 23, 16⟩
def Fd.PAR_COUNT_HB_MISSED : Fld := ⟨Reg.PAR_COUNT, 15, 8⟩
def Fd.PAR_COUNT_LINK_DOWNS : Fld := ⟨Reg.PAR_COUNT, 7, 0⟩
def Fd.PAR_TIME_SOURCE : Fld := ⟨Reg.PAR_TIME, 31, 26⟩
def Fd.PAR_TIME_HOPS : Fld := ⟨Reg.PAR_TIME, 25, 20⟩
def Fd.PAR_TIME_ERR : Fld := ⟨Reg.PAR_TIME, 19, 0⟩
def Fd.PAR_EVENT_NUMBER_ERR : Fld := ⟨Reg.PAR_EVENT, 8, 8⟩
def Fd.PAR_EVENT_JOIN_FAIL : Fld := ⟨Reg.PAR_EVENT, 7, 7⟩
def Fd.PAR_EVENT_CATCHUP_LOST : Fld := ⟨Reg.PAR_EVENT, 6, 6⟩
def Fd.PAR_EVENT_SRC_CHANGE : Fld := ⟨Reg.PAR_EVENT, 5, 5⟩
def Fd.PAR_EVENT_LINK_CHANGE : Fld := ⟨Reg.PAR_EVENT, 4, 4⟩
def Fd.PAR_EVENT_RELEASE_DONE : Fld := ⟨Reg.PAR_EVENT, 3, 3⟩
def Fd.PAR_EVENT_TAKEOVER_DONE : Fld := ⟨Reg.PAR_EVENT, 2, 2⟩
def Fd.PAR_EVENT_PARTNER_UP : Fld := ⟨Reg.PAR_EVENT, 1, 1⟩
def Fd.PAR_EVENT_PARTNER_DOWN : Fld := ⟨Reg.PAR_EVENT, 0, 0⟩
def Fd.PAR_EVENT_EN_NUMBER_ERR : Fld := ⟨Reg.PAR_EVENT_EN, 8, 8⟩
def Fd.PAR_EVENT_EN_JOIN_FAIL : Fld := ⟨Reg.PAR_EVENT_EN, 7, 7⟩
def Fd.PAR_EVENT_EN_CATCHUP_LOST : Fld := ⟨Reg.PAR_EVENT_EN, 6, 6⟩
def Fd.PAR_EVENT_EN_SRC_CHANGE : Fld := ⟨Reg.PAR_EVENT_EN, 5, 5⟩
def Fd.PAR_EVENT_EN_LINK_CHANGE : Fld := ⟨Reg.PAR_EVENT_EN, 4, 4⟩
def Fd.PAR_EVENT_EN_RELEASE_DONE : Fld := ⟨Reg.PAR_EVENT_EN, 3, 3⟩
def Fd.PAR_EVENT_EN_TAKEOVER_DONE : Fld := ⟨Reg.PAR_EVENT_EN, 2, 2⟩
def Fd.PAR_EVENT_EN_PARTNER_UP : Fld := ⟨Reg.PAR_EVENT_EN, 1, 1⟩
def Fd.PAR_EVENT_EN_PARTNER_DOWN : Fld := ⟨Reg.PAR_EVENT_EN, 0, 0⟩
def Fd.PDM_STATE_DEVICE : Fld := ⟨Reg.PDM_STATE, 31, 30⟩
def Fd.PDM_STATE_CLU : Fld := ⟨Reg.PDM_STATE, 13, 12⟩
def Fd.PDM_STATE_PAIRB : Fld := ⟨Reg.PDM_STATE, 11, 10⟩
def Fd.PDM_STATE_PAIRA : Fld := ⟨Reg.PDM_STATE, 9, 8⟩
def Fd.PDM_STATE_TPHY : Fld := ⟨Reg.PDM_STATE, 7, 6⟩
def Fd.PDM_DVFS_PG : Fld := ⟨Reg.PDM_DVFS, 7, 7⟩
def Fd.PDM_DVFS_PENDING : Fld := ⟨Reg.PDM_DVFS, 6, 6⟩
def Fd.PDM_DVFS_TARGET : Fld := ⟨Reg.PDM_DVFS, 3, 2⟩
def Fd.PDM_DVFS_POINT : Fld := ⟨Reg.PDM_DVFS, 1, 0⟩
def Fd.PDM_WAKE_CFG_ORDER : Fld := ⟨Reg.PDM_WAKE_CFG, 9, 9⟩
def Fd.PDM_WAKE_CFG_EN : Fld := ⟨Reg.PDM_WAKE_CFG, 8, 0⟩
def Fd.PDM_RTC_ALARM_ALARM_S : Fld := ⟨Reg.PDM_RTC_ALARM, 31, 0⟩
def Fd.PDM_WAKE_CAUSE_FROM : Fld := ⟨Reg.PDM_WAKE_CAUSE, 31, 30⟩
def Fd.PDM_WAKE_CAUSE_DOORBELL : Fld := ⟨Reg.PDM_WAKE_CAUSE, 9, 9⟩
def Fd.PDM_WAKE_CAUSE_SOURCES : Fld := ⟨Reg.PDM_WAKE_CAUSE, 8, 0⟩
def Fd.PDM_WAKE_TIME_TIME : Fld := ⟨Reg.PDM_WAKE_TIME, 15, 0⟩
def Fd.PDM_FAIL_STAGE : Fld := ⟨Reg.PDM_FAIL, 31, 28⟩
def Fd.PDM_FAIL_RAIL : Fld := ⟨Reg.PDM_FAIL, 27, 24⟩
def Fd.PDM_FAIL_COUNT : Fld := ⟨Reg.PDM_FAIL, 15, 8⟩
def Fd.PDM_EVENT_DOMAIN : Fld := ⟨Reg.PDM_EVENT, 4, 4⟩
def Fd.PDM_EVENT_DVFS_FAIL : Fld := ⟨Reg.PDM_EVENT, 3, 3⟩
def Fd.PDM_EVENT_DVFS_DONE : Fld := ⟨Reg.PDM_EVENT, 2, 2⟩
def Fd.PDM_EVENT_WAKE_FAIL : Fld := ⟨Reg.PDM_EVENT, 1, 1⟩
def Fd.PDM_EVENT_WAKE : Fld := ⟨Reg.PDM_EVENT, 0, 0⟩
def Fd.PDM_EVENT_EN_DOMAIN : Fld := ⟨Reg.PDM_EVENT_EN, 4, 4⟩
def Fd.PDM_EVENT_EN_DVFS_FAIL : Fld := ⟨Reg.PDM_EVENT_EN, 3, 3⟩
def Fd.PDM_EVENT_EN_DVFS_DONE : Fld := ⟨Reg.PDM_EVENT_EN, 2, 2⟩
def Fd.PDM_EVENT_EN_WAKE_FAIL : Fld := ⟨Reg.PDM_EVENT_EN, 1, 1⟩
def Fd.PDM_EVENT_EN_WAKE : Fld := ⟨Reg.PDM_EVENT_EN, 0, 0⟩
def Fd.CRN_STATUS_MEDIA_FAULT : Fld := ⟨Reg.CRN_STATUS, 31, 31⟩
def Fd.CRN_STATUS_FROZEN : Fld := ⟨Reg.CRN_STATUS, 30, 30⟩
def Fd.CRN_STATUS_CLEARING : Fld := ⟨Reg.CRN_STATUS, 29, 29⟩
def Fd.CRN_STATUS_WRAPPED : Fld := ⟨Reg.CRN_STATUS, 28, 28⟩
def Fd.CRN_STATUS_NEXT : Fld := ⟨Reg.CRN_STATUS, 12, 0⟩
def Fd.CRN_LAST_SEQ_SEQ : Fld := ⟨Reg.CRN_LAST_SEQ, 31, 0⟩
def Fd.CRN_POWER_CYCLES_COUNT : Fld := ⟨Reg.CRN_POWER_CYCLES, 31, 0⟩
def Fd.CRN_OP_SEC_SEC : Fld := ⟨Reg.CRN_OP_SEC, 31, 0⟩
def Fd.CRN_HOLD_OVERFLOW : Fld := ⟨Reg.CRN_HOLD, 31, 16⟩
def Fd.CRN_HOLD_DEPTH : Fld := ⟨Reg.CRN_HOLD, 5, 0⟩
def Fd.CRN_LOST_COUNT : Fld := ⟨Reg.CRN_LOST, 15, 0⟩
def Fd.CRN_MEDIA_WHERE : Fld := ⟨Reg.CRN_MEDIA, 31, 28⟩
def Fd.CRN_MEDIA_FAILURES : Fld := ⟨Reg.CRN_MEDIA, 27, 20⟩
def Fd.CRN_MEDIA_SLOT : Fld := ⟨Reg.CRN_MEDIA, 12, 0⟩
def Fd.CRN_EVENT_CLEARED : Fld := ⟨Reg.CRN_EVENT, 4, 4⟩
def Fd.CRN_EVENT_FREEZE_EXPIRED : Fld := ⟨Reg.CRN_EVENT, 3, 3⟩
def Fd.CRN_EVENT_LOST : Fld := ⟨Reg.CRN_EVENT, 2, 2⟩
def Fd.CRN_EVENT_HOLD_OVERFLOW : Fld := ⟨Reg.CRN_EVENT, 1, 1⟩
def Fd.CRN_EVENT_MEDIA_FAULT : Fld := ⟨Reg.CRN_EVENT, 0, 0⟩
def Fd.CRN_EVENT_EN_CLEARED : Fld := ⟨Reg.CRN_EVENT_EN, 4, 4⟩
def Fd.CRN_EVENT_EN_FREEZE_EXPIRED : Fld := ⟨Reg.CRN_EVENT_EN, 3, 3⟩
def Fd.CRN_EVENT_EN_LOST : Fld := ⟨Reg.CRN_EVENT_EN, 2, 2⟩
def Fd.CRN_EVENT_EN_HOLD_OVERFLOW : Fld := ⟨Reg.CRN_EVENT_EN, 1, 1⟩
def Fd.CRN_EVENT_EN_MEDIA_FAULT : Fld := ⟨Reg.CRN_EVENT_EN, 0, 0⟩
def Fd.SCR_STATUS_UNLOCKED : Fld := ⟨Reg.SCR_STATUS, 31, 31⟩
def Fd.SCR_STATUS_BIST_BUSY : Fld := ⟨Reg.SCR_STATUS, 30, 30⟩
def Fd.SCR_STATUS_SCOPE : Fld := ⟨Reg.SCR_STATUS, 9, 1⟩
def Fd.SCR_EXPIRY_FRAME : Fld := ⟨Reg.SCR_EXPIRY, 31, 0⟩
def Fd.SCR_ACTIVE_ACTIVE : Fld := ⟨Reg.SCR_ACTIVE, 9, 1⟩
def Fd.SCR_COUNT_UNLOCKS : Fld := ⟨Reg.SCR_COUNT, 31, 16⟩
def Fd.SCR_COUNT_INJECTIONS : Fld := ⟨Reg.SCR_COUNT, 15, 0⟩
def Fd.SCR_BIST_FAILED : Fld := ⟨Reg.SCR_BIST, 21, 16⟩
def Fd.SCR_BIST_RUN : Fld := ⟨Reg.SCR_BIST, 5, 0⟩
def Fd.SCR_EVENT_BIST_DONE : Fld := ⟨Reg.SCR_EVENT, 3, 3⟩
def Fd.SCR_EVENT_INJECT_END : Fld := ⟨Reg.SCR_EVENT, 2, 2⟩
def Fd.SCR_EVENT_LOCKED : Fld := ⟨Reg.SCR_EVENT, 1, 1⟩
def Fd.SCR_EVENT_UNLOCKED : Fld := ⟨Reg.SCR_EVENT, 0, 0⟩
def Fd.SCR_EVENT_EN_BIST_DONE : Fld := ⟨Reg.SCR_EVENT_EN, 3, 3⟩
def Fd.SCR_EVENT_EN_INJECT_END : Fld := ⟨Reg.SCR_EVENT_EN, 2, 2⟩
def Fd.SCR_EVENT_EN_LOCKED : Fld := ⟨Reg.SCR_EVENT_EN, 1, 1⟩
def Fd.SCR_EVENT_EN_UNLOCKED : Fld := ⟨Reg.SCR_EVENT_EN, 0, 0⟩
def Fd.EVQ_SRC_SEL_SOURCE (i : Nat) : Fld := ⟨Reg.EVQ_SRC_SEL i, 9, 0⟩
def Fd.EVQ_FALLBACK_QUEUE (i : Nat) : Fld := ⟨Reg.EVQ_FALLBACK i, 3, 0⟩

/-! Access codes, reset values and reserved encodings: (first address, stride, count, description). -/

def regTable0 : List (Nat × Nat × Nat × RegDesc) := [
  (0x0, 4, 1, ⟨0x0, 0x0, 0x0, 0x0, 0x0, 0x1F6B2400, []⟩),
  (0x4, 4, 1, ⟨0x0, 0x0, 0x0, 0x0, 0x0, 0x10101, []⟩),
  (0x8, 4, 1, ⟨0x0, 0x0, 0x0, 0x0, 0x0, 0x0, []⟩),
  (0xC, 4, 1, ⟨0x0, 0x0, 0x0, 0x0, 0x0, 0x0, []⟩),
  (0x10, 4, 1, ⟨0x0, 0x0, 0x0, 0x0, 0x0, 0xFFFF, []⟩),
  (0x14, 4, 1, ⟨0x0, 0x0, 0x0, 0x0, 0x0, 0x80, []⟩),
  (0x20, 4, 1, ⟨0x0, 0x0, 0x0, 0x0, 0xFFFF0001, 0x0, []⟩),
  (0x30, 4, 1, ⟨0x0, 0x0, 0xFFFF, 0x0, 0x0, 0x0, []⟩),
  (0x34, 4, 1, ⟨0x0, 0x0, 0xFFFF, 0x0, 0x0, 0x0, []⟩),
  (0x38, 4, 1, ⟨0x0, 0x0, 0x0, 0x0, 0x0, 0x0, []⟩),
  (0x10800, 4, 1, ⟨0x0, 0x0, 0x0, 0x0, 0xFF, 0x0, []⟩),
  (0x110800, 0x10000, 63, ⟨0x0, 0x0, 0x0, 0x0, 0xFF, 0x0, []⟩),
  (0x10804, 4, 1, ⟨0x0, 0x0, 0x0, 0x0, 0x0, 0x0, []⟩),
  (0x110804, 0x10000, 63, ⟨0x0, 0x0, 0x0, 0x0, 0x0, 0x0, []⟩),
  (0x10808, 4, 1, ⟨0x0, 0xFF, 0x0, 0x0, 0x0, 0x0, []⟩),
  (0x110808, 0x10000, 63, ⟨0x0, 0xFF, 0x0, 0x0, 0x0, 0x0, []⟩),
  (0x1080C, 4, 1, ⟨0x1, 0x0, 0x0, 0x0, 0x0, 0x1, []⟩),
  (0x11080C, 0x10000, 63, ⟨0x1, 0x0, 0x0, 0x0, 0x0, 0x1, []⟩),
  (0x10810, 4, 1, ⟨0x0, 0x0, 0xFFFF, 0x0, 0x0, 0x0, []⟩),
  (0x110810, 0x10000, 63, ⟨0x0, 0x0, 0xFFFF, 0x0, 0x0, 0x0, []⟩),
  (0x10820, 4, 1, ⟨0x0, 0x0, 0x0, 0x0, 0x0, 0x0, []⟩),
  (0x10824, 4, 1, ⟨0x0, 0x0, 0x0, 0x0, 0x0, 0x0, []⟩),
  (0x10828, 4, 1, ⟨0x0, 0x0, 0x0, 0x0, 0x0, 0x0, []⟩),
  (0x20000, 4, 1, ⟨0xFFF0C, 0x0, 0x0, 0x0, 0x0, 0x32019001, [(19, 8, 0, 0)]⟩),
  (0x20004, 4, 1, ⟨0x0, 0xC0, 0x0, 0x0, 0x0, 0x0, []⟩),
  (0x20010, 4, 1, ⟨0x0, 0x0, 0x0, 0x0, 0x0, 0x0, []⟩),
  (0x20014, 4, 1, ⟨0x0, 0x0, 0x0, 0x0, 0x0, 0x0, []⟩),
  (0x20018, 4, 1, ⟨0x0, 0x0, 0x0, 0x0, 0x0, 0x0, []⟩),
  (0x20020, 4, 1, ⟨0x0, 0x0, 0x0, 0x0, 0x0, 0x0, []⟩),
  (0x20038, 4, 1, ⟨0x0, 0x0, 0x0, 0x0, 0x0, 0x0, []⟩)]

def regTable1 : List (Nat × Nat × Nat × RegDesc) := [
  (0x20040, 4, 1, ⟨0x0, 0x0, 0x0, 0x0, 0x0, 0xFFFFFFFF, []⟩),
  (0x20044, 4, 1, ⟨0x0, 0x0, 0x0, 0x0, 0x0, 0x77359400, []⟩),
  (0x20030, 4, 1, ⟨0x0, 0x0, 0x0, 0x0, 0x0, 0x0, []⟩),
  (0x20034, 4, 1, ⟨0x0, 0x0, 0x0, 0x0, 0x0, 0x3E8, []⟩),
  (0x2003C, 4, 1, ⟨0x0, 0x0, 0xFFFFFFFF, 0x0, 0x0, 0x0, []⟩),
  (0x20050, 4, 1, ⟨0x0, 0x0, 0xFFFFFFFF, 0x0, 0x0, 0x0, []⟩),
  (0x30000, 0x1000, 8, ⟨0xFFF10B, 0x0, 0x0, 0x0, 0x4, 0x44F108, [(23, 20, 9, 14), (19, 16, 9, 14), (15, 12, 8, 14)]⟩),
  (0x30004, 0x1000, 8, ⟨0x0, 0x0, 0x0, 0x0, 0x0, 0x0, []⟩),
  (0x30010, 0x1000, 8, ⟨0x0, 0x0, 0x0, 0x0, 0x0, 0x0, []⟩),
  (0x30014, 0x1000, 8, ⟨0x0, 0x0, 0xFF0000, 0x0, 0x0, 0x0, []⟩),
  (0x30020, 0x1000, 8, ⟨0x0, 0x0, 0xFFFFFFFF, 0x0, 0x0, 0x0, []⟩),
  (0x30024, 0x1000, 8, ⟨0x0, 0x0, 0xFFFFFFFF, 0x0, 0x0, 0x0, []⟩),
  (0x30030, 0x1000, 8, ⟨0x0, 0x0, 0xFFFF0000, 0x0, 0x0, 0x0, []⟩),
  (0x30034, 0x1000, 8, ⟨0x0, 0x0, 0x0, 0x0, 0x0, 0x0, []⟩),
  (0x30040, 0x1000, 8, ⟨0x0, 0x3F, 0x0, 0x0, 0x0, 0x0, []⟩),
  (0x30044, 0x1000, 8, ⟨0x3F, 0x0, 0x0, 0x0, 0x0, 0x3F, []⟩),
  (0x40000, 4, 1, ⟨0x3, 0x0, 0x0, 0x0, 0x0, 0x3, []⟩),
  (0x40004, 4, 1, ⟨0x0, 0x0, 0x0, 0x0, 0x0, 0x0, []⟩),
  (0x40010, 4, 1, ⟨0x0, 0x1FF, 0x0, 0x0, 0x0, 0x0, []⟩),
  (0x40014, 4, 1, ⟨0x1FF, 0x0, 0x0, 0x0, 0x0, 0x1FF, []⟩),
  (0x40020, 0x4, 8, ⟨0x0, 0x0, 0x0, 0x0, 0x0, 0x0, []⟩),
  (0x40040, 4, 1, ⟨0x0, 0x0, 0x0, 0x0, 0x0, 0x0, []⟩),
  (0x40044, 4, 1, ⟨0x0, 0x0, 0xFFFF, 0x0, 0x0, 0x0, []⟩),
  (0x41000, 4, 1, ⟨0x2, 0x0, 0x0, 0x0, 0x4, 0x0, []⟩),
  (0x41004, 4, 1, ⟨0x0, 0x0, 0x0, 0x0, 0x0, 0x0, []⟩),
  (0x41008, 4, 1, ⟨0x0, 0x0, 0x0, 0x0, 0x0, 0x0, []⟩),
  (0x4100C, 4, 1, ⟨0x0, 0x0, 0x0, 0x0, 0x0, 0x0, []⟩),
  (0x41100, 0x8, 16, ⟨0xF3FFFFF8, 0x0, 0x0, 0x0, 0x0, 0x0, [(29, 28, 3, 3), (7, 4, 13, 15)]⟩),
  (0x41104, 0x8, 16, ⟨0x200033FF, 0x0, 0x0, 0x0, 0x80000000, 0x0, [(13, 12, 3, 3)]⟩),
  (0x101000, 0x10000, 64, ⟨0x0, 0x0, 0x0, 0x0, 0xFFFFFFFF, 0x0, []⟩)]

def regTable2 : List (Nat × Nat × Nat × RegDesc) := [
  (0x101004, 0x10000, 64, ⟨0x0, 0x0, 0xFF, 0x0, 0x0, 0x0, []⟩),
  (0x101008, 0x10000, 64, ⟨0x0, 0x0, 0x0, 0x0, 0x0, 0x0, []⟩),
  (0x50000, 4, 1, ⟨0x3, 0x0, 0x0, 0x0, 0x0, 0x3, []⟩),
  (0x50004, 4, 1, ⟨0x0, 0x0, 0xFF, 0x0, 0x0, 0x0, []⟩),
  (0x50010, 4, 1, ⟨0xFFFFC000, 0x0, 0x0, 0x0, 0x0, 0x0, []⟩),
  (0x50014, 4, 1, ⟨0xFFFFFFFF, 0x0, 0x0, 0x0, 0x0, 0x0, []⟩),
  (0x50018, 4, 1, ⟨0x800FFFFF, 0x0, 0x0, 0x0, 0x0, 0x0, []⟩),
  (0x50020, 4, 1, ⟨0x1FFF1FFF, 0x0, 0x0, 0x0, 0x0, 0x1FFF0001, []⟩),
  (0x50030, 4, 1, ⟨0xFFFFFF, 0x0, 0x0, 0x0, 0x0, 0x0, []⟩),
  (0x50034, 4, 1, ⟨0x8F0F03FF, 0x0, 0x0, 0x0, 0x0, 0x0, []⟩),
  (0x50038, 4, 1, ⟨0xFFFFFFFF, 0x0, 0x0, 0x0, 0x0, 0x0, []⟩),
  (0x5003C, 4, 1, ⟨0x0, 0x0, 0x0, 0x0, 0x7, 0x0, []⟩),
  (0x50040, 4, 1, ⟨0x0, 0x40000000, 0x0, 0x0, 0x0, 0x0, []⟩),
  (0x50044, 4, 1, ⟨0x0, 0x0, 0x0, 0x0, 0x0, 0x0, []⟩),
  (0x50048, 4, 1, ⟨0x0, 0x0, 0x0, 0x0, 0x0, 0x0, []⟩),
  (0x5004C, 4, 1, ⟨0x0, 0x0, 0x0, 0x0, 0x0, 0x0, []⟩),
  (0x50060, 4, 1, ⟨0x0, 0x0, 0x0, 0x0, 0x0, 0xA0A00440, []⟩),
  (0x50064, 4, 1, ⟨0x0, 0x0, 0x0, 0x0, 0x0, 0x60003000, []⟩),
  (0x50070, 4, 1, ⟨0x0, 0x0, 0x0, 0x0, 0x0, 0x0, []⟩),
  (0x50074, 4, 1, ⟨0x0, 0x0, 0xFFFFFFFF, 0x0, 0x0, 0x0, []⟩),
  (0x50078, 4, 1, ⟨0x0, 0x0, 0xFFFFFFFF, 0x0, 0x0, 0x0, []⟩),
  (0x50080, 4, 1, ⟨0x0, 0x1F, 0x0, 0x0, 0x0, 0x0, []⟩),
  (0x50084, 4, 1, ⟨0x1F, 0x0, 0x0, 0x0, 0x0, 0x1D, []⟩),
  (0x60000, 4, 1, ⟨0xF07, 0x0, 0x0, 0x0, 0x0, 0x403, [(11, 8, 0, 0)]⟩),
  (0x60004, 4, 1, ⟨0x0, 0x0, 0x0, 0x0, 0x0, 0x0, []⟩),
  (0x60010, 4, 1, ⟨0x0, 0x0, 0xFFFFFFFF, 0x0, 0x0, 0x0, []⟩),
  (0x60014, 4, 1, ⟨0x0, 0x0, 0xFFFF, 0x0, 0x0, 0x0, []⟩),
  (0x60018, 4, 1, ⟨0x0, 0x0, 0xFFFF, 0x0, 0x0, 0x0, []⟩),
  (0x6001C, 4, 1, ⟨0x0, 0x0, 0xFFFFFFFF, 0x0, 0x0, 0x0, []⟩),
  (0x60020, 4, 1, ⟨0x0, 0x0, 0xFFFFFFFF, 0x0, 0x0, 0x0, []⟩)]

def regTable3 : List (Nat × Nat × Nat × RegDesc) := [
  (0x60024, 4, 1, ⟨0x0, 0x0, 0xFFFF0000, 0x0, 0x0, 0x0, []⟩),
  (0x60030, 4, 1, ⟨0x0, 0xF, 0x0, 0x0, 0x0, 0x0, []⟩),
  (0x60034, 4, 1, ⟨0xF, 0x0, 0x0, 0x0, 0x0, 0x7, []⟩),
  (0x70000, 4, 1, ⟨0x1, 0x0, 0x0, 0x0, 0x0, 0x1, []⟩),
  (0x70004, 4, 1, ⟨0x0, 0x0, 0x0, 0x0, 0x0, 0x0, []⟩),
  (0x70008, 4, 1, ⟨0x0, 0x0, 0x0, 0x0, 0x0, 0x0, []⟩),
  (0x70010, 4, 1, ⟨0x0, 0x0, 0xFFFF, 0x0, 0x0, 0x0, []⟩),
  (0x71000, 0x40, 32, ⟨0xFFFFFFC0, 0x0, 0x0, 0x0, 0x0, 0x0, []⟩),
  (0x71004, 0x40, 32, ⟨0xFFFFFFFF, 0x0, 0x0, 0x0, 0x0, 0x0, []⟩),
  (0x71008, 0x40, 32, ⟨0xFFFFFFC0, 0x0, 0x0, 0x0, 0x0, 0x0, []⟩),
  (0x7100C, 0x40, 32, ⟨0xFFFFFFFF, 0x0, 0x0, 0x0, 0x0, 0x0, []⟩),
  (0x71010, 0x40, 32, ⟨0xFF00, 0x0, 0x0, 0x0, 0x0, 0x4400, [(15, 12, 0, 3), (11, 8, 0, 3)]⟩),
  (0x71014, 0x40, 32, ⟨0x800FFFFF, 0x0, 0x0, 0x0, 0x0, 0x0, []⟩),
  (0x71018, 0x40, 32, ⟨0x0, 0x0, 0x0, 0x0, 0xFFFF, 0x0, []⟩),
  (0x7101C, 0x40, 32, ⟨0x0, 0x0, 0x0, 0x0, 0xFFFF, 0x0, []⟩),
  (0x71020, 0x40, 32, ⟨0x0, 0x0, 0x0, 0x0, 0x0, 0x0, []⟩),
  (0x71024, 0x40, 32, ⟨0x1, 0x0, 0x0, 0x0, 0x0, 0x0, []⟩),
  (0x80000, 4, 1, ⟨0xFFFF0001, 0x0, 0x0, 0x0, 0x0, 0xFFFF0001, []⟩),
  (0x80004, 4, 1, ⟨0x0, 0x0, 0x0, 0x0, 0x0, 0x0, []⟩),
  (0x80008, 4, 1, ⟨0xFFFFFF, 0x0, 0x0, 0x0, 0x0, 0x200080, []⟩),
  (0x80010, 4, 1, ⟨0x0, 0x0, 0x0, 0x0, 0x0, 0x0, []⟩),
  (0x80014, 4, 1, ⟨0x0, 0x0, 0xFFFFFFFF, 0x0, 0x0, 0x0, []⟩),
  (0x80018, 4, 1, ⟨0x0, 0x0, 0xFFFFFFFF, 0x0, 0x0, 0x0, []⟩),
  (0x8001C, 4, 1, ⟨0x0, 0x0, 0xFFFFFFFF, 0x0, 0x0, 0x0, []⟩),
  (0x80020, 4, 1, ⟨0x0, 0x0, 0xFF, 0x0, 0x0, 0x0, []⟩),
  (0x80024, 4, 1, ⟨0x0, 0x0, 0xFFFFFFFF, 0x0, 0x0, 0x0, []⟩),
  (0x80028, 4, 1, ⟨0x0, 0x0, 0xFFFF0000, 0x0, 0x0, 0x0, []⟩),
  (0x80030, 4, 1, ⟨0x0, 0xFF, 0x0, 0x0, 0x0, 0x0, []⟩),
  (0x80034, 4, 1, ⟨0xFF, 0x0, 0x0, 0x0, 0x0, 0xFE, []⟩),
  (0x80038, 4, 1, ⟨0x0, 0x0, 0xFF, 0x0, 0x0, 0x0, []⟩)]

def regTable4 : List (Nat × Nat × Nat × RegDesc) := [
  (0x80100, 0x20, 16, ⟨0x0, 0x0, 0xFFFFFFFF, 0x0, 0x0, 0x0, []⟩),
  (0x80104, 0x20, 16, ⟨0x0, 0x0, 0xFFFFFFFF, 0x0, 0x0, 0x0, []⟩),
  (0x80108, 0x20, 16, ⟨0x0, 0x0, 0xFFFFFFFF, 0x0, 0x0, 0x0, []⟩),
  (0x8010C, 0x20, 16, ⟨0x0, 0x0, 0xFFFF, 0x0, 0x0, 0x0, []⟩),
  (0x80110, 0x20, 16, ⟨0x0, 0x0, 0xFFF0000, 0x0, 0x0, 0x0, []⟩),
  (0x10100C, 0x10000, 64, ⟨0x0, 0x0, 0x0, 0x0, 0x0, 0x0, []⟩),
  (0x101010, 0x10000, 64, ⟨0x0, 0x0, 0xFFFFFFFF, 0x0, 0x0, 0x0, []⟩),
  (0x101014, 0x10000, 64, ⟨0x0, 0x0, 0x0, 0x0, 0x0, 0x0, []⟩),
  (0x101018, 0x10000, 64, ⟨0x0, 0x0, 0x0, 0x0, 0x0, 0x0, []⟩),
  (0x90000, 4, 1, ⟨0x0, 0x0, 0x0, 0x0, 0x0, 0x1, []⟩),
  (0x90004, 4, 1, ⟨0x0, 0x0, 0x0, 0x0, 0x0, 0x0, []⟩),
  (0x90008, 4, 1, ⟨0x0, 0x0, 0x0, 0x0, 0x0, 0x0, []⟩),
  (0x9000C, 4, 1, ⟨0x0, 0x0, 0x0, 0x0, 0x0, 0x0, []⟩),
  (0x90010, 4, 1, ⟨0x0, 0x0, 0x0, 0x0, 0x0, 0x0, []⟩),
  (0x90014, 4, 1, ⟨0x0, 0x0, 0x0, 0x0, 0x0, 0x0, []⟩),
  (0x90018, 4, 1, ⟨0x0, 0x0, 0x0, 0x0, 0x0, 0x0, []⟩),
  (0x90020, 4, 1, ⟨0x0, 0xF, 0x0, 0x0, 0x0, 0x0, []⟩),
  (0x90024, 4, 1, ⟨0xF, 0x0, 0x0, 0x0, 0x0, 0xD, []⟩),
  (0x90100, 0x10, 1, ⟨0x0, 0x0, 0x0, 0x0, 0x0, 0x80000000, []⟩),
  (0x90110, 0x10, 63, ⟨0x0, 0x0, 0x0, 0x0, 0x0, 0x0, []⟩),
  (0x90104, 0x10, 64, ⟨0x0, 0x0, 0x0, 0x0, 0x0, 0x0, []⟩),
  (0x90108, 0x10, 64, ⟨0x0, 0x0, 0x0, 0x0, 0x0, 0x0, []⟩),
  (0x9010C, 0x10, 64, ⟨0x0, 0x0, 0xFFFFFFFF, 0x0, 0x0, 0x0, []⟩),
  (0xA0000, 4, 1, ⟨0x0, 0x0, 0x0, 0x0, 0x0, 0x0, []⟩),
  (0xA0008, 4, 1, ⟨0xFFFFFFFF, 0x0, 0x0, 0x0, 0x0, 0x0, []⟩),
  (0xA000C, 4, 1, ⟨0xFFFFFFFF, 0x0, 0x0, 0x0, 0x0, 0x0, []⟩),
  (0xA0010, 4, 1, ⟨0x0, 0x0, 0x0, 0x0, 0x0, 0x0, []⟩),
  (0xA0014, 4, 1, ⟨0x0, 0x0, 0x0, 0x0, 0x0, 0x0, []⟩),
  (0xA0020, 4, 1, ⟨0xFF, 0x0, 0x0, 0xFF, 0x0, 0x0, []⟩),
  (0xA0024, 4, 1, ⟨0x0, 0xF, 0x0, 0x0, 0x0, 0x0, []⟩),
  (0xA0030, 0x4, 4, ⟨0x0, 0x0, 0x0, 0x0, 0x0, 0x0, []⟩)]

def regTable5 : List (Nat × Nat × Nat × RegDesc) := [
  (0xA0040, 4, 1, ⟨0x0, 0x0, 0xFF000000, 0x0, 0x0, 0x0, []⟩),
  (0xA8000, 0x40, 256, ⟨0xFFFFFFC0, 0x0, 0x0, 0x0, 0x0, 0x0, []⟩),
  (0xA8004, 0x40, 256, ⟨0xFFFFFFFF, 0x0, 0x0, 0x0, 0x0, 0x0, []⟩),
  (0xA8008, 0x40, 256, ⟨0x8000F000, 0x0, 0x0, 0x0, 0x0, 0x6000, [(15, 12, 0, 5)]⟩),
  (0xA800C, 0x40, 256, ⟨0x800FFFFF, 0x0, 0x0, 0x0, 0x0, 0x0, []⟩),
  (0xA8010, 0x40, 256, ⟨0x0, 0x0, 0x0, 0x0, 0x0, 0x0, []⟩),
  (0xA8014, 0x40, 256, ⟨0x0, 0x0, 0x0, 0x0, 0xFFFF, 0x0, []⟩),
  (0xA8018, 0x40, 256, ⟨0x0, 0x0, 0x0, 0x0, 0x0, 0x3FF, []⟩),
  (0xA801C, 0x40, 256, ⟨0x0, 0x0, 0x0, 0x0, 0x3FF, 0x0, []⟩),
  (0xA8020, 0x40, 256, ⟨0x0, 0x0, 0xFFFF, 0x0, 0x0, 0x80000000, []⟩),
  (0xB0000, 4, 1, ⟨0x0, 0x0, 0x0, 0x0, 0x0, 0x0, []⟩),
  (0xB0004, 4, 1, ⟨0x0, 0x0, 0x0, 0x0, 0x0, 0x0, []⟩),
  (0xB1000, 0x100, 8, ⟨0x0, 0x0, 0x0, 0x0, 0x0, 0x100, []⟩),
  (0xB1004, 0x100, 8, ⟨0x0, 0x0, 0x0, 0x0, 0x0, 0x0, []⟩),
  (0xB1008, 0x100, 8, ⟨0x0, 0x0, 0x0, 0x0, 0x0, 0x0, []⟩),
  (0xB100C, 0x100, 8, ⟨0x0, 0x0, 0xFFFF0000, 0x0, 0x0, 0x0, []⟩),
  (0xB1010, 0x100, 8, ⟨0x0, 0x0, 0x0, 0x0, 0x0, 0x628C8A19, []⟩),
  (0xB1014, 0x100, 8, ⟨0x0, 0x0, 0x0, 0x0, 0x0, 0x1F4, []⟩),
  (0xB1018, 0x100, 8, ⟨0x0, 0x0, 0x0, 0x0, 0x0, 0x0, []⟩),
  (0xB101C, 0x100, 8, ⟨0x0, 0x0, 0x0, 0x0, 0x0, 0x0, []⟩),
  (0xB1020, 0x100, 8, ⟨0x0, 0x0, 0xFFFFFFFF, 0x0, 0x0, 0x0, []⟩),
  (0xB1024, 0x100, 8, ⟨0x0, 0x1FF, 0x0, 0x0, 0x0, 0x0, []⟩),
  (0xB1028, 0x100, 8, ⟨0x1FF, 0x0, 0x0, 0x0, 0x0, 0x1FF, []⟩),
  (0xC0000, 4, 1, ⟨0x0, 0x0, 0x0, 0x0, 0x0, 0x0, []⟩),
  (0xC0004, 4, 1, ⟨0x0, 0x0, 0x0, 0x0, 0x0, 0x0, []⟩),
  (0xC0010, 4, 1, ⟨0x0, 0x1FF, 0x0, 0x0, 0x0, 0x0, []⟩),
  (0xC0014, 4, 1, ⟨0x1FF, 0x0, 0x0, 0x0, 0x0, 0x1FF, []⟩),
  (0xC0020, 4, 1, ⟨0x0, 0x0, 0x0, 0x0, 0x0, 0x0, []⟩),
  (0xC0024, 4, 1, ⟨0x0, 0x0, 0x0, 0x0, 0x0, 0x0, []⟩),
  (0xC0028, 4, 1, ⟨0x0, 0x0, 0x0, 0x0, 0x0, 0x0, []⟩)]

def regTable6 : List (Nat × Nat × Nat × RegDesc) := [
  (0xC002C, 4, 1, ⟨0x0, 0x0, 0x0, 0x0, 0x0, 0x0, []⟩),
  (0xC0030, 4, 1, ⟨0x0, 0x0, 0xFFFFFFFF, 0x0, 0x0, 0x0, []⟩),
  (0xC0034, 4, 1, ⟨0x0, 0x0, 0xFFFF, 0x0, 0x0, 0x0, []⟩),
  (0xC0100, 0x4, 16, ⟨0x0, 0x0, 0x0, 0x0, 0x0, 0x0, []⟩),
  (0xD0000, 4, 1, ⟨0x0, 0x0, 0x0, 0x0, 0x0, 0x30000, []⟩),
  (0xD0004, 4, 1, ⟨0x0, 0x0, 0x0, 0x0, 0x0, 0x0, []⟩),
  (0xD0010, 4, 1, ⟨0x0, 0x0, 0x0, 0x0, 0x0, 0x0, []⟩),
  (0xD0014, 4, 1, ⟨0x0, 0x0, 0x0, 0x0, 0x0, 0x0, []⟩),
  (0xD0020, 4, 1, ⟨0x0, 0x0, 0x0, 0x0, 0x0, 0x0, []⟩),
  (0xD0024, 4, 1, ⟨0x0, 0x0, 0x0, 0x0, 0x0, 0x0, []⟩),
  (0xD0030, 4, 1, ⟨0x0, 0x0, 0x0, 0x0, 0x0, 0x0, []⟩),
  (0xD0034, 4, 1, ⟨0x0, 0x0, 0xFFFFFFFF, 0x0, 0x0, 0x0, []⟩),
  (0xD0038, 4, 1, ⟨0x0, 0x0, 0xFFFFFFFF, 0x0, 0x0, 0x0, []⟩),
  (0xD0040, 4, 1, ⟨0x0, 0x0, 0x0, 0x0, 0x0, 0x0, []⟩),
  (0xD0050, 4, 1, ⟨0x0, 0x1FF, 0x0, 0x0, 0x0, 0x0, []⟩),
  (0xD0054, 4, 1, ⟨0x1FF, 0x0, 0x0, 0x0, 0x0, 0x1FF, []⟩),
  (0xE0000, 4, 1, ⟨0x0, 0x0, 0x0, 0x0, 0x0, 0x3F00, []⟩),
  (0xE0004, 4, 1, ⟨0x0, 0x0, 0x0, 0x0, 0x0, 0x0, []⟩),
  (0xE0008, 4, 1, ⟨0x0, 0x0, 0x0, 0x0, 0x0, 0x0, []⟩),
  (0xE000C, 4, 1, ⟨0x0, 0x0, 0x0, 0x0, 0x0, 0x0, []⟩),
  (0xE0010, 4, 1, ⟨0x0, 0x0, 0x0, 0x0, 0x0, 0x0, []⟩),
  (0xE0014, 4, 1, ⟨0x0, 0x0, 0x0, 0x0, 0x0, 0x0, []⟩),
  (0xE0018, 4, 1, ⟨0x0, 0x0, 0xFF00, 0x0, 0x0, 0x0, []⟩),
  (0xE0020, 4, 1, ⟨0x0, 0x1F, 0x0, 0x0, 0x0, 0x0, []⟩),
  (0xE0024, 4, 1, ⟨0x1F, 0x0, 0x0, 0x0, 0x0, 0xB, []⟩),
  (0xF0000, 4, 1, ⟨0x0, 0x0, 0x0, 0x0, 0x0, 0x0, []⟩),
  (0xF0004, 4, 1, ⟨0x0, 0x0, 0x0, 0x0, 0x0, 0x0, []⟩),
  (0xF0008, 4, 1, ⟨0x0, 0x0, 0x0, 0x0, 0x0, 0x0, []⟩),
  (0xF000C, 4, 1, ⟨0x0, 0x0, 0x0, 0x0, 0x0, 0x0, []⟩),
  (0xF0010, 4, 1, ⟨0x0, 0x0, 0xFFFF0000, 0x0, 0x0, 0x0, []⟩)]

def regTable7 : List (Nat × Nat × Nat × RegDesc) := [
  (0xF0014, 4, 1, ⟨0x0, 0x0, 0xFFFF, 0x0, 0x0, 0x0, []⟩),
  (0xF0018, 4, 1, ⟨0x0, 0x0, 0x0, 0x0, 0x0, 0x0, []⟩),
  (0xF0020, 4, 1, ⟨0x0, 0x1F, 0x0, 0x0, 0x0, 0x0, []⟩),
  (0xF0024, 4, 1, ⟨0x1F, 0x0, 0x0, 0x0, 0x0, 0x1F, []⟩),
  (0xF8000, 4, 1, ⟨0x0, 0x0, 0x0, 0x0, 0x0, 0x0, []⟩),
  (0xF8004, 4, 1, ⟨0x0, 0x0, 0x0, 0x0, 0x0, 0x0, []⟩),
  (0xF8008, 4, 1, ⟨0x0, 0x0, 0x0, 0x0, 0x0, 0x0, []⟩),
  (0xF800C, 4, 1, ⟨0x0, 0x0, 0xFFFFFFFF, 0x0, 0x0, 0x0, []⟩),
  (0xF8010, 4, 1, ⟨0x0, 0x0, 0x0, 0x0, 0x0, 0x0, []⟩),
  (0xF8020, 4, 1, ⟨0x0, 0xF, 0x0, 0x0, 0x0, 0x0, []⟩),
  (0xF8024, 4, 1, ⟨0xF, 0x0, 0x0, 0x0, 0x0, 0xF, []⟩),
  (0x103800, 0x10000, 64, ⟨0x3FF, 0x0, 0x0, 0x0, 0x0, 0x3FF, []⟩),
  (0x10380C, 0x10000, 64, ⟨0xF, 0x0, 0x0, 0x0, 0x0, 0x0, []⟩)]

def regTable : List (Nat × Nat × Nat × RegDesc) :=
  regTable0 ++ regTable1 ++ regTable2 ++ regTable3 ++ regTable4 ++ regTable5 ++ regTable6 ++ regTable7

/-- The description of the register at `a`, if a chapter defines one there. -/
def regFind : List (Nat × Nat × Nat × RegDesc) → Nat → Option RegDesc
  | [], _ => none
  | (b, st, n, d) :: t, a => if b ≤ a ∧ (a - b) % st = 0 ∧ (a - b) / st < n then some d else regFind t a

def regDesc (a : Nat) : Option RegDesc := regFind regTable a

/-- The value of a register after cold reset (the Reset columns; 0 where no register is defined, R28). Bit fields of
GLB_ID and GLB_CAP differ between the two parts (00_scope.md, 01_architecture.md). -/
def regReset (p : Part) (a : Nat) : Word :=
  if p = .k4 ∧ a = Reg.GLB_ID then 0x1F6B2401
  else if p = .k4 ∧ a = Reg.GLB_CAP then 0xFF0F
  else match regDesc a with
    | some d => BitVec.ofNat 32 d.reset
    | none => 0

end Sys2Proof.Machine
end

