-- ==== Sys2Proof/Machine/State.lean ====
section
/-! DEFINITION. The machine's state as plain data, its stops, and the state right after a cold reset. The structures of
the blocks stand in the Blocks files; `regs` is the register file of BAR0 and of the BAR2 pages; `staged` holds RW fields
written and not yet in effect (R15). -/

namespace Sys2Proof.Machine

structure State where
  part    : Part
  regs    : SMap Word
  staged  : SMap (Option Word)
  host    : HostSide
  boot    : Boot
  fw      : Firmware
  mbx     : Mailbox
  time    : Time
  evq     : EventCtl
  inst    : Instances
  cairn   : Cairn
  links   : Links
  tree    : Tree
  rings   : Rings
  alloc   : Alloc
  pager   : Pager
  xfer    : Xfer
  dma     : SMap DmaCh
  scree   : Scree
  power   : PortPower
  mains   : Mains
  red     : Red
  pair    : Pair
  pdm     : Pdm
  tarn    : Memory
  flash   : Memory
  journal : List Journal
  pending : List Instr
  deriving DecidableEq, Repr

/-- The faults of the block: none. The spec gives every command an effect in every state (Unsupported Requests, refused commands and
errors are effects on State), so no meaning stops the machine. -/
inductive Fault where
  deriving DecidableEq, Repr

/-- The refusals of the block: no meaning answers with one. -/
inductive Refusal where
  /-- Raised by the dispatch for a command that has no meaning; safe. Every command has one, so nothing raises it. -/
  | notModelled (mnemonic : String)
  deriving DecidableEq, Repr

/-- The machine right after a cold reset (R3): every register at its Reset column, every structure at its own reset,
memories with nothing listed, the queue empty. (DESIGN CHOICE, log entry 2.) -/
def State.reset : State :=
  { part := .k8, regs := [], staged := [], host := HostSide.reset, boot := Boot.reset, fw := Firmware.reset, mbx := Mailbox.reset,
    time := Time.reset, evq := EventCtl.reset, inst := Instances.reset, cairn := Cairn.reset,
    links := Links.reset, tree := Tree.reset, rings := Rings.reset, alloc := Alloc.reset, pager := Pager.reset,
    xfer := Xfer.reset, dma := [], scree := Scree.reset, power := PortPower.reset, mains := Mains.reset, red := Red.reset, pair := Pair.reset, pdm := Pdm.reset, tarn := [], flash := [], journal := [],
    pending := [] }

end Sys2Proof.Machine
end

