-- ==== Sys2Proof/Machine/Ops.lean ====
section
/-! DEFINITION. The named operations over registers, parts, time and host writes that the meanings share. -/

namespace Sys2Proof.Machine

/-- The outcome of a meaning that always goes on. -/
abbrev Out := Host.Outcome State Fault Refusal

/-! ### Registers -/

/-- The stored word of a register. -/
def State.rd (s : State) (a : Nat) : Word := SMap.get (regReset s.part) s.regs a

/-- Store a register word. -/
def State.wr (s : State) (a : Nat) (w : Word) : State := { s with regs := SMap.put (regReset s.part) a w s.regs }

/-- A field's value. -/
def State.get (s : State) (f : Fld) : Nat := f.ex (s.rd f.reg)

/-- Set a field, the register's other bits unchanged. -/
def State.put (s : State) (f : Fld) (v : Nat) : State := s.wr f.reg (f.ins (s.rd f.reg) v)

/-- A one-bit field as a truth value. -/
def State.on (s : State) (f : Fld) : Bool := decide (s.get f ≠ 0)

/-- Add `n` to a counter field that saturates at its largest value. -/
def State.bump (s : State) (f : Fld) (n : Nat := 1) : State := s.put f (min (s.get f + n) f.max)

/-- Take one from a count that is not 0. -/
def State.drop1 (s : State) (f : Fld) : State := s.put f (s.get f - 1)

/-- `n` rounds of `f` over 0, 1, ..., n - 1. -/
def iterate {α : Type} (f : Nat → α → α) : Nat → α → α
  | 0, a => a
  | n + 1, a => f n (iterate f n a)

/-- Fold over a list of numbers. -/
def foldN {α : Type} (f : α → Nat → α) (a : α) (l : List Nat) : α := l.foldl f a

/-! ### Parts -/

/-- Root ports that exist on the part (R1). -/
def State.ports (s : State) : Nat := match s.part with
  | .k8 => 8
  | .k4 => 4

/-- Root port numbers present, ascending. -/
def State.portList (s : State) : List Nat := List.range s.ports

/-- Most devices on the controller (R2 and the ordering table). -/
def State.maxDevices (s : State) : Nat := match s.part with
  | .k8 => 8191
  | .k4 => 4096

/-! ### Time (R65, R72) -/

/-- 2^-32 ns units in one nanosecond. -/
def nsUnit : Nat := 2 ^ 32

/-- SYSTIME wraps with its 32-bit SEC. -/
def sysWrap : Nat := 2 ^ 32 * 1000000000 * 2 ^ 32

/-- TIM_RATE as a signed number of 2^-32 ns units per core cycle (R72). -/
def State.rate (s : State) : Int := toSigned 32 (s.get Fd.TIM_RATE_RATE)

/-- SYSTIME increment of one core cycle: 2.5 ns plus TIM_RATE (R72). -/
def State.sysStep (s : State) : Nat := ((5 * 2 ^ 31 : Int) + s.rate).toNat

/-- Whole nanoseconds of SYSTIME, SEC and NS together. -/
def State.nowNsAll (s : State) : Nat := s.time.sys / nsUnit

/-- NS and SEC of SYSTIME (R72). -/
def State.nowNs (s : State) : Nat := s.nowNsAll % 1000000000
def State.nowSec (s : State) : Nat := s.nowNsAll / 1000000000

/-- What one core cycle of a slew adds to SYSTIME beside its step (R73): up to 5 ns forward, or all of the step back. -/
def State.slewGain (s : State) : Nat := if s.time.slew > 0 then 5 * nsUnit - s.sysStep else s.sysStep

/-- Core cycles until the share in progress is applied. -/
def State.slewCycles (s : State) : Nat := if s.time.slew = 0 then 0 else (s.time.slew.natAbs + s.slewGain - 1) / s.slewGain

/-- What `n` core cycles of a slew apply of the share in progress: SYSTIME runs at 5 ns or 0 ns per core cycle until the share has been
applied, its last cycle taking what is left. -/
def State.slewIn (s : State) (n : Nat) : Int :=
  if s.slewCycles ≤ n then s.time.slew else if s.time.slew > 0 then (n * s.slewGain : Nat) else -((n * s.slewGain : Nat) : Int)

/-- `n` core cycles pass (R72, R73). -/
def State.advance (s : State) (n : Nat) : State :=
  { s with time := { s.time with
      cyc := s.time.cyc + n
      sys := (((s.time.sys + n * s.sysStep : Nat) + s.slewIn n) % (sysWrap : Int)).toNat
      slew := s.time.slew - s.slewIn n } }

/-- Frame period in ns for a period code (R75). -/
def periodNs (code : Nat) : Nat := 125000 * 2 ^ code

/-- Frame length, COL_LEN and steering allowance in word times for a period code (R68). -/
def frameWt (code : Nat) : Nat := 10000 * 2 ^ code
def colLenWt (code : Nat) : Nat := 200 * 2 ^ code
def steerWt (code : Nat) : Nat := match code with
  | 0 => 4
  | 1 => 8
  | 2 => 12
  | _ => 24

/-- Period code in effect. -/
def State.period (s : State) : Nat := s.get Fd.TIM_CTRL_PERIOD

/-- Frames per second. -/
def State.framesPerSec (s : State) : Nat := 8000 / 2 ^ s.period

/-- FRAME_NO of the current frame (R66). -/
def State.frame (s : State) : Nat := s.time.frameNo

/-! ### Host ports (R160, R234, R277, R281, R294, R299) -/

/-- The record of an instance. -/
def State.instOf (s : State) (i : Nat) : Instance := SMap.get Instance.reset s.inst.tab i

def State.putInst (s : State) (i : Nat) (r : Instance) : State :=
  { s with inst := { s.inst with tab := SMap.put Instance.reset i r s.inst.tab } }

/-- Issue one posted write on a port, with an ECRC where the port generates them (R233). -/
def State.issue (s : State) (w : HostWrite) : State :=
  { s with host := { s.host with writes := s.host.writes ++ [{ w with ecrc := s.host.ecrcGen.contains w.port }] } }

/-- A message goes out, with an ECRC where the port generates them (R233). -/
def State.emitMsix (s : State) (port : Side) (vec : Nat) : State :=
  { s with host := { s.host with
      msix := s.host.msix ++ [(port, vec)], msixEcrc := s.host.msixEcrc ++ [s.host.ecrcGen.contains port] } }

/-- Send the message of a vector, or hold it in the Pending Bit while the vector is masked (R294). -/
def State.sendMsix (s : State) (port : Side) (vec : Nat) : State :=
  if s.host.msixMask.contains (port, vec) then
    (if s.host.msixPend.contains (port, vec) then s
     else { s with host := { s.host with msixPend := s.host.msixPend ++ [(port, vec)] } })
  else s.emitMsix port vec

/-- Report an Unsupported Request on a port (R10, R28, R29). -/
def State.reportUR (s : State) (port : Side) : State := { s with host := { s.host with ur := s.host.ur ++ [port] } }

/-- The value a host read returns. -/
def State.answer (s : State) (v : Nat) : State := { s with host := { s.host with readData := v } }

/-- A read's completion on a port carries an ECRC where the port generates them (R233). -/
def State.replyOn (s : State) (port : Side) : State :=
  { s with host := { s.host with readEcrc := s.host.ecrcGen.contains port } }

end Sys2Proof.Machine
end

