-- ==== Sys2Proof/Machine/Flags.lean ====
section
/-! DEFINITION. The event flags: levels of the event registers, the state of the sources, their records and messages (11, R289 to
R299). Every EVENT register bit is set through `setEvent` here. -/

namespace Sys2Proof.Machine

/-! ### Event sources (R290 to R296) -/

/-- ARG of a level source: its block's event register AND its enable (R289). -/
def State.levelArg (s : State) (src : Nat) : Nat :=
  let both (a b : Nat) : Nat := (s.rd a &&& s.rd b).toNat
  if 8 ≤ src ∧ src ≤ 15 then both (Reg.LNK_EVENT (src - 8)) (Reg.LNK_EVENT_EN (src - 8))
  else match src with
    | 16 => both Reg.TRE_EVENT Reg.TRE_EVENT_EN
    | 17 => both Reg.SCH_EVENT Reg.SCH_EVENT_EN
    | 18 => both Reg.XFR_EVENT Reg.XFR_EVENT_EN
    | 19 => both Reg.RED_EVENT Reg.RED_EVENT_EN
    | 20 => both Reg.INS_EVENT Reg.INS_EVENT_EN
    | 21 => (List.range 8).foldl (fun v p =>
        v + 2 ^ p * b2n (decide (both (Reg.PPW_P_EVENT p) (Reg.PPW_P_EVENT_EN p) ≠ 0))) 0
    | 22 => both Reg.MNS_EVENT Reg.MNS_EVENT_EN
    | 23 => both Reg.PAR_EVENT Reg.PAR_EVENT_EN
    | 24 => both Reg.PDM_EVENT Reg.PDM_EVENT_EN
    | 25 => both Reg.CRN_EVENT Reg.CRN_EVENT_EN
    | 26 => both Reg.SCR_EVENT Reg.SCR_EVENT_EN
    | _ => 0

def State.src (s : State) (n : Nat) : Source := SMap.get Source.reset s.evq.srcs n

def State.putSrc (s : State) (n : Nat) (x : Source) : State :=
  { s with evq := { s.evq with srcs := SMap.put Source.reset n x s.evq.srcs } }

/-- Masked by its MASK, its group or quarantine (R294). -/
def State.srcMasked (s : State) (n : Nat) : Bool :=
  let g := n / 16
  let grp := if g < 32 then bitAt (s.rd Reg.EVQ_GROUP_MASK_LO).toNat g
             else bitAt (s.rd Reg.EVQ_GROUP_MASK_HI).toNat (g - 32)
  (s.src n).mask || (s.src n).quar || grp

/-- A PENDING source that is masked will commit with HELD = 1 (R294). -/
def State.markHeld (s : State) (n : Nat) : State :=
  let x := s.src n
  if x.st = .pending ∧ s.srcMasked n ∧ ¬ x.held then s.putSrc n { x with held := true } else s

def State.markHeldAll (s : State) : State := foldN State.markHeld s (SMap.keys s.evq.srcs)

/-- A source that can take occurrences: assigned by R289, and its instance exists. -/
def State.srcLive (s : State) (n : Nat) : Bool := srcExists n && (n < 512 || (s.instOf (srcOwner0 n)).exist)

/-- One occurrence of source `n` with an argument, stamped `frame`, `ns` (R290 to R292). -/
def State.occurAt (s : State) (n arg frame ns : Nat) (sw : Bool) : State :=
  if s.srcLive n then
    let x := s.src n
    let x1 := { x with
      occ := min (x.occ + 1) 255
      arg := if srcLevel n then x.arg else if srcOr n then x.arg ||| arg else arg
      sw := x.sw || sw
      first := match x.first with
        | none => some (frame, ns)
        | some f => some f
      st := if x.st = .inactive then .pending else x.st }
    (s.putSrc n x1).markHeld n
  else s

/-- One occurrence now. -/
def State.occur (s : State) (n arg : Nat) : State := s.occurAt n arg s.frame s.nowNs false

/-- Set a bit of a block's event register; a rise of the level source `n` is one occurrence (R290). -/
def State.setEvent (s : State) (n : Nat) (f : Fld) : State :=
  let s1 := s.put f 1
  if s.levelArg n = 0 ∧ s1.levelArg n ≠ 0 then s1.occur n 0 else s1

/-- A write that may raise the level of source `n`: the occurrence of the rise, if there is one. -/
def State.levelRise (s0 : State) (s : State) (n : Nat) : State :=
  if s0.levelArg n = 0 ∧ s.levelArg n ≠ 0 then s.occur n 0 else s

/-- Physical queue of local queue `q` of an instance (R308). -/
def State.localQueue (s : State) (i q : Nat) : Option Nat := (s.instOf i).queues[q]?

def State.qEn (s : State) (q : Nat) : Bool := s.on (Fd.EVQ_Q_CFG_EN q)
def State.qSize (s : State) (q : Nat) : Nat := 2 ^ s.get (Fd.EVQ_Q_CFG_LOG2 q)
def State.qProd (s : State) (q : Nat) : Nat := s.get (Fd.EVQ_Q_PROD_PROD q)
def State.qCons (s : State) (q : Nat) : Nat := s.get (Fd.EVQ_Q_CONS_CONS q)

/-- Records held: PROD - CONS modulo 65,536; the ring is full at its size (R297). -/
def State.qUsed (s : State) (q : Nat) : Nat := (s.qProd q + 65536 - s.qCons q) % 65536
def State.qRoom (s : State) (q : Nat) : Bool := s.qUsed q != s.qSize q

/-- Enabled queues that TARGETS names (R295). -/
def State.targetQueues (s : State) (n : Nat) : List Nat :=
  let x := s.src n
  (List.range 16).filterMap fun q =>
    if bitAt x.targets q then
      match s.localQueue x.owner q with
      | some Q => if s.qEn Q then some Q else none
      | none => none
    else none

/-- The owner's fallback queue, if enabled (R295). -/
def State.fallbackQueue (s : State) (i : Nat) : List Nat :=
  match s.localQueue i (s.get (Fd.EVQ_FALLBACK_QUEUE i)) with
  | some Q => if s.qEn Q then [Q] else []
  | none => []

/-- Delivery set, and whether it is the fallback (R295). -/
def State.deliverySet (s : State) (n : Nat) : List Nat × Bool :=
  match s.targetQueues n with
  | [] => (s.fallbackQueue (s.src n).owner, true)
  | l => (l, false)

/-- The hold-off of R293 still runs. -/
def State.heldOff (s : State) (n : Nat) : Bool :=
  let x := s.src n
  match x.commitAt with
  | none => false
  | some f => x.holdoff != 0 && decide (since32 s.frame f < 2 ^ (x.holdoff - 1))

/-- Deliverable (R296). -/
def State.deliverable (s : State) (n : Nat) : Bool :=
  (s.src n).st = .pending && !s.srcMasked n && !s.heldOff n && (s.deliverySet n).1.any s.qRoom

/-- The better of two candidates by PRIO, highest first, then number, lowest first (R296, R300). -/
def betterSrc (s : State) (a : Option Nat) (b : Nat) : Option Nat :=
  match a with
  | none => some b
  | some x => if (s.src b).prio > (s.src x).prio then some b else some x

/-- The source that commits next, of those listed in ascending order. -/
def State.nextSource (s : State) : Option Nat :=
  (SMap.keys s.evq.srcs).foldl (fun a n => if s.deliverable n then betterSrc s a n else a) none

/-- A source needs a claim: every level source, and an edge source with CLAIM (R291). -/
def State.needsClaim (s : State) (n : Nat) : Bool := srcLevel n || (s.src n).claim

/-- Word 0 of the record of source `n` (R298). -/
def State.recWord0 (s : State) (n : Nat) (fallback : Bool) : Nat :=
  let x := s.src n
  n * 2 ^ 22 + x.occ * 2 ^ 14 + b2n (srcLevel n) * 2 ^ 13 +
    b2n (!srcLevel n || decide (s.levelArg n ≠ 0)) * 2 ^ 12 + b2n x.sw * 2 ^ 11 + b2n x.held * 2 ^ 10 +
    b2n fallback * 2 ^ 9 + b2n (s.needsClaim n) * 2 ^ 8 + (s.instOf x.owner).gen

/-- Give one record its producer index in queue `Q`, or count the miss in FULL (R296). -/
def State.enqueueRec (s : State) (n : Nat) (fallback : Bool) (Q : Nat) : State :=
  if s.qRoom Q then
    let x := s.src n
    let idx := s.qProd Q
    let r : EventRec :=
      { queue := Q, index := idx, phase := 1 - (idx / s.qSize Q) % 2, word0 := s.recWord0 n fallback
        arg := if srcLevel n then s.levelArg n else x.arg
        frame := (x.first.getD (Config.noOccurrenceStamp n s.time.cyc)).1
        ns := (x.first.getD (Config.noOccurrenceStamp n s.time.cyc)).2
        inst := x.owner, gen := (s.instOf x.owner).gen, commit := s.evq.commits }
    let s1 := s.put (Fd.EVQ_Q_PROD_PROD Q) (idx + 1)
    { s1 with evq := { s1.evq with records := s1.evq.records ++ [r] } }
  else s.bump (Fd.EVQ_Q_STATUS_FULL Q)

/-- The commit of source `n` (R291, R296): its record into every queue of the delivery set with room, its counters
cleared. -/
def State.commitSource (s : State) (n : Nat) : State :=
  let d := s.deliverySet n
  let got := d.1.filter s.qRoom
  let claim := s.needsClaim n
  let s1 := d.1.foldl (fun t Q => t.enqueueRec n d.2 Q) s
  let x := s.src n
  let out : CommitOut := { id := s.evq.commits, source := n, before := x, left := got.length, landed := 0, lost := [] }
  let s2 := { s1 with evq := { s1.evq with commits := s.evq.commits + 1, outs := s1.evq.outs ++ [out] } }
  s2.putSrc n { x with
    st := if claim then .offered else .inactive
    occ := 0, arg := 0, sw := false, held := false, first := none
    commitAt := some s.frame
    inQueues := if claim then got else [] }

/-- The instance that holds physical queue `Q`. -/
def State.qHolder (s : State) (Q : Nat) : Option Nat :=
  match SMap.get (fun _ => 0) s.evq.qInst Q with
  | 0 => none
  | i + 1 => some i

/-- Send queue `Q`'s message on the port of its instance (R297, R299). -/
def State.queueMessage (s : State) (Q : Nat) : State :=
  match s.qHolder Q with
  | some i => s.sendMsix (s.instOf i).port Q
  | none => s

end Sys2Proof.Machine
end

