-- ==== Sys2Proof/Machine/Operands.lean ====
section
/-! DEFINITION. How a host access reaches the block, writes and discards of an instance, Cairn records, and the operand forms of the mailbox: the slot header (R34), the opcode index with issuer class and request
sizes (R33, R64, R425), the order in which a command is judged (R426), its completion (R35, R38 to R40) and the frame
in which an opcode row acts. -/

namespace Sys2Proof.Machine

/-! ### Which window a host reaches (R27, R29, R30, R48) -/

/-- Whether an access reaches its register: the windows are closed, it is an Unsupported Request, or it arrives. -/
inductive Reach where
  | closed | ur | ok
  deriving DecidableEq, Repr

/-- BAR0 answers on the manager's function, a page on the port its existing instance is bound to. -/
def State.reach (s : State) (port : Side) (via : Via) : Reach :=
  match via with
  | .manager => if port ≠ s.boot.barPort then .ur else if s.boot.barOpen then .ok else .closed
  | .page i =>
    if ¬ s.boot.barOpen then .closed
    else if i < 64 ∧ (s.instOf i).exist ∧ (s.instOf i).port = port then .ok else .ur

/-- A write through a window: discarded while closed, an Unsupported Request where it reaches nothing. -/
def State.hostWriteVia (s : State) (port : Side) (via : Via) (go : State) : State :=
  match s.reach port via with
  | .ok => go
  | .ur => s.reportUR port
  | .closed => s

/-- A read through a window: all ones while closed or where it reaches nothing (R10, R48). -/
def State.hostReadVia (s : State) (port : Side) (via : Via) (go : State) : State :=
  (match s.reach port via with
    | .ok => go
    | .ur => (s.reportUR port).answer 0xFFFFFFFF
    | .closed => s.answer 0xFFFFFFFF).replyOn port

/-! ### Discards, isolation and host writes of an instance (R277, R281) -/

/-- Count one discard of work of an older generation (R281). -/
def State.countDiscard (s : State) (i : Nat) : State :=
  let r := s.instOf i
  let s1 := (s.bump (Fd.INS_PAGE_LATE_DISCARDED i)).bump (Fd.INS_I_LATE_DISCARDED i)
  let s2 := s1.putInst i { r with discards := min (r.discards + 1) (2 ^ 32 - 1), lateSeen := true }
  if r.lateSeen then s2 else s2.setEvent 20 Fd.INS_EVENT_LATE

/-- Count one record lost, or one list that is not written, in the late counters without a reset's event (R424). -/
def State.countLost (s : State) (i : Nat) : State :=
  (s.bump (Fd.INS_PAGE_LATE_DISCARDED i)).bump (Fd.INS_I_LATE_DISCARDED i)

/-- Why an access with this PASID is refused for the instance (R277): KIND of INS_ISO_LAST, 0 if it is not. -/
def State.isoKind (s : State) (i : Nat) (pasid : Option Nat) : Nat :=
  let w := (s.instOf i).window
  let base := w % 2 ^ 20
  let lg := (w / 2 ^ 20) % 32
  match pasid with
  | some v => if base ≤ v ∧ v < base + 2 ^ lg then 0 else 1
  | none => if bitAt w 31 then 2 else 0

/-- Count and record a refused access (R277). -/
def State.countIso (s : State) (i : Nat) (pasid : Option Nat) : State :=
  let k := s.isoKind i pasid
  let s1 := (s.bump (Fd.INS_PAGE_LATE_ISO i)).bump (Fd.INS_I_LATE_ISO i)
  let s2 := (s1.put (Fd.INS_ISO_LAST_KIND i) k).put (Fd.INS_ISO_LAST_PASID i) (pasid.getD 0)
  s2.setEvent 20 Fd.INS_EVENT_ISO

/-- A PASID field of the form [31] PASID_EN, [19:0] PASID. -/
def pasidOf (w : Nat) : Option Nat := if bitAt w 31 then some (w % 2 ^ 20) else none

/-- A posted write made for instance `i` (R160, R277): refused and counted, or issued on the instance's port. -/
def State.instWrite (s : State) (i : Nat) (pasid : Option Nat) (addr : Nat) (data : List Byte) (relaxed poisoned : Bool) :
    State :=
  if s.isoKind i pasid = 0 then
    s.issue { port := (s.instOf i).port, pasid := pasid, addr := addr, data := data, relaxed := relaxed,
              poisoned := poisoned }
  else s.countIso i pasid

/-! ### Cairn (R388 to R394) -/

/-- A record raised now. -/
def State.cairnRec (s : State) (kind code arg : Nat) : CairnRec :=
  { kind := kind, code := code, rpt := 0, arg := arg, frame := s.frame, sec := s.nowSec, us := s.nowNs / 1000
    est := s.on Fd.TIM_STATUS_TIME_ESTIMATED, held := false, power := s.cairn.powerCycles % 2 ^ 24 }

/-- Two records of one cause (R391). -/
def sameCause (a b : CairnRec) : Bool := a.kind = b.kind && a.code = b.code && a.arg = b.arg

/-- Within 4,096 frames of the latest merged occurrence (R391). -/
def mergeNear (now latest : Nat) : Bool := since32 now latest ≤ 4096

/-- Merge a record into the newest of a queue, if R391 lets it; `none` where it does not. -/
def mergeTail (now : Nat) (r : CairnRec) (q : List (CairnRec × Nat)) : Option (List (CairnRec × Nat)) :=
  match q.getLast? with
  | some (l, t) =>
    if sameCause l r ∧ mergeNear now t then
      some (q.dropLast ++ [({ l with rpt := min (l.rpt + 1) 0xFFFF }, now)])
    else none
  | none => none

/-- Put a record into the holding queue (R392). -/
def State.cairnHold (s : State) (r : CairnRec) (now : Nat) : State :=
  match mergeTail now r s.cairn.hold with
  | some q => { s with cairn := { s.cairn with hold := q } }
  | none =>
    if s.cairn.hold.length < 32 then
      { s with cairn := { s.cairn with hold := s.cairn.hold ++ [({ r with held := true }, now)] } }
    else
      let s1 := (s.bump Fd.CRN_HOLD_OVERFLOW).setEvent 25 Fd.CRN_EVENT_HOLD_OVERFLOW
      { s1 with cairn := { s1.cairn with holdLost := s1.cairn.holdLost + 1, holdAll := s1.cairn.holdAll + 1 } }

/-- Merge a record into the newest of the shadow ring, if R391 lets it. -/
def Cairn.shadowMerge (c : Cairn) (r : CairnRec) (now : Nat) : Option (List (Nat × CairnRec)) :=
  match c.shadow.getLast?, c.shadowAt with
  | some (q, l), some t =>
    if sameCause l r ∧ mergeNear now t then some (c.shadow.dropLast ++ [(q, { l with rpt := min (l.rpt + 1 + r.rpt) 0xFFFF })]) else none
  | _, _ => none

/-- Put a record into the shadow ring, which overwrites its oldest of 16 (R391, R394). -/
def State.cairnShadow (s : State) (r : CairnRec) : State :=
  match s.cairn.shadowMerge r s.frame with
  | some l => { s with cairn := { s.cairn with shadow := l, shadowAt := some s.frame } }
  | none =>
    let q := (s.cairn.lastSeq + 1) % 2 ^ 32
    let l := s.cairn.shadow ++ [(q, r)]
    { s with cairn := { s.cairn with shadow := l.drop (l.length - 16), lastSeq := q, shadowAt := some s.frame, undef := false } }

/-- The newest record waiting is one of the holding queue. -/
def Cairn.newestHeld (c : Cairn) : Bool :=
  match c.hold.getLast?, c.queue.getLast? with
  | some h, some q => decide (q.1.ord < h.1.ord)
  | some _, none => true
  | none, _ => false

/-- Put a record into the commit queue, merging or dropping it as R390 and R391 say. POWER_FAIL has its place beside the 16 (R393). -/
def State.cairnQueue (s : State) (r : CairnRec) (now : Nat) : State :=
  let c := s.cairn
  let later := !c.newestHeld
  match (if later then mergeTail now r c.queue else none) with
  | some q => { s with cairn := { c with queue := q } }
  | none =>
    match (if later then none else mergeTail now r c.hold) with
    | some h => { s with cairn := { c with hold := h } }
    | none =>
    match c.queue ++ c.hold, c.last with
    | [], some l =>
      if sameCause l.record r ∧ mergeNear now l.latest then
        { s with cairn := { c with last := some { l with
            record := { l.record with rpt := min (l.record.rpt + 1) 0xFFFF }, latest := now, dirty := true } } }
      else { s with cairn := { c with queue := [(r, now)] } }
    | _, _ =>
      if c.queue.length < 16 ∨ (r.kind = 0 ∧ r.code = 5) then { s with cairn := { c with queue := c.queue ++ [(r, now)] } }
      else
        let s1 := (s.bump Fd.CRN_LOST_COUNT).setEvent 25 Fd.CRN_EVENT_LOST
        { s1 with cairn := { s1.cairn with lostRun := s1.cairn.lostRun + 1, lostAll := s1.cairn.lostAll + 1 } }

/-- A record takes its place in the order of the raises, and the core cycle of the raise is noted (R390, R392). -/
def State.cairnOrder (s : State) (r : CairnRec) : State × CairnRec :=
  let n := s.cairn.raised + 1
  let first := if s.cairn.cycle.1 = s.time.cyc then s.cairn.cycle.2 else n
  ({ s with cairn := { s.cairn with raised := n, cycle := (s.time.cyc, first) } }, { r with ord := n })

/-- Where a raised record goes (R390, R392, R394, R396). -/
def State.cairnPut (s0 : State) (r0 : CairnRec) : State :=
  let (s, r) := s0.cairnOrder r0
  if s.cairn.frozenAt.isSome ∨ s.cairn.clearing.isSome then s.cairnHold r s.frame
  else if s.cairn.media then s.cairnShadow r
  else s.cairnQueue r s.frame

/-- OP_SEC counts whole seconds of the core clock while the logic die runs (R387). -/
def State.opSecTick (s : State) : State :=
  let n := s.cairn.opCyc + (s.time.cyc - s.cairn.opFrom)
  { s with cairn := { s.cairn with opSec := (s.cairn.opSec + n / 400000000) % 2 ^ 32, opCyc := n % 400000000, opFrom := s.time.cyc } }

/-- A block raises a Cairn record (R389). -/
def State.raiseCairn (s : State) (kind code arg : Nat) : State := s.cairnPut (s.cairnRec kind code arg)

/-! ### Status codes (R42) -/

def ST.ok : Nat := 0
def ST.pending : Nat := 1
def ST.invalid : Nat := 2
def ST.noResource : Nat := 3
def ST.denied : Nat := 4
def ST.stale : Nat := 5
def ST.timeout : Nat := 6
def ST.unsupported : Nat := 7
def ST.fault : Nat := 8

/-! ### Slots -/

/-- First byte of slot `sl` of mailbox `m` in the mailbox memory (R32). -/
def slotAddr (m sl : Nat) : Nat := m * 0x800 + sl * 0x100

def State.slotBytes (s : State) (m sl off n : Nat) : List Byte :=
  Memory.read zeroByte s.mbx.slots (slotAddr m sl + off) n

def State.slotNum (s : State) (m sl off n : Nat) : Nat := leNat (s.slotBytes m sl off n)

def State.slotStore (s : State) (m sl off : Nat) (bs : List Byte) : State :=
  { s with mbx := { s.mbx with slots := Memory.write zeroByte s.mbx.slots (slotAddr m sl + off) bs } }

/-- Set or clear one bit of a register. -/
def State.putBit (s : State) (reg bit : Nat) (v : Bool) : State :=
  s.wr reg (setBits (s.rd reg) bit bit (b2n v))

def State.bitOf (s : State) (reg bit : Nat) : Bool := bitAt (s.rd reg).toNat bit

/-! ### The opcode index (R64) -/

/-- Opcode, issuer class M, least and largest request size (R33, R64, R425). -/
def opTable0 : List (Nat × Bool × Nat × Nat) := [
  (0x0000, false, 0, 240), (0x0001, false, 0, 0), (0x0002, true, 0, 0), (0x0003, false, 2, 2), (0x0004, true, 1, 1),
  (0x0005, true, 0, 0), (0x0006, true, 160, 160), (0x0007, true, 0, 0),
  (0x0100, true, 4, 4), (0x0101, true, 2, 2), (0x0102, true, 4, 4), (0x0103, true, 4, 4), (0x0104, true, 4, 4),
  (0x0105, true, 16, 16), (0x0106, true, 16, 240), (0x0107, true, 4, 4), (0x0108, true, 8, 8), (0x0109, true, 4, 4),
  (0x0200, true, 16, 16), (0x0201, true, 0, 0), (0x0202, true, 4, 4), (0x0203, true, 4, 4), (0x0204, true, 4, 4)]

def opTable1 : List (Nat × Bool × Nat × Nat) := [
  (0x0300, true, 44, 44), (0x0301, true, 4, 4), (0x0302, true, 4, 4), (0x0303, false, 1, 1), (0x0304, true, 40, 40),
  (0x0305, true, 0, 0),
  (0x0400, true, 12, 12), (0x0401, false, 0, 0), (0x0402, true, 4, 4), (0x0403, true, 16, 16), (0x0404, true, 8, 8),
  (0x0405, true, 0, 0),
  (0x0500, true, 1, 1), (0x0501, true, 40, 40), (0x0502, true, 4, 4), (0x0503, true, 1, 1), (0x0504, true, 1, 1),
  (0x0505, true, 12, 12), (0x0506, true, 2, 2),
  (0x0600, true, 24, 24), (0x0601, true, 0, 0), (0x0602, true, 16, 16), (0x0603, true, 4, 4)]

def opTable2 : List (Nat × Bool × Nat × Nat) := [
  (0x0700, true, 28, 28), (0x0701, true, 0, 0), (0x0702, true, 1, 1), (0x0703, true, 1, 1), (0x0704, true, 16, 16),
  (0x0800, true, 16, 16), (0x0801, true, 0, 0), (0x0802, true, 1, 1), (0x0803, true, 4, 4), (0x0804, true, 4, 4),
  (0x0805, true, 0, 0),
  (0x0900, true, 0, 0), (0x0901, true, 2, 2), (0x0902, true, 1, 1), (0x0903, true, 4, 4), (0x0904, true, 8, 8),
  (0x0A00, true, 0, 0), (0x0A01, true, 0, 0), (0x0A02, true, 24, 24), (0x0A03, true, 0, 0), (0x0A04, true, 96, 96),
  (0x0B00, true, 96, 96), (0x0B01, true, 0, 0), (0x0B02, true, 16, 16), (0x0B03, true, 4, 4), (0x0B04, true, 0, 0),
  (0x0F00, true, 0, 0), (0x0F01, true, 20, 20), (0x0F02, true, 1, 1), (0x0F03, true, 0, 0), (0x0F04, true, 0, 0)]

def opFind : List (Nat × Bool × Nat × Nat) → Nat → Option (Bool × Nat × Nat)
  | [], _ => none
  | (o, i) :: t, k => if o = k then some i else opFind t k

/-- Issuer class and request size of an opcode, `none` outside the index (R64). -/
def opInfo (op : Nat) : Option (Bool × Nat × Nat) := opFind (opTable0 ++ opTable1 ++ opTable2) op

/-- Opcodes that mailbox 0 accepts in recovery mode (R50). -/
def recoveryOps : List Nat := [0x0000, 0x0001, 0x0002, 0x0005, 0x0F00, 0x0F01]

/-- A request size that the opcode's definition allows; TREE_CONTROL_XFER takes 16 bytes and, where DIR is 0, exactly the
LENGTH bytes that its setup words announce (R158, R425). -/
def sizeOk (op : Nat) (lo hi : Nat) (req : List Byte) (len : Nat) : Bool :=
  if op = 0x0106 then
    decide (16 ≤ len) && len == 16 + (if bitAt (leAt req 4 3) 23 then 0 else leAt req 10 3 / 2 ^ 12)
  else decide (lo ≤ len ∧ len ≤ hi)

/-- The image slot or store that a firmware command writes or loads: FW_STAGE's target, FW_LOAD_STANDBY's slot. -/
def imageOf (op : Nat) (req : List Byte) : Option Nat :=
  if op = 0x0F01 then some (leAt req 12 1) else if op = 0x0F02 then some (leAt req 0 1) else none

/-- A command that conflicts with one in progress or PENDING (R39): the chapters name a second TIME_SET_FRAME_PERIOD
(R88); a second FW_SWITCH, FW_LOAD_STANDBY, MAINS_CALIBRATE or CRN_CLEAR, and an FW_STAGE or FW_LOAD_STANDBY on the image that another of
the two is working on, are read the same way (DEDUCED, log entry 7). -/
def conflicts (op : Nat) (req : List Byte) (old : Cmd) : Bool :=
  ((op == 0x0402 || op == 0x0F03 || op == 0x0F02 || op == 0x0603 || op == 0x0A04) && old.opcode == op) ||
    ((imageOf op req).isSome && imageOf old.opcode old.req == imageOf op req)

/-- MBX_FW_STATE.MODE. -/
def State.mode (s : State) : Nat := s.get Fd.MBX_FW_STATE_MODE

/-- AT_FRAME rules of R38: earlier than the current frame + 2, or more than 2^31 frames ahead. -/
def State.badTarget (s : State) (f : Nat) : Bool :=
  let d := since32 f s.frame
  d < 2 || d > 2 ^ 31

/-- Items 1 to 8 of R426 for the command in slot `sl` of mailbox `m`: status and DETAIL of the first rule broken. An
opcode outside the index is item 2 and is left to UNKNOWN_OPCODE. -/
def State.judgeHeader (s : State) (m sl : Nat) : Option (Nat × Nat) :=
  let op := s.slotNum m sl 0 2
  let flags := s.slotNum m sl 4 1
  let len := s.slotNum m sl 6 2
  let target := s.slotNum m sl 12 4
  if s.slotNum m sl 5 1 ≠ 0 ∨ flags > 1 ∨ len > 240 then some (ST.invalid, 0xF4)
  else match opInfo op with
    | none => none
    | some (cls, lo, hi) =>
      if cls ∧ m ≠ 0 then some (ST.denied, 0)
      else if s.mode = 1 ∧ ¬ (m = 0 ∧ recoveryOps.contains op) then some (ST.unsupported, 0)
      else if s.slotNum m sl 10 1 ≠ (s.instOf m).gen then some (ST.stale, 0)
      else if flags = 1 ∧ s.badTarget target then some (ST.invalid, 0xF0)
      else if ¬ sizeOk op lo hi (s.slotBytes m sl 16 len) len then some (ST.invalid, 0xF3)
      else if s.mbx.taken.any (conflicts op (s.slotBytes m sl 16 len)) then some (ST.denied, 0xF1)
      else none

/-! ### Completion -/

/-- The mailbox's completion event (MBX_CTRL.DONE_EVENT, R289). -/
def State.mailEvent (s : State) (c : Cmd) (status : Nat) : State :=
  if s.on (Fd.MBX_CTRL_DONE_EVENT c.mbx) then
    s.occur (512 + 8 * c.mbx) (c.tag * 2 ^ 16 + status * 2 ^ 8 + c.slot)
  else s

/-- The firmware writes the response into the slot and returns it (R34, R35). -/
def State.slotDone (s : State) (c : Cmd) (status detail ef : Nat) (resp : List Byte) : State :=
  let s1 := s.slotStore c.mbx c.slot 16 resp
  let s2 := s1.slotStore c.mbx c.slot 12 (leBytes 4 ef)
  let s3 := s2.slotStore c.mbx c.slot 11 (leBytes 1 detail)
  let s4 := s3.slotStore c.mbx c.slot 6 (leBytes 2 resp.length)
  let s5 := s4.slotStore c.mbx c.slot 5 (leBytes 1 status)
  let s6 := s5.putBit (Reg.MBX_OWNER c.mbx) c.slot false
  (s6.putBit (Reg.MBX_DONE c.mbx) c.slot true).mailEvent c status

def State.findCmd (s : State) (id : Nat) : Option Cmd := s.mbx.taken.find? (fun c => c.id == id)

def State.setCmd (s : State) (c : Cmd) : State :=
  { s with mbx := { s.mbx with taken := s.mbx.taken.map fun x => if x.id = c.id then c else x } }

def State.dropCmd (s : State) (id : Nat) : State :=
  { s with mbx := { s.mbx with taken := s.mbx.taken.filter fun x => x.id != id } }

/-- The journal records a command's status (R54). -/
def State.journalStatus (s : State) (id status : Nat) : State :=
  { s with journal := s.journal.map fun j => if j.id = id then { j with status := some status } else j }

/-- The 16 most recent outcomes of mailbox `m`, the others' untouched (R39). -/
def keep16 (m : Nat) (l : List PendOutcome) : List PendOutcome :=
  let mine := l.filter fun o => o.mbx == m
  let others := l.filter fun o => o.mbx != m
  others ++ mine.drop (mine.length - 16)

/-- The pair that is active, and the other one (R14). -/
def State.activePair (s : State) : CtlPair := if s.on Fd.GLB_STATUS_ACTIVE_PAIR then s.fw.pairB else s.fw.pairA
def State.otherPair (s : State) : CtlPair := if s.on Fd.GLB_STATUS_ACTIVE_PAIR then s.fw.pairA else s.fw.pairB

/-- The pair that stands by, set. -/
def State.putOther (s : State) (p : CtlPair) : State :=
  if s.on Fd.GLB_STATUS_ACTIVE_PAIR then { s with fw := { s.fw with pairA := p } }
  else { s with fw := { s.fw with pairB := p } }

def State.putActive (s : State) (p : CtlPair) : State :=
  if s.on Fd.GLB_STATUS_ACTIVE_PAIR then { s with fw := { s.fw with pairB := p } }
  else { s with fw := { s.fw with pairA := p } }

/-- The firmware completes a command: its slot, or the outcome of a PENDING command, which is kept and reported (R38 to R40). -/
def State.complete (s : State) (c : Cmd) (status detail ef : Nat) (resp : List Byte) : State :=
  let s1 := (s.dropCmd c.id).journalStatus c.id status
  if c.pend then
    let upd := s1.mbx.outcomes.map fun o =>
      if o.id = c.id then { o with done := true, status := status, detail := detail, frame := ef, resp := resp } else o
    ({ s1 with mbx := { s1.mbx with outcomes := upd } }).mailEvent c status
  else s1.slotDone c status detail ef resp

/-- A command ends. `ef` is EFFECT_FRAME. The mailbox writes of a halted pair are blocked (R53): its command has committed then, and waits
for the pair that takes over (R55), or for a reset (R56). (DEDUCED, log entry 16.) -/
def State.finishAt (s : State) (c : Cmd) (status detail ef : Nat) (resp : List Byte) : State :=
  if s.activePair.mode = .halted then s.setCmd { c with begun := true, ended := some (status, detail, ef, resp) }
  else s.complete c status detail ef resp

/-- A command ends in the current frame. -/
def State.finish (s : State) (c : Cmd) (status detail : Nat) (resp : List Byte) : State :=
  s.finishAt c status detail s.frame resp

def State.okay (s : State) (c : Cmd) (resp : List Byte) : State := s.finish c ST.ok 0 resp

/-- A command completes PENDING: the slot is released and its outcome follows (R39). -/
def State.goPending (s : State) (c : Cmd) (ef : Nat) : State :=
  if c.pend then s.setCmd { c with begun := true }
  else
    let c1 := { c with pend := true, begun := true }
    let o : PendOutcome :=
      { mbx := c.mbx, tag := c.tag, id := c.id, done := false, status := ST.pending, detail := 0, frame := ef, resp := [] }
    let s1 := (s.setCmd c1).slotDone c ST.pending 0 ef []
    { s1 with mbx := { s1.mbx with outcomes := keep16 c.mbx (s1.mbx.outcomes ++ [o]) } }

/-- A command has begun and stays in progress without a completion yet. -/
def State.begin (s : State) (c : Cmd) : State := s.setCmd { c with begun := true }

/-- The first broken rule of a list in the order of R426 item 9. (DEDUCED, log entry 18.) -/
def firstBroken : List (Bool × Nat × Nat) → Option (Nat × Nat)
  | [] => none
  | (b, st, d) :: t => if b then some (st, d) else firstBroken t

/-- Judge a command's own rules; where none is broken, go on (R426 item 9). (DEDUCED, log entry 17.) -/
def State.judged (s : State) (c : Cmd) (rules : List (Bool × Nat × Nat)) (go : State) : State :=
  match firstBroken rules with
  | some (st, d) => s.finish c st d []
  | none => go

/-! ### Host-port back-pressure (R402, R234) -/

/-- PCIE_BP: the port issues no request of classes 2 to 4 for P0 µs from the tick. (DEDUCED, log entry 117.) -/
def State.portHeld (s : State) (port : Side) : Bool :=
  match s.scree.inj 3 with
  | some i => i.port == (if port = .h0 then 0 else 1) && decide (s.time.cyc < s.time.tickCyc + i.p0 * 400)
  | none => false

/-- An injection ends: its bit in SCR_ACTIVE, INJECT_END (R402). -/
def State.endInj (s : State) (k : Nat) : State :=
  if s.scree.injs.any fun i => i.kind == k then
    let s1 := { s with scree := { s.scree with injs := s.scree.injs.filter fun i => i.kind != k } }
    (s1.putBit Reg.SCR_ACTIVE k false).setEvent 26 Fd.SCR_EVENT_INJECT_END
  else s

/-- A BIST_RUN that includes test 0 holds its prerequisites (R403). -/
def State.bistHolds (s : State) : Bool := match s.scree.bist with
  | some b => bitAt b.tests 0
  | none => false

/-- Test 3 of a BIST_RUN has the standby pair, and STANDBY_READY stays 0 until it ends (R403). (DEDUCED, log entry 49.) -/
def State.bistStandby (s : State) : Bool := match s.scree.bist with
  | some b => bitAt b.tests 3
  | none => false

/-- Writes of the previous bank wait on a port: class 2 of R234, ahead of records and DMA. -/
def State.drainReady (s : State) (port : Side) : Bool :=
  let on (i : Nat) : Bool := (s.instOf i).port == port
  (s.xfer.slots.any fun w => since32 s.frame w.bank == 1 && on w.inst) ||
  (s.xfer.bulkIn.any fun w => since32 s.frame w.bank == 1 && on w.inst) ||
  (s.xfer.results.any fun w => on w.inst) || (s.red.slots.any fun w => on w.list.inst)

/-! ### When an opcode row acts -/

/-- The active pair runs commands: it is not halted, FW_RUNNING is 1 and no switch is under way (R53, R56, R57). -/
def State.fwServes (s : State) : Bool :=
  s.activePair.mode == .active && s.on Fd.GLB_STATUS_FW_RUNNING && (s.mode == 0 || s.mode == 1)

/-- The command's effect tick is the tick of the current frame: the target frame with AT_FRAME, otherwise a frame after
that of its take (R38). -/
def State.due (s : State) (c : Cmd) : Bool :=
  match c.target with
  | some f => s.frame == f
  | none => s.frame != c.takeFrame

/-- Opcodes whose own definition counts frames from the take, or that have no effect: no other command waits for them. -/
def ownFrames (op : Nat) : Bool := [0x0005, 0x0701, 0x0803, 0x0804, 0x0805, 0x0903, 0x0F03].contains op || (opInfo op).isNone

/-- No command taken before `c` is still to take effect at the same tick: effects committed at one tick apply in take order (R36). -/
def State.turn (s : State) (c : Cmd) : Bool :=
  !s.mbx.taken.any fun x => decide (x.id < c.id) && s.due x && !x.begun && !ownFrames x.opcode

/-- Fields of a request whose definition gives them the value 0: offset, bytes, mask ("Reserved, 0", "other bits 0"). -/
def zeroFields : Nat → List (Nat × Nat × Nat)
  | 0x0006 => [(1, 3, 0xFFFFFF)]
  | 0x0105 => [(12, 4, 0xFFFFFFFE)]
  | 0x0106 => [(2, 2, 0xFFFF), (13, 3, 0xFFFFFF)]
  | 0x0108 => [(6, 2, 0xFFFF)]
  | 0x0200 => [(5, 1, 0xFF), (12, 4, 0xFFFFFFFF)]
  | 0x0300 => [(6, 2, 0xFFFF)]
  | 0x0304 => [(6, 2, 0xFFC0)]
  | 0x0400 => [(1, 3, 0xFFFFFF)]
  | 0x0402 => [(1, 1, 0xFF)]
  | 0x0501 => [(5, 1, 0xFF)]
  | 0x0505 => [(9, 3, 0xFFFFFF)]
  | 0x0600 => [(20, 4, 0xFFFFFFFF)]
  | 0x0602 => [(12, 4, 0xFFFFFFFF)]
  | 0x0700 => [(22, 2, 0xFFFF)]
  | 0x0800 => [(5, 1, 0xFF), (10, 6, 0xFFFFFFFFFFFF)]
  | 0x0904 => [(3, 1, 0xFF)]
  | 0x0A02 => [(20, 4, 0xFFFFFFFF)]
  | 0x0B02 => [(3, 1, 0xFF)]
  | 0x0F01 => [(14, 2, 0xFFFF)]
  | _ => []

/-- A field that must be 0 is out of range: INVALID, before every other rule of the command's own (R426 item 9). (DEDUCED, log entry 17.) -/
def Cmd.zeroBroken (c : Cmd) : Bool := (zeroFields c.opcode).any fun x => (leAt c.req x.1 x.2.1) &&& x.2.2 != 0

/-- Run `f` for the taken command `id`, if it carries this opcode, has not begun, is due, and its turn has come. -/
def State.run (s : State) (id op : Nat) (f : Cmd → State) : State :=
  match s.findCmd id with
  | some c =>
    if c.opcode = op ∧ s.fwServes ∧ s.due c ∧ ¬ c.begun ∧ s.turn c then
      (if c.zeroBroken then s.finish c ST.invalid 0 [] else f c)
    else s
  | none => s

/-- As `run`, in any frame from the take on (for the commands whose own definition counts frames from the take). -/
def State.runNow (s : State) (id op : Nat) (f : Cmd → State) : State :=
  match s.findCmd id with
  | some c =>
    if c.opcode = op ∧ s.fwServes ∧ ¬ c.begun then (if c.zeroBroken then s.finish c ST.invalid 0 [] else f c) else s
  | none => s

/-! ### Taking slots again (R36, R57, R58) -/

/-- Add an internal request of the control pairs' port that is not waiting already (R305). -/
def State.cpAsk (s : State) (r : CpReq) : State :=
  if s.mbx.cpReqs.contains r then s else { s with mbx := { s.mbx with cpReqs := s.mbx.cpReqs ++ [r] } }

/-- The active pair takes slots again (R36). -/
def State.resumeTaking (s : State) : State := if s.mbx.rung.isEmpty then s else s.cpAsk .doorbell

/-- Abandoned commands are executed again by the pair that takes over (or by the old one, R58): TIMEOUT counts from now, and a
target frame that has passed while no pair took commands is the next effect tick. (DEDUCED, log entry 223.) -/
def State.retake (s : State) : State :=
  let again (c : Cmd) : Cmd :=
    if c.begun then c
    else
      let past : Bool := match c.target with
        | some f => decide (since32 s.frame f < 2 ^ 31)
        | none => true
      { c with takeFrame := if c.pend ∧ ¬ past then c.takeFrame else s.frame, target := if past then none else c.target }
  { s with mbx := { s.mbx with taken := s.mbx.taken.map again } }

/-! ### Abandoned work (R55, R57, Mailbox races) -/

/-- A load of the standby pair ends without effect: the pair is what it was before, with the image it held (R40). -/
def State.endLoad (s : State) : State :=
  match s.otherPair.back with
  | some (m, t) =>
    (s.putOther { s.otherPair with mode := m, slot := t, back := none }).put Fd.GLB_STATUS_STANDBY_READY
      (b2n (m == .ready && !s.bistStandby))
  | none => s

/-- A command of which the hardware goes on with the effect by itself, which has been made at its tick: a clear of Cairn, a self-test, a
DVFS change made. It completes with it. -/
def State.goesOn (s : State) (c : Cmd) : Bool :=
  c.begun && (c.opcode == 0x0A04 || c.opcode == 0x0B03 || (c.opcode == 0x0902 && s.pdm.dvs.isSome))

/-- What the commands of mailbox 0 in progress were doing is dropped without effect: nothing waits for them any more. A DVFS change
whose DVFS_CHANGE has been made is physical and goes on; an enable raised for TPHY is released. -/
def State.dropWork (s : State) : State :=
  let staged : Bool := match s.pdm.dvs with
    | some d => !d.begun && d.cmd.isSome
    | none => false
  let s1 := ((if staged then s.put Fd.PDM_DVFS_PENDING 0 else s).put Fd.MNS_STATUS_CAL 0).endLoad
  { s1 with
    time := { s1.time with period := none }
    links := { s1.links with recals := [] }
    tree := { s1.tree with enumCmds := [], linkCmds := [], hubRecals := [], hubGets := [] }
    alloc := { s1.alloc with pinCmds := [] }
    xfer := { s1.xfer with ctls := s1.xfer.ctls.filter fun c => match c.use with
      | .command _ => false
      | _ => true }
    cairn := { s1.cairn with reads := [] }
    red := { s1.red with swap := none }
    mains := { s1.mains with cal := none }
    power := { s1.power with tab := SMap.map PortPow.reset (fun _ x => { x with cmds := [] }) s1.power.tab }
    pair := { s1.pair with cmds := [] }
    pdm := { s1.pdm with
      dvs := if staged then none else s1.pdm.dvs
      en := if s1.pdm.tphyCmd.isSome then s1.pdm.en % 8 else s1.pdm.en
      tphyCmd := none, stdCmd := none, cluCmd := none } }

/-- Byte `o` of a request, and the number of `n` bytes from `o`. -/
def Cmd.u (c : Cmd) (o n : Nat) : Nat := leAt c.req o n

/-- The signed number of `n` bytes from `o`. -/
def Cmd.i (c : Cmd) (o n : Nat) : Int := toSigned (8 * n) (c.u o n)

end Sys2Proof.Machine
end

