-- ==== Sys2Proof/Machine/BusOps.lean ====
section
/-! DEFINITION. Shared operations over the device tree, endpoint contexts, instance-table entries, completion records and
host reads (05, 06, 07, 10). -/

namespace Sys2Proof.Machine

/-! ### Addresses (R6, R163) -/

/-- This controller's number. -/
def State.ctrlNo (s : State) : Nat := s.get Fd.PAR_CTRL_NUMBER

def seaOf (dirIn : Bool) (c a ep : Nat) : Nat := b2n (dirIn && ep != 0) * 0x800000 + c * 0x20000 + a * 16 + ep
def seaDir (sea : Nat) : Bool := bitAt sea 23
def seaCtrl (sea : Nat) : Nat := (sea / 0x20000) % 64
def seaAddr (sea : Nat) : Nat := (sea / 16) % 8192
def seaEp (sea : Nat) : Nat := sea % 16
/-- Context number of an SEA: device address * 16 + endpoint. -/
def seaKey (sea : Nat) : Nat := sea % 0x20000

/-! ### The tree -/

def State.dev (s : State) (a : Nat) : Option Device := SMap.get (fun _ => none) s.tree.devs a

def State.putDev (s : State) (a : Nat) (d : Option Device) : State :=
  { s with tree := { s.tree with devs := SMap.put (fun _ => none) a d s.tree.devs } }

def State.editDev (s : State) (a : Nat) (f : Device → Device) : State :=
  match s.dev a with
  | some d => s.putDev a (some (f d))
  | none => s

/-- Enumerated devices, ascending. -/
def State.devices (s : State) : List (Nat × Device) :=
  s.tree.devs.filterMap fun x => x.2.map fun d => (x.1, d)

def State.portDevices (s : State) (p : Nat) : List (Nat × Device) := s.devices.filter fun x => x.2.link.port == p

/-- Hubs from the root downward to the link `l`; the tree is at most 7 tiers deep (R146). -/
def State.hubsTo (s : State) : Nat → LinkSel → List Nat
  | 0, _ => []
  | n + 1, l =>
    if l.hub = 0 then []
    else match s.dev l.hub with
      | some h => s.hubsTo n h.link ++ [l.hub]
      | none => []

def State.pathOf (s : State) (l : LinkSel) : List Nat := s.hubsTo 8 l

/-- Device `a` is on link `l` or below it. -/
def State.isBelow (s : State) (l : LinkSel) (d : Device) : Bool :=
  d.link == l || (d.link.port == l.port &&
    (if l.hub = 0 then true
     else (s.pathOf d.link).any fun h => match s.dev h with
       | some x => x.link == l
       | none => false))

/-- Addresses of the devices on link `l` or below it, ascending. -/
def State.devsBelow (s : State) (l : LinkSel) : List Nat := (s.devices.filter fun x => s.isBelow l x.2).map (·.1)

/-- Endpoint descriptor of endpoint `ep` of device `a` with EP0 as a control endpoint. -/
def State.epDesc (s : State) (a ep : Nat) : Option EpDesc :=
  match s.dev a with
  | some d =>
    if ep = 0 then some { num := 0, dirIn := false, typ := 0, words := 64, minK := 0, hist := 0, fmt := 1 }
    else d.eps.find? fun e => e.num == ep
  | none => none

/-- STATE of a root link (LNK_STATUS). -/
def State.linkState (s : State) (p : Nat) : Nat := s.get (Fd.LNK_STATUS_STATE p)
def State.setLinkState (s : State) (p n : Nat) : State := s.put (Fd.LNK_STATUS_STATE p) n

/-- DEVICES, PORT_DEVS and HUBS follow the tree. -/
def State.countDevs (s : State) : State :=
  let s1 := s.put Fd.TRE_STATUS_DEVICES s.devices.length
  foldN (fun t p =>
    let l := t.portDevices p
    (t.put (Fd.TRE_PORT_DEVS_DEVICES p) l.length).put (Fd.TRE_PORT_DEVS_HUBS p) (l.filter fun x => x.2.isHub).length)
    s1 s.portList

/-! ### The pair (R345, R347, R353) -/

/-- MODE, and whether this controller's pair is served (R344). -/
def State.parMode (s : State) : Nat := s.get Fd.PAR_CTRL_MODE
def State.paired (s : State) : Bool := s.parMode == 2

/-- STATE of a Saddle link. -/
def State.sadState (s : State) (l : Nat) : Nat := if l = 0 then s.get Fd.PAR_LINK0_STATE else s.get Fd.PAR_LINK1_STATE

/-- The partner's number and the partner link (R344, R345). -/
def State.partnerNo (s : State) : Nat := if s.ctrlNo % 2 = 0 then s.ctrlNo + 1 else s.ctrlNo - 1
def State.partnerLink (s : State) : Nat := if s.ctrlNo % 2 = 0 then 1 else 0
def State.partnerLinkUp (s : State) : Bool := s.sadState s.partnerLink == 2

/-- PARTNER: 0 none, 1 UP, 2 DOWN, 3 replacing. -/
def State.partner (s : State) : Nat := s.get Fd.PAR_STATUS_PARTNER

/-- No control or bulk descriptor starts, and no bulk OUT transaction: PFI_N is asserted, or has deasserted in this frame (R365, R414). -/
def State.pfiStops (s : State) : Bool := s.pair.pfi.isSome || s.pair.pfiHold

/-- Send a message on a Saddle link that is up. -/
def State.sadSend (s : State) (l : Nat) (m : SaddleMsg) : State :=
  if s.sadState l = 2 then { s with pair := { s.pair with out := s.pair.out ++ [(l, m)] } } else s

/-- Send a message to the partner; MIRROR goes the other way round the ring if the partner link is down (R347). -/
def State.tellPartner (s : State) (m : SaddleMsg) (round : Bool) : State :=
  if s.partnerLinkUp ∨ ¬ round then s.sadSend s.partnerLink m else s.sadSend (1 - s.partnerLink) m

/-- The spur of a hub: the hub and every device below it, ascending. -/
def State.spur (s : State) (h : Nat) : List Nat :=
  (s.devices.filter fun x => x.1 == h || (s.pathOf x.2.link).contains h).map (·.1)

/-- A device is dual-homed: it is a dual-homed hub or below one. -/
def State.dualHomed (s : State) (a : Nat) : Bool := match s.dev a with
  | some d => (d.isHub && d.dual) || (s.pathOf d.link).any fun h => ((s.dev h).map (fun x => x.isHub && x.dual)).getD false
  | none => false

/-- Dual-homed hubs that are covered (`c`) or carried, ascending. -/
def State.dualHubs (s : State) (c : Bool) : List Nat :=
  (s.devices.filter fun x => x.2.isHub && x.2.dual && x.2.covered == c).map (·.1)

/-- PAR_DEVICES follows the tree (R353). -/
def State.showCovered (s : State) : State :=
  (s.put Fd.PAR_DEVICES_COVERED (s.devices.filter fun x => x.2.covered).length).put Fd.PAR_DEVICES_UNCOVERED s.pair.uncov.length

/-- The devices of a hub's spur become covered, or carried (R353). -/
def State.coverSpur (s : State) (v : Bool) (h : Nat) : State :=
  (foldN (fun t a => t.editDev a fun d => { d with covered := v }) s (s.spur h)).showCovered

/-- A sample of a catch-up is not fetched (R360). -/
def State.catchLost (s : State) : State :=
  let s1 := (s.bump Fd.PAR_CATCHUP_LOST).setEvent 23 Fd.PAR_EVENT_CATCHUP_LOST
  { s1 with pair := { s1.pair with lostAll := s1.pair.lostAll + 1 } }

/-! ### Contexts (R165) -/

def State.ctxEnt (s : State) (k : Nat) : Option CtxEnt := SMap.get (fun _ => none) s.pager.ctxs k

def State.putCtxEnt (s : State) (k : Nat) (c : Option CtxEnt) : State :=
  { s with pager := { s.pager with ctxs := SMap.put (fun _ => none) k c s.pager.ctxs } }

/-- (DEDUCED, log entry 100.) -/
def State.ctx (s : State) (k : Nat) : Option Ctx := (s.ctxEnt k).map (·.ctx)

/-- Change a context: the cached copy becomes DIRTY; the change to one that is not cached is held (R165). -/
def State.editCtx (s : State) (k : Nat) (f : Ctx → Ctx) : State :=
  match s.ctxEnt k with
  | some e =>
    let cached := e.st == .clean || e.st == .dirty
    s.putCtxEnt k (some { e with
      ctx := f e.ctx
      st := if cached then .dirty else e.st
      held := e.held || !cached })
  | none => s

/-- Saturating count in a context. -/
def sat (n max : Nat) : Nat := min n max

/-- The context is cached and has passed its check (R210). -/
def State.ctxReady (s : State) (k : Nat) : Bool :=
  match s.ctxEnt k with
  | some e => (e.st == .clean || e.st == .dirty) && e.ctx.state != 4 && e.lateIn != some s.frame
  | none => false

def State.cachedCount (s : State) : Nat :=
  (s.pager.ctxs.filter fun x => match x.2 with
    | some e => e.st != .free
    | none => false).length

def CtxEnt.pinned (e : CtxEnt) : Bool := e.autoPin || e.explPin || e.wbPin

/-- Contexts pinned automatically or by command: what PIN_LIMIT and the responses count. A pin that a failed write-back makes stands in
SCH_CACHE.PINNED alone (R211, R213; DESIGN CHOICE, log entry 263). -/
def State.pinnedCount (s : State) : Nat :=
  (s.pager.ctxs.filter fun x => match x.2 with
    | some e => e.autoPin || e.explPin
    | none => false).length

/-- SCH_CACHE follows the cache. -/
def State.showCache (s : State) : State :=
  (s.put Fd.SCH_CACHE_CACHED s.cachedCount).put Fd.SCH_CACHE_PINNED
    (s.pager.ctxs.filter fun x => match x.2 with
      | some e => e.pinned
      | none => false).length

/-- The 64 bytes of a context (R165). -/
def ctxBytes (c : Ctx) : List Byte :=
  let w (n : Nat) : List Byte := leBytes 4 n
  let body :=
    w (b2n c.valid * 2 ^ 31 + c.typ * 2 ^ 28 + c.state * 2 ^ 24 + c.sea) ++
    w (c.inst * 2 ^ 26 + c.gen * 2 ^ 18 + c.entry * 2 ^ 4 + c.format * 4 + c.dfmt * 2 + c.toggle) ++
    w (c.maxWords * 2 ^ 22 + c.k * 2 ^ 18 + c.phase * 2 ^ 6) ++
    w (c.port * 2 ^ 29 + c.tier * 2 ^ 26 + c.hist * 2 ^ 19 + c.intent) ++ w c.handle ++
    w (c.enq * 2 ^ 16 + c.deq) ++ w (c.retries * 2 ^ 24 + c.done) ++ w c.runCrc ++ w c.lastFrame ++ w c.newest ++
    w c.wcount ++ w (c.deferrals * 2 ^ 16 + c.errors) ++ w (c.noSample * 2 ^ 16 + c.stale) ++ w (c.wbSeq * 2 ^ 24) ++ w 0
  body ++ w (crc32c body)

/-- The context that 64 bytes spell. -/
def ctxOf (b : List Byte) : Ctx :=
  let f (o hi lo : Nat) : Nat := (leAt b o 4 >>> lo) % 2 ^ (hi - lo + 1)
  { valid := f 0 31 31 == 1, typ := f 0 30 28, state := f 0 27 24, sea := f 0 23 0
    inst := f 4 31 26, gen := f 4 25 18, entry := f 4 17 4, format := f 4 2 2, dfmt := f 4 1 1, toggle := f 4 0 0
    maxWords := f 8 31 22, k := f 8 21 18, phase := f 8 17 6
    port := f 12 31 29, tier := f 12 28 26, hist := f 12 25 19, intent := f 12 9 0
    handle := f 16 31 0, enq := f 20 31 16, deq := f 20 15 0, retries := f 24 31 24, done := f 24 23 0
    runCrc := f 28 31 0, lastFrame := f 32 31 0, newest := f 36 31 0, wcount := f 40 31 0
    deferrals := f 44 31 16, errors := f 44 15 0, noSample := f 48 31 16, stale := f 48 15 0, wbSeq := f 52 31 24 }

/-- CHECK of a context's bytes holds. -/
def ctxGood (b : List Byte) : Bool := leAt b 0x3C 4 == crc32c (slice b 0 0x3C)

/-! ### Injections (R402) -/

def State.editInj (s : State) (k : Nat) (f : Injection → Injection) : State :=
  { s with scree := { s.scree with injs := s.scree.injs.map fun i => if i.kind = k then f i else i } }

/-- LINK_ERR in direction `dir` on root port `p`: how many of `n` data words of the periodic region are hit. -/
def State.linkErr (s : State) (p dir n : Nat) : Nat × State :=
  match s.scree.inj 1 with
  | some i =>
    if i.port = p ∧ i.p1 = dir then (min i.left n, s.editInj 1 fun x => { x with left := x.left - n }) else (0, s)
  | none => (0, s)

/-- NRDY_STORM replaces the answers of endpoint `ep` of device `a`. (DEDUCED, log entry 99.) -/
def State.nrdyStorm (s : State) (p a ep : Nat) : Bool :=
  match s.scree.inj 2 with
  | some i => i.port == p && i.p0 == a && bitAt i.p1 ep
  | none => false

/-! ### Host reads (R160, R277, R282) -/

/-- Issue a read for instance `i`; it is refused under R277, or outstanding under the next tag. -/
def State.instRead (s : State) (i : Nat) (pasid : Option Nat) (addr len : Nat) (use : ReadUse) (key frame off : Nat) :
    State × Bool :=
  if s.isoKind i pasid ≠ 0 then (s.countIso i pasid, false)
  else
    let r : HostRead :=
      { tag := s.host.nextTag, port := (s.instOf i).port, pasid := pasid, addr := addr, len := len, use := use
        inst := i, gen := (s.instOf i).gen, key := key, frame := frame, off := off, dead := false
        ecrc := s.host.ecrcGen.contains (s.instOf i).port }
    ({ s with host := { s.host with reads := s.host.reads ++ [r], nextTag := s.host.nextTag + 1 } }, true)

/-- A read through the manager's port for the H24 itself. -/
def State.managerRead (s : State) (pasid : Option Nat) (addr len : Nat) (use : ReadUse) (key off : Nat) : State :=
  let r : HostRead :=
    { tag := s.host.nextTag, port := s.boot.barPort, pasid := pasid, addr := addr, len := len, use := use
      inst := 0, gen := (s.instOf 0).gen, key := key, frame := s.frame, off := off, dead := false
      ecrc := s.host.ecrcGen.contains s.boot.barPort }
  { s with host := { s.host with reads := s.host.reads ++ [r], nextTag := s.host.nextTag + 1 } }

/-- A read of the pager, through the manager's port with the directory's PASID (R160). -/
def State.pagerRead (s : State) (addr len : Nat) (use : ReadUse) (key : Nat) : State :=
  s.managerRead (pasidOf (s.rd Reg.SCH_DIR_PASID).toNat) addr len use key 0

/-- A read of the firmware for command `id`, its part number `k` (R63, R271). (DEDUCED, log entry 253.) -/
def State.fwRead (s : State) (id : Nat) (pasid : Option Nat) (addr len k : Nat) : State := s.managerRead pasid addr len .fw id k

/-- The firmware's reads for command `id` are over. -/
def State.fwReadsEnd (s : State) (id : Nat) : State :=
  { s with host := { s.host with reads := s.host.reads.filter fun r => !(r.use == .fw && r.key == id) } }

/-- Non-posted requests that a port sustains outstanding (R26). -/
def readCap : Side → Nat
  | .h0 => 256
  | .h1 => 128

/-- The reads outstanding on a port; those behind them wait for a tag. (DESIGN CHOICE, log entry 228.) -/
def HostSide.flying (h : HostSide) (p : Side) : List HostRead := (h.reads.filter fun r => r.port == p).take (readCap p)

/-- The outstanding read with a tag. -/
def State.findRead (s : State) (tag : Nat) : Option HostRead :=
  (s.host.flying .h0 ++ s.host.flying .h1).find? fun r => r.tag == tag

def State.dropRead (s : State) (tag : Nat) : State :=
  { s with host := { s.host with reads := s.host.reads.filter fun r => r.tag != tag } }

/-! ### Instance-table entries (R168, R169) -/

def entKey (i e : Nat) : Nat := i * 16384 + e

def State.entry (s : State) (i e : Nat) : Option Entry := SMap.get (fun _ => none) s.rings.tab (entKey i e)

def State.putEntry (s : State) (i e : Nat) (x : Option Entry) : State :=
  { s with rings := { s.rings with tab := SMap.put (fun _ => none) (entKey i e) x s.rings.tab } }

def State.editEntry (s : State) (i e : Nat) (f : Entry → Entry) : State :=
  match s.entry i e with
  | some x => s.putEntry i e (some (f x))
  | none => s

/-- Open entries of instance `i`: entry numbers and entries, ascending. -/
def State.instEntries (s : State) (i : Nat) : List (Nat × Entry) :=
  s.rings.tab.filterMap fun x =>
    if x.1 / 16384 = i then x.2.map fun e => (x.1 % 16384, e) else none

/-- INS_Ii_ENTRIES.BOUND. -/
def State.showBound (s : State) (i : Nat) : State :=
  s.put (Fd.INS_I_ENTRIES_BOUND i) ((s.instEntries i).filter fun x => 16 ≤ x.1).length

/-- Ring size of an entry. -/
def Entry.size (e : Entry) : Nat := 2 ^ e.log2

/-- Modular distance of 16-bit indices. -/
def since16 (b a : Nat) : Nat := (b + 65536 - a % 65536) % 65536

/-- Places of a completion ring that no record and no reservation takes. -/
def Entry.room (e : Entry) : Nat := e.size - (since16 e.prod e.cons + e.resv)

/-! ### Completion records (R180 to R183) -/

/-- Bytes 0x00 to 0x1B of a record. -/
def recordBytes (tag code detail entry index retries bytes frame crc gen sea : Nat) : List Byte :=
  leBytes 4 (tag % 65536 * 2 ^ 16 + code * 2 ^ 8 + detail) ++ leBytes 4 (entry * 2 ^ 18 + index % 65536) ++
  leBytes 4 (retries * 2 ^ 24 + bytes) ++ leBytes 4 frame ++ leBytes 4 (if bytes = 0 then 0 else crc) ++
  leBytes 4 (gen * 2 ^ 24 + sea) ++ leBytes 4 0

/-- Queue a record of entry `e` of instance `i`. Records with codes 2 to 18 always raise the event (R182). -/
def State.pushRec (s : State) (i e : Nat) (x : Entry) (bytes : List Byte) (code : Nat) (notify resv : Bool) : State :=
  let r : CRec :=
    { inst := i, gen := x.gen, cring := x.cring, entry := e, bytes := bytes, notify := notify || decide (2 ≤ code), resv := resv }
  { s with rings := { s.rings with recs := s.rings.recs ++ [r] } }

/-- OPENED, OPEN_REFUSED and CLOSED records (R174, R175). -/
def State.pushState (s : State) (i e : Nat) (x : Entry) (code detail : Nat) : State :=
  s.pushRec i e x (recordBytes 0 code detail e 0 0 0 s.frame 0 x.gen x.sea) code true false

/-- DATA_CRC of a record from the CRC-32C state over the bytes moved. -/
def crcOut (c : Nat) : Nat := c ^^^ 0xFFFFFFFF

/-- Dword 3 of a transfer descriptor: DTYPE, NOTIFY, ZLP, E2E, TAG (R177). -/
def Desc.word3 (d : Desc) : Nat := leAt d.bytes 0x0C 4
def Desc.tag (d : Desc) : Nat := d.word3 % 65536
def Desc.notify (d : Desc) : Bool := bitAt d.word3 27
def Desc.zlpOn (d : Desc) : Bool := bitAt d.word3 26
def Desc.e2e (d : Desc) : Bool := bitAt d.word3 25
def Desc.dtype (d : Desc) : Nat := d.word3 / 2 ^ 28
def Desc.len (d : Desc) : Nat := leAt d.bytes 8 3
def Desc.buf (d : Desc) : Nat := leAt d.bytes 0 8
def Desc.timeout (d : Desc) : Nat := leAt d.bytes 0x1C 2
/-- The three setup words of a CONTROL descriptor. -/
def Desc.setup (d : Desc) (n : Nat) : Nat := leAt d.bytes (0x10 + 3 * n) 3

/-- The direction of a descriptor's data. (DEDUCED, log entry 106.) -/
def Desc.dataIn (d : Desc) (x : Entry) : Bool := if d.dtype = 1 then bitAt (d.setup 0) 23 else seaDir x.sea

/-- A reservation in completion ring `r` of instance `i`. -/
def State.reserve (s : State) (i r : Nat) : State := s.editEntry i r fun x => { x with resv := x.resv + 1 }
def State.unreserve (s : State) (i r : Nat) : State := s.editEntry i r fun x => { x with resv := x.resv - 1 }

/-- The descriptor in progress ends with a code: its record, DEQ, and the context's progress fields (R176, R180). After PFI_N an IN descriptor
gets no record (R365). -/
def State.endDesc (s : State) (i e code detail : Nat) : State :=
  match s.entry i e with
  | some x =>
    match x.desc with
    | some d =>
      let k := seaKey x.sea
      let c := s.ctx k
      let done := (c.map (·.done)).getD 0
      let tries := (c.map (·.retries)).getD 0
      let b := recordBytes d.tag code detail e d.index tries done s.frame (crcOut d.crcRun) x.gen x.sea
      let s1 := if s.pair.pfi.isSome ∧ d.dataIn x then s.unreserve i x.cring else s.pushRec i e x b code d.notify true
      let deq := (d.index + 1) % 65536
      let s1b := { s1 with xfer := { s1.xfer with readied := s1.xfer.readied.filter (· != k) } }
      let s2 := s1b.editEntry i e fun y => { y with desc := none, deq := deq }
      s2.editCtx k fun z => { z with deq := deq, done := 0, retries := 0, runCrc := 0 }
    | none => s
  | none => s

/-! ### Closing an entry (R175) -/

/-- A transaction of the entry is open. -/
def State.entryBusy (s : State) (i e : Nat) : Bool := s.xfer.opens.any fun t => t.inst == i && t.entry == e

/-- Bytes accepted for the entry's descriptors are still to be written (R228). -/
def State.entryOwes (s : State) (i e : Nat) : Bool := s.xfer.bulkIn.any fun w => w.inst == i && w.entry == e

/-- The last step of a close: CLOSED, the context IDLE, the entry free. It waits for the binding to take effect with its OPENED record
(R174), for the outstanding descriptors, and for the bytes that their records count. -/
def State.finishClose (s : State) (i e : Nat) : State :=
  match s.entry i e with
  | some x =>
    match x.closing with
    | some (_, detail) =>
      if x.live ∧ x.desc.isNone ∧ ¬ x.fetch ∧ (x.kind ≠ 1 ∨ x.enq = x.deq) ∧ ¬ s.entryOwes i e then
        let k := seaKey x.sea
        let s1 := (s.pushState i e x 18 detail).putEntry i e none
        let s2 := s1.editCtx k fun c => { c with state := if ¬ c.valid then 0 else if c.state = 4 then 4 else 1, entry := 0 }
        match s2.ctxEnt k with
        | some y => (s2.putCtxEnt k (some { y with autoPin := false })).showCache.showBound i
        | none => s2.showBound i
      else s
    | none => s
  | none => s

/-- End history recoveries and pending services of an entry; LOST is counted where `count` (R224, R280). -/
def State.endRecovery (s : State) (i e : Nat) (count : Bool) : State :=
  let mine := s.xfer.hists.filter fun h => h.inst == i && h.entry == e
  let s1 := { s with xfer := { s.xfer with
    hists := s.xfer.hists.filter fun h => !(h.inst == i && h.entry == e)
    svcs := s.xfer.svcs.filter fun v => !(v.inst == i && v.entry == e) || v.past
    outs := s.xfer.outs.filter fun o => !(o.inst == i && o.entry == e) } }
  if count then
    mine.foldl (fun t h =>
      if h.catchup then t.catchLost
      else (t.bump Fd.XFR_HIST_LOST).setEvent 18 Fd.XFR_EVENT_HIST_LOST) s1
  else s1

/-- Begin to close an entry: the descriptor in progress ends with `first` once no transaction of it is open, the waiting
ones end with `rest`, and CLOSED with `detail` follows (R175, Races). A close under way goes on as it began once its transaction is gone.
(DESIGN CHOICE, log entry 245.) -/
def State.beginClose (s : State) (i e first rest detail : Nat) : State :=
  match s.entry i e with
  | some x =>
    if x.closing.isSome then
      match x.desc.bind (·.stop) with
      | some (c, n) => if s.entryBusy i e then s else (s.endDesc i e c n).finishClose i e
      | none => s
    else
      let s1 := (s.editEntry i e fun y => { y with closing := some (rest, detail) }).endRecovery i e true
      match x.desc with
      | some d =>
        if s1.entryBusy i e ∧ first = 7 then
          s1.editEntry i e fun y => { y with desc := some { d with stop := some (7, 0) } }
        else (s1.endDesc i e first 0).finishClose i e
      | none => s1.finishClose i e
  | none => s

/-- The entry bound to a context, if any. -/
def State.boundEntry (s : State) (k : Nat) : Option (Nat × Nat) :=
  match s.ctx k with
  | some c => if c.entry ≠ 0 ∧ (s.entry c.inst c.entry).isSome then some (c.inst, c.entry) else none
  | none => none

/-- The entry bound to a context, or whose binding waits for its tick (R174). -/
def State.entryOn (s : State) (k : Nat) : Option (Nat × Nat) :=
  match s.boundEntry k with
  | some x => some x
  | none => (s.rings.tab.find? fun x => match x.2 with
      | some e => e.kind != 0 && !e.live && seaKey e.sea == k
      | none => false).map fun x => (x.1 / 16384, x.1 % 16384)

/-- Close the entry bound to a context, if there is one; a binding that waits for its tick is closed once it has taken effect (R174, R175). -/
def State.closeBound (s : State) (k first rest detail : Nat) : State :=
  match s.entryOn k with
  | some (i, e) => s.beginClose i e first rest detail
  | none => s

/-! ### Maps (R192 to R194) -/

/-- One map. Its number is `kind * 2^16 + up * 2^15 + number`. -/
structure MapRef where
  kind : Nat      -- 1 root link, 2 hub upstream link, 3 leaf link, 4 frame buffer, 5 contexts
  up   : Bool
  num  : Nat      -- root port, hub address or device address
  deriving DecidableEq, Repr

def MapRef.no (m : MapRef) : Nat := m.kind * 2 ^ 16 + b2n m.up * 2 ^ 15 + m.num

/-- Link maps on the path of device `a`, in the order of R196: root, hubs by tier from the top, leaf; each downstream
first. -/
def State.linkMaps (s : State) (a : Nat) : List MapRef :=
  match s.dev a with
  | some d =>
    let hubs := (s.pathOf d.link ++ (if d.isHub then [a] else [])).filter fun h => match s.dev h with
      | some x => decide (2 ≤ x.tier)
      | none => false
    let both (k n : Nat) : List MapRef := [{ kind := k, up := false, num := n }, { kind := k, up := true, num := n }]
    both 1 d.link.port ++ hubs.flatMap (both 2) ++ (if !d.isHub && decide (2 ≤ d.tier) then both 3 a else [])
  | none => []

/-! ### Handles (R198, R202) -/

/-- SCH_STATUS.HANDLES. -/
def State.showHandles (s : State) : State :=
  s.put Fd.SCH_STATUS_HANDLES (s.alloc.grants.filter fun g => g.handle != 0).length

/-- Every handle of device `a` is released at the tick of its removal: the next one, until which it charges the maps of its path (R202). -/
def State.dropHandles (s : State) (a : Nat) : State :=
  let f (g : Grant) : Grant :=
    if g.key / 16 = a then
      { g with leave := some ((s.frame + 1) % 2 ^ 32), close := false
               gone := some (((s.epDesc a (g.key % 16)).map (·.typ)).getD 1, (s.linkMaps a).map MapRef.no) }
    else g
  { s with alloc := { s.alloc with grants := s.alloc.grants.map f } }

/-- A removal made at a tick since state `old` releases its handles at this tick (R202). -/
def State.dropNow (s old : State) : State :=
  { s with alloc := { s.alloc with grants := s.alloc.grants.filter fun g => g.gone.isNone || old.alloc.grants.contains g } }.showHandles

/-! ### Removal of a device (R110, R149, R175, R202, R206, R212) -/

/-- Contexts of device `a`. (DEDUCED, log entry 27.) -/
def State.devKeys (s : State) (a : Nat) : List Nat := (SMap.keys s.pager.ctxs).filter fun k => k / 16 == a

/-- Hold an address back for 64 frames, counted from the tick that began this one (R206; DESIGN CHOICE, log entry 262). -/
def State.holdAddr (s : State) (a : Nat) : State :=
  { s with alloc := { s.alloc with held := (s.alloc.held.filter fun x => x.1 != a) ++ [(a, s.frame)] } }

/-- Remove device `a`: its entries close with `detail` 1 (removed) or 2 (bus reset), its handles are released, its
contexts wait for their write-back with VALID = 0, for which one that is not cached is paged in (R165), its address is held back. (DEDUCED, log entry 101.) -/
def State.removeDev (s : State) (detail a : Nat) : State :=
  match s.dev a with
  | some _ =>
    let s0 := { s with xfer := { s.xfer with opens := s.xfer.opens.filter fun t => t.addr != a } }
    let s1 := foldN (fun t k => t.closeBound k (if detail = 2 then 5 else 13) 13 detail) s0 (s0.devKeys a)
    let s2 := foldN (fun t k => match t.ctxEnt k with
      | some e =>
        t.putCtxEnt k (some { e with
          ctx := { e.ctx with valid := false, handle := 0, state := 0 }
          st := if e.st = .clean then .dirty else e.st, held := e.held || (e.st != .clean && e.st != .dirty)
          gone := true, autoPin := false, explPin := false, locked := false })
      | none => t) s1 (s1.devKeys a)
    let s2b := { s2 with tree := { s2.tree with offLinks := s2.tree.offLinks.filter fun o => o.link.hub != a } }
    let s3 := ((s2b.dropHandles a).putDev a none).holdAddr a
    (s3.countDevs.showCache).setEvent 16 Fd.TRE_EVENT_DETACH
  | none => s

/-- Remove every device on a link and below it. -/
def State.removeBelow (s : State) (detail : Nat) (l : LinkSel) : State :=
  foldN (fun t a => t.removeDev detail a) s (s.devsBelow l)

/-- The root link of port `p`. -/
def rootLink (p : Nat) : LinkSel := { port := p, hport := 0, hub := 0 }

/-! ### The descrambler of a root port (R95, R97) -/

def State.lp (s : State) (p : Nat) : LinkPort := SMap.get LinkPort.reset s.links.tab p

def State.editLp (s : State) (p : Nat) (f : LinkPort → LinkPort) : State :=
  { s with links := { s.links with tab := SMap.put LinkPort.reset p (f (s.lp p)) s.links.tab } }

/-- One step: shift left, s[23] xor s[22] xor s[21] xor s[16] into s[0]. -/
def lfsrBit (v : Nat) : Nat :=
  (v * 2) % 2 ^ 24 + (b2n (bitAt v 23) + b2n (bitAt v 22) + b2n (bitAt v 21) + b2n (bitAt v 16)) % 2

/-- The 24 steps of one word time. The 24 bits they put out, the first paired with payload bit 23, are the state before
them. -/
def lfsrWord (v : Nat) : Nat := iterate (fun _ x => lfsrBit x) 24 v

/-- `n` word times pass on port `p`'s receiver. (DEDUCED, log entry 86.) -/
def State.wordTimes (s : State) (p n : Nat) : State := s.editLp p fun l => { l with descr := iterate (fun _ x => lfsrWord x) n l.descr }

/-- Port `p` sends a link-local control word (R97). -/
def State.say (s : State) (p code body : Nat) : State := s.editLp p fun l => { l with said := l.said ++ [(code, body)] }

/-! ### The line word (R93 to R95, R97) -/

/-- CRC-4 of bits [29:4] of a line word (R94). (DESIGN CHOICE, log entry 216.) -/
def crc4 (w : Nat) : Nat :=
  iterate (fun k c =>
    let fb := (c / 8 % 2 + b2n (bitAt w (29 - k))) % 2
    let c1 := c * 2 % 16
    if fb = 1 then c1 ^^^ 3 else c1) 26 15

/-- A line word: HEADER, PAYLOAD and CHECK (R93). `bad`: its CHECK is inverted (R402). -/
def lineWord (ctl : Bool) (payload : Nat) (bad : Bool) : Nat :=
  let w := (if ctl then 2 else 1) * 2 ^ 28 + payload % 2 ^ 24 * 16
  w + (if bad then 15 - crc4 w else crc4 w)

/-- A control word's payload: CODE and BODY. -/
def control (code body : Nat) : Nat := code * 2 ^ 16 + body % 2 ^ 16

/-- Words in consecutive word times, the scrambler standing at `m` before the first: it steps in every word time and masks data words
(R95). The first `bad` data words have an inverted CHECK. -/
def lineWords (m bad : Nat) : List (Bool × Nat) → List Nat
  | [] => []
  | (true, x) :: l => lineWord true x false :: lineWords (lfsrWord m) bad l
  | (false, x) :: l => lineWord false (x ^^^ m) (decide (bad ≠ 0)) :: lineWords (lfsrWord m) (bad - 1) l

/-- Body of the IDLE word that port `p` sends in word time `w` of the frame (R97). -/
def State.idleBody (s : State) (p w : Nat) : Nat :=
  (iterate (fun _ x => lfsrWord x) (w - (s.lp p).scrAt) (s.lp p).scr) % 2 ^ 16

/-! ### Link selectors of commands (R116, R158) -/

/-- The link a 4-byte selector names: PORT, HUB_PORT, HUB_ADDR. -/
def Cmd.link (c : Cmd) (o oh oa : Nat) : LinkSel := { port := c.u o 1, hport := c.u oh 1, hub := c.u oa 2 }

/-- The selector breaks R116. -/
def State.badLink (s : State) (l : LinkSel) : Bool :=
  decide (l.port ≥ s.ports) ||
  (if l.hub = 0 then l.hport != 0
   else !(1 ≤ l.hport && l.hport ≤ 15) ||
     (match s.dev l.hub with
      | some h => !h.isHub || h.link.port != l.port
      | none => true))

end Sys2Proof.Machine
end

