-- ==== Sys2Proof/Machine/Alloc.lean ====
section
/-! DEFINITION. The allocator: costs, load maps, placement, handles, requests and its commands (07, R189 to R207, R214,
R215). -/

namespace Sys2Proof.Machine

/-! ### Costs (R190, R191) -/

def State.retryReserve (s : State) : Nat := s.get Fd.SCH_POLICY0_ASSURED_RETRY

/-- Downstream and upstream cost of a service, with retry reserve `r`. -/
def svcCost (typ : Nat) (dirIn : Bool) (w r : Nat) : Nat × Nat :=
  match typ, dirIn with
  | 1, true => (3, w + 5)
  | 1, false => (w + 7, 0)
  | _, true => (4 * (1 + r), (w + 5) * (1 + r))
  | _, false => ((w + 7) * (1 + r), 2 * (1 + r))

def shareCost (c : Nat × Nat) (k : Nat) : Nat := (c.1 + c.2) * 2 ^ (6 - min k 6)

/-- TYPE of the endpoint a grant serves. -/
def State.grantTyp (s : State) (g : Grant) : Nat := match g.gone with
  | some (t, _) => t
  | none => ((s.epDesc (g.key / 16) (g.key % 16)).map (·.typ)).getD 1

def State.grantCost (s : State) (r : Nat) (g : Grant) : Nat × Nat := svcCost (s.grantTyp g) (seaDir g.sea) g.words r

/-! ### Maps (R192 to R194) -/

/-- (DEDUCED, log entry 112.) -/
def bufMap : MapRef := { kind := 4, up := false, num := 0 }
def ctxMap : MapRef := { kind := 5, up := false, num := 0 }

/-- Link budget B under a policy's percentage and tail (R192). -/
def State.linkBudget (s : State) (pct tail : Nat) : Nat := frameWt s.period * pct / 100 - tail

def State.policyB (s : State) : Nat := s.linkBudget (s.get Fd.SCH_POLICY0_PERIODIC_PCT) (s.get Fd.SCH_POLICY0_TAIL_WT)

def State.budget (s : State) (m : MapRef) : Nat :=
  match m.kind with
  | 4 => 131072
  | 5 => s.get Fd.SCH_POLICY1_CTX_PER_FRAME
  | _ => s.policyB

/-- What a service of cost `c` and `w` words adds to a map on its path (R190). -/
def mapCost (m : MapRef) (c : Nat × Nat) (w : Nat) : Nat :=
  match m.kind with
  | 4 => w + 2
  | 5 => 1
  | _ => if m.up then c.2 else c.1

/-- An interval 2^k with a phase charges entry `e` (R193). -/
def chargesAt (k phase e : Nat) : Bool := e % 2 ^ min k 6 == phase % 2 ^ min k 6

/-- The grant charges map `m`; one of a removed device charges those of its path until it leaves (R202). -/
def State.onMap (s : State) (m : MapRef) (g : Grant) : Bool :=
  m.kind == 4 || m.kind == 5 || (match g.gone with
    | some (_, l) => l.contains m.no
    | none => (s.linkMaps (g.key / 16)).contains m)

/-- Load of entry `e` of map `m` under the grants `gs` with retry reserve `r`; a marked entry counts as full. -/
def State.loadOf (s : State) (gs : List Grant) (r : Nat) (m : MapRef) (e : Nat) : Nat :=
  if s.alloc.full.contains (m.no, e) then s.budget m
  else gs.foldl (fun n g =>
    if chargesAt g.k g.phase e && s.onMap m g then n + mapCost m (s.grantCost r g) g.words else n) 0

def State.load (s : State) (m : MapRef) (e : Nat) : Nat := s.loadOf s.alloc.grants s.retryReserve m e

/-- Share used by an instance (R191): its endpoints' placements, system grants apart. -/
def State.shareUsed (s : State) (gs : List Grant) (i : Nat) : Nat :=
  gs.foldl (fun n g =>
    if g.owner = i ∧ ¬ g.system then n + shareCost (s.grantCost s.retryReserve g) g.k else n) 0

/-! ### Placement (R195, R196) -/

/-- What is asked: the endpoint's device and type, the intent, the owner; `gs` are the placements it is judged against. -/
structure Ask where
  addr   : Nat
  typ    : Nat
  dirIn  : Bool
  k      : Nat
  words  : Nat
  minK   : Nat
  owner  : Nat
  system : Bool
  gs     : List Grant
  deriving DecidableEq, Repr

def State.askCost (s : State) (q : Ask) : Nat × Nat := svcCost q.typ q.dirIn q.words s.retryReserve

/-- Entries that phase `g` charges. -/
def entriesAt (k g : Nat) : List Nat := (List.range 64).filter (chargesAt k g)

/-- Loads after placement of map `m` at the entries of phase `g`. -/
def State.after (s : State) (q : Ask) (m : MapRef) (g : Nat) : List Nat :=
  (entriesAt q.k g).map fun e => s.loadOf q.gs s.retryReserve m e + mapCost m (s.askCost q) q.words

def State.fitsAt (s : State) (q : Ask) (g : Nat) : Bool :=
  (s.linkMaps q.addr ++ [bufMap, ctxMap]).all fun m => (s.after q m g).all fun n => decide (n ≤ s.budget m)

def State.shareAfter (s : State) (q : Ask) : Nat := s.shareUsed q.gs q.owner + shareCost (s.askCost q) q.k

/-- The instance's share holds (R191). -/
def State.shareHolds (s : State) (q : Ask) : Bool := q.system || decide (s.shareAfter q ≤ (s.instOf q.owner).share)

/-- Peak and sum of the link loads after placement at a phase. -/
def State.peakTotal (s : State) (q : Ask) (g : Nat) : Nat × Nat :=
  let l := (s.linkMaps q.addr).flatMap fun m => s.after q m g
  (l.foldl max 0, l.foldl (· + ·) 0)

/-- The phase modulo 64 that R195 chooses, `none` if none is admissible. -/
def State.bestPhase (s : State) (q : Ask) : Option Nat :=
  if s.shareHolds q then
    ((List.range (2 ^ min q.k 6)).foldl (fun (b : Option (Nat × Nat × Nat)) g =>
      if s.fitsAt q g then
        let (p, t) := s.peakTotal q g
        match b with
        | none => some (g, p, t)
        | some (g0, p0, t0) => if p < p0 ∨ (p = p0 ∧ t < t0) then some (g, p, t) else some (g0, p0, t0)
      else b) none).map (·.1)
  else none

/-- ALT_K and ALT_WORDS (R196). -/
def State.altK (s : State) (q : Ask) : Nat :=
  (((List.range 13).filter fun k => max (q.k + 1) q.minK ≤ k).find? fun k => (s.bestPhase { q with k := k }).isSome).getD 0xF

def State.altWords (s : State) (q : Ask) : Nat :=
  ((((List.range q.words).filter (1 ≤ ·)).reverse).find? fun w => (s.bestPhase { q with words := w }).isSome).getD 0

/-- An excess as a fraction (numerator, denominator); denominator 0 is larger than any map's (R196). -/
abbrev Excess := Int × Nat

def Excess.less (a b : Excess) : Bool := a.1 * (b.2 : Int) < b.1 * (a.2 : Int)

def Excess.worst (l : List Excess) : Excess := l.foldl (fun a b => if Excess.less a b then b else a) (-1, 1)

def State.shareExcess (s : State) (q : Ask) : Excess :=
  let sh := (s.instOf q.owner).share
  if q.system then (-1, 1)
  else if sh = 0 then (if shareCost (s.askCost q) q.k = 0 then (0, 1) else (1, 0))
  else ((s.shareAfter q : Int) - (sh : Int), sh)

def State.mapExcess (s : State) (q : Ask) (g : Nat) (m : MapRef) : Excess :=
  Excess.worst ((s.after q m g).map fun (n : Nat) => (((n : Int) - (s.budget m : Int), s.budget m) : Excess))

/-- The candidate phase of least worst excess, the lowest on a tie. -/
def State.candidate (s : State) (q : Ask) : Nat :=
  let ms := s.linkMaps q.addr ++ [bufMap, ctxMap]
  let ex (g : Nat) : Excess := Excess.worst (s.shareExcess q :: ms.map (s.mapExcess q g))
  ((List.range (2 ^ min q.k 6)).foldl (fun (b : Option (Nat × Excess)) g =>
    match b with
    | none => some (g, ex g)
    | some (g0, e0) => if Excess.less (ex g) e0 then some (g, ex g) else some (g0, e0)) none).elim 0 (·.1)

/-- The bottleneck (R196): refusal code, BWHAT, BLINK, BPORT, BADDR of the first failing map at the candidate phase. -/
def State.bottleneck (s : State) (q : Ask) : Nat × Nat × Nat × Nat × Nat :=
  let g := s.candidate q
  let fails (m : MapRef) : Bool := !(s.after q m g).all fun n => decide (n ≤ s.budget m)
  let port := ((s.dev q.addr).map (·.link.port)).getD 0
  match (s.linkMaps q.addr ++ [bufMap, ctxMap]).find? fails with
  | some m =>
    match m.kind with
    | 4 => (7, 3, 0, 0, 0)
    | 5 => (8, 4, 0, 0, 0)
    | 1 => (6, if m.up then 2 else 1, 1, port, 0)
    | n => (6, if m.up then 2 else 1, n, port, m.num)
  | none => (9, 5, 0, 0, 0)

/-! ### Judging a request (R197, R201, R203) -/

def AllocReq.empty (op sea : Nat) : AllocReq :=
  { op := op, sea := sea, result := 2, refusal := 0, bwhat := 0, blink := 0, bport := 0, baddr := 0, handle := 0,
    altK := 0xF, altWords := 0, k := 0, phase := 0, words := 0, first := 0, old := 0 }

/-- (DEDUCED, log entry 120.) -/
def refuse (q : AllocReq) (code : Nat) : AllocReq := { q with refusal := code }

/-- Judge an intent that may be judged (R189, R195 to R197). -/
def State.admitAsk (s : State) (base : AllocReq) (q : Ask) (maxWords kmax : Nat) (longer : Bool) : AllocReq :=
  let b := { base with k := q.k }
  if q.k > 12 ∨ q.k < q.minK ∨ (longer ∧ kmax < q.k) then refuse b 4
  else if q.words = 0 ∨ q.words > maxWords then refuse b 5
  else match s.bestPhase q with
    | some g => { b with result := 0, phase := g, words := q.words }
    | none =>
      let ak := s.altK q
      if longer ∧ ak ≤ kmax ∧ ak ≠ 0xF then
        { b with result := 1, k := ak, phase := (s.bestPhase { q with k := ak }).getD 0, words := q.words }
      else
        let (code, what, link, port, addr) := s.bottleneck q
        { b with refusal := code, bwhat := what, blink := link, bport := port, baddr := addr, altK := ak
                 altWords := s.altWords q }

/-- The endpoint an SEA names on this controller: its device and descriptor, direction included. -/
def State.seaEp? (s : State) (sea : Nat) : Option (Device × EpDesc) :=
  if seaCtrl sea ≠ s.ctrlNo then none
  else match s.dev (seaAddr sea), s.epDesc (seaAddr sea) (seaEp sea) with
    | some d, some e => if e.dirIn = seaDir sea then some (d, e) else none
    | _, _ => none

/-- The current grant a handle of the manager names: not a system grant, not leaving. -/
def State.grantOf (s : State) (h : Nat) : Option Grant :=
  s.alloc.grants.find? fun g => g.handle == h && h != 0 && g.leave.isNone && !g.system

/-- Any current grant of the endpoint. -/
def State.grantFor (s : State) (key : Nat) : Option Grant :=
  s.alloc.grants.find? fun g => g.key == key && g.handle != 0

def askOf (d : Device) (e : EpDesc) (addr k words : Nat) (system : Bool) (gs : List Grant) : Ask :=
  { addr := addr, typ := e.typ, dirIn := e.dirIn, k := k, words := words, minK := e.minK, owner := d.owner
    system := system, gs := gs }

def State.judgeGrant (s : State) (sea k words kmax : Nat) (longer system : Bool) (gs : List Grant) : AllocReq :=
  let b := { AllocReq.empty 1 sea with k := k }
  if ¬ system ∧ ¬ s.on Fd.SCH_CTRL_ALLOC_EN then refuse b 12
  else match s.seaEp? sea with
    | none => refuse b 1
    | some (d, e) =>
      if e.typ ≠ 1 ∧ e.typ ≠ 2 then refuse b 2
      else if (s.grantFor (seaKey sea)).isSome then refuse b 3
      else s.admitAsk b (askOf d e (seaAddr sea) k words system gs) e.words kmax longer

def State.judgeModify (s : State) (h k words kmax : Nat) (longer : Bool) : AllocReq :=
  let b := { AllocReq.empty 3 (h % 2 ^ 24) with k := k }
  if ¬ s.on Fd.SCH_CTRL_ALLOC_EN then refuse b 12
  else match s.grantOf h with
    | none => refuse b 10
    | some g =>
      match s.seaEp? g.sea with
      | none => refuse b 10
      | some (d, e) =>
        if ((s.ctx g.key).map (·.state)).getD 0 ≠ 1 then refuse b 11
        else { (s.admitAsk b (askOf d e (seaAddr g.sea) k words false ((s.alloc.grants ++ s.pair.intents).filter (· != g))) e.words kmax longer)
               with old := h }

def State.judgeRelease (s : State) (h : Nat) : AllocReq :=
  let b := AllocReq.empty 2 (h % 2 ^ 24)
  match s.grantOf h with
  | none => refuse b 10
  | some g => { b with result := 3, handle := g.handle, k := g.k, phase := g.phase, words := g.words, old := h }

def State.judgeQuery (s : State) (sea : Nat) : AllocReq :=
  let b := AllocReq.empty 4 sea
  match s.seaEp? sea with
  | none => refuse b 1
  | some _ =>
    match s.grantFor (seaKey sea) with
    | some g => { b with result := 4, handle := g.handle, k := g.k, phase := g.phase, words := g.words, first := g.first }
    | none => { b with result := 5 }

/-- R354: the request is for an endpoint that the partner may cover, and the partner can judge it: one that R195 has judged here, whether
these maps admit it or not. -/
def State.asksPartner (s : State) (q : AllocReq) : Bool :=
  s.paired && s.partnerLinkUp && s.partner == 1 && (decide (q.result ≤ 1) || (q.result == 2 && decide (6 ≤ q.refusal ∧ q.refusal ≤ 9))) &&
  s.dualHomed (seaAddr q.sea)

def State.reqK (s : State) : Nat := s.get Fd.SCH_ALLOC_PARAM_K
def State.reqWords (s : State) : Nat := s.get Fd.SCH_ALLOC_PARAM_WORDS
def State.reqKmax (s : State) : Nat := s.get Fd.SCH_ALLOC_PARAM_KMAX
def State.reqLonger (s : State) : Bool := s.on Fd.SCH_ALLOC_PARAM_TRY_LONGER

/-- The intent that the partner judges (R354). -/
def State.intentOf (s : State) (q : AllocReq) : SaddleMsg :=
  if q.result = 2 then .intent (seaKey q.sea) s.reqK s.reqWords (q.op == 3) else .intent (seaKey q.sea) q.k q.words (q.op == 3)

/-- Start a request of the manager; one that finds another in progress is discarded and counted (R204). -/
def State.startReq (s : State) (q : AllocReq) : State :=
  if s.on Fd.SCH_ALLOC_RESP_BUSY then s.bump Fd.SCH_STATUS_REQ_DROPPED
  else
    let s1 := ({ s with alloc := { s.alloc with req := some q } }).put Fd.SCH_ALLOC_RESP_BUSY 1
    if (q.op = 1 ∨ q.op = 3) ∧ s1.asksPartner q then s1.tellPartner (s1.intentOf q) false
    else s1

/-- R199, R204: SCH_ALLOC_REQ written with OP 1. -/
def execGrantHandle (port : Side) (s : State) : Out :=
  .next (s.hostWriteVia port .manager (s.startReq
    (s.judgeGrant (s.get Fd.SCH_ALLOC_SEA_SEA) s.reqK s.reqWords s.reqKmax s.reqLonger false (s.alloc.grants ++ s.pair.intents))))

/-- R200: OP 2. -/
def execReleaseHandle (port : Side) (s : State) : Out :=
  .next (s.hostWriteVia port .manager (s.startReq (s.judgeRelease (s.get Fd.SCH_ALLOC_HANDLE_HANDLE))))

/-- R201: OP 3. -/
def execModifyHandle (port : Side) (s : State) : Out :=
  .next (s.hostWriteVia port .manager (s.startReq
    (s.judgeModify (s.get Fd.SCH_ALLOC_HANDLE_HANDLE) s.reqK s.reqWords s.reqKmax s.reqLonger)))

/-- R204: OP 4. -/
def execQueryHandle (port : Side) (s : State) : Out :=
  .next (s.hostWriteVia port .manager (s.startReq (s.judgeQuery (s.get Fd.SCH_ALLOC_SEA_SEA))))

/-! ### Granting (R195, R198, R199) -/

/-- First service frame: the first S at or after `c` + 2 with S mod 2^K = PHASE (R199). -/
def firstService (c k phase : Nat) : Nat :=
  let f := (c + 2) % 2 ^ 32
  (f + (phase + 2 ^ k - f % 2 ^ k) % 2 ^ k) % 2 ^ 32

/-- The full phase: for K > 6 the round-robin counter of the root port and phase gives the upper part (R195). -/
def State.fullPhase (s : State) (port k g : Nat) : Nat × State :=
  if k ≤ 6 then (g, s)
  else
    let j := SMap.get (fun _ => 0) s.alloc.rr (port * 64 + g)
    (g + 64 * (j % 2 ^ (k - 6)),
     { s with alloc := { s.alloc with rr := SMap.put (fun _ => 0) (port * 64 + g) ((j + 1) % 64) s.alloc.rr } })

/-- A placement is made in the current frame: SERIAL, handle, maps and context (R198, R199). -/
def State.makeGrant (s : State) (sea k g words : Nat) (system : Bool) : State × Grant :=
  let a := seaAddr sea
  let port := ((s.dev a).map (·.link.port)).getD 0
  let (ph, s1) := s.fullPhase port k g
  let ser := s1.alloc.serial % 255 + 1
  let gr : Grant :=
    { key := seaKey sea, sea := sea, k := k, phase := ph, words := words, handle := ser * 2 ^ 24 + sea, system := system
      owner := ((s.dev a).map (·.owner)).getD 0, first := firstService s.frame k ph, leave := none, close := false, gone := none }
  let s2 := { s1 with alloc := { s1.alloc with serial := ser } }
  if (s2.dev a).isSome then
    let s3 := { s2 with alloc := { s2.alloc with grants := s2.alloc.grants ++ [gr] } }
    ((s3.editCtx gr.key fun c => { c with k := k, phase := ph, intent := words, handle := gr.handle }).showHandles, gr)
  else (s2, gr)

/-- A placement leaves the maps at the tick of frame `f`. -/
def State.leaveAt (s : State) (h f : Nat) (close : Bool) : State :=
  { s with alloc := { s.alloc with grants := s.alloc.grants.map fun g =>
    if g.handle = h then { g with leave := some f, close := close, handle := if close then g.handle else 0 } else g } }

/-- The response registers. -/
def State.postRegs (s : State) (q : AllocReq) : State :=
  let s1 := s.wr Reg.SCH_ALLOC_RESP (BitVec.ofNat 32
    (2 ^ 30 + q.result * 2 ^ 27 + q.refusal * 2 ^ 23 + q.bwhat * 2 ^ 20 + q.blink * 2 ^ 18 + q.bport * 2 ^ 15 + q.baddr))
  let alt := if q.result = 2 then q.altWords else q.words
  (((s1.put Fd.SCH_ALLOC_GRANT_HANDLE q.handle).wr Reg.SCH_ALLOC_PLACE
    (BitVec.ofNat 32 (q.altK * 2 ^ 28 + alt * 2 ^ 16 + q.k * 2 ^ 12 + q.phase))).put Fd.SCH_ALLOC_FIRST_FIRST q.first)

/-- ALT_K and ALT_WORDS of this controller's own maps for a request that it has judged (R196). -/
def State.ownAlt (s : State) (q : AllocReq) : Nat × Nat :=
  if q.result = 2 then (q.altK, q.altWords)
  else match s.seaEp? q.sea with
    | some (d, e) =>
      let a := askOf d e (seaAddr q.sea) q.k q.words false ((s.alloc.grants ++ s.pair.intents).filter fun g => q.op != 3 || g.key != seaKey q.sea)
      (s.altK a, s.altWords a)
    | none => (0xF, 0)

/-- The answer of the partner to an intent (R354): an interval or a length is an alternative where both maps take it, so the longer interval and
the shorter length stand; of two refusals this controller's own names the bottleneck. ALLOC_PARTNER: whether the last refusal lay on the
partner. (DEDUCED, log entry 273.) -/
def State.partnerSays (s : State) (q : AllocReq) (ans : Option PartnerRefusal) : AllocReq × State :=
  match (if s.asksPartner q ∧ (q.op = 1 ∨ q.op = 3) then ans else none) with
  | some r =>
    let alt := s.ownAlt q
    let q1 := { q with altK := max alt.1 r.altK, altWords := min alt.2 r.altWords }
    if q.result = 2 then (q1, s.put Fd.PAR_STATUS_ALLOC_PARTNER 0)
    else
      ({ q1 with result := 2, refusal := r.code, bwhat := r.bwhat, blink := r.blink, bport := r.bport, baddr := r.baddr },
       s.put Fd.PAR_STATUS_ALLOC_PARTNER 1)
  | none => (q, if q.result = 2 then s.put Fd.PAR_STATUS_ALLOC_PARTNER 0 else s)

/-- R200, R201: at the tick of frame c + 2 placements that leave go; a released one's HANDLE becomes 0 and a bound entry is
closed with DETAIL 3. -/
def State.handleEffects (s : State) : State :=
  let due (g : Grant) : Bool := match g.leave with
    | some f => decide (since32 s.frame f < 2 ^ 31)
    | none => false
  let go := s.alloc.grants.filter due
  let s1 := { s with alloc := { s.alloc with grants := s.alloc.grants.filter fun g => !due g } }
  (go.foldl (fun t g =>
    if g.close then (t.editCtx g.key fun c => { c with handle := 0 }).closeBound g.key 7 7 3 else t) s1).showHandles

def execHandleReleaseEffect (s : State) : Out := .next s.handleEffects

/-- R206: addresses freed 64 frames ago become assignable. -/
def execAddressHoldbackExpiry (s : State) : Out :=
  .next { s with alloc := { s.alloc with held := s.alloc.held.filter fun x => since32 s.frame x.2 < 64 } }

/-- The lowest address in the window neither in use nor held back (R205); `busy` are addresses of enumerations under way. -/
def State.freeAddr (s : State) (busy : List Nat) : Option Nat :=
  let lo := s.get Fd.SCH_ADDR_WINDOW_LO
  let hi := s.get Fd.SCH_ADDR_WINDOW_HI
  ((List.range (hi + 1 - lo)).map (lo + ·)).find? fun a =>
    (s.dev a).isNone && !(s.alloc.held.any fun x => x.1 == a && decide (since32 s.frame x.2 < 64)) && !busy.contains a

/-- The system grant of a hub's EP1 (R202): K = 4, WORDS = 1. `none` if it is refused. -/
def State.systemGrant (s : State) (a : Nat) : Option State :=
  let sea := seaOf true s.ctrlNo a 1
  let q := s.judgeGrant sea 4 1 0 false true s.alloc.grants
  if q.result = 0 then some (s.makeGrant sea q.k q.phase q.words true).1 else none

/-! ### Policy commands (R215) -/

/-- The 16 bytes of the policy in force. -/
def State.policyBytes (s : State) : List Byte :=
  let pin := s.get Fd.SCH_POLICY0_PIN_K
  leBytes 1 (s.get Fd.SCH_POLICY0_PERIODIC_PCT) ++ leBytes 1 s.retryReserve ++ leBytes 2 (s.get Fd.SCH_POLICY0_TAIL_WT) ++
    leBytes 1 (if pin = 0xF then 0xFF else pin) ++ zeros 1 ++ leBytes 2 (s.get Fd.SCH_POLICY0_PAGER_READS) ++
    leBytes 2 (s.get Fd.SCH_POLICY1_PIN_LIMIT) ++ leBytes 2 (s.get Fd.SCH_POLICY1_CTX_PER_FRAME) ++ zeros 4

/-- The policy registers take 16 bytes of ALLOC_SET_POLICY. -/
def State.setPolicy (s : State) (b : List Byte) : State :=
  let s1 := ((((s.put Fd.SCH_POLICY0_PERIODIC_PCT (leAt b 0 1)).put Fd.SCH_POLICY0_ASSURED_RETRY (leAt b 1 1)).put
    Fd.SCH_POLICY0_TAIL_WT (leAt b 2 2)).put Fd.SCH_POLICY0_PIN_K (min (leAt b 4 1) 0xF)).put
    Fd.SCH_POLICY0_PAGER_READS (leAt b 6 2)
  (s1.put Fd.SCH_POLICY1_PIN_LIMIT (leAt b 8 2)).put Fd.SCH_POLICY1_CTX_PER_FRAME (leAt b 10 2)

def State.badPolicy (s : State) (b : List Byte) : Bool :=
  let n (o w : Nat) := leAt b o w
  decide (n 0 1 < 50 ∨ n 0 1 > 80 ∨ n 1 1 > 3 ∨ n 2 2 < 64 ∨ n 2 2 > 512 ∨ (n 4 1 > 12 ∧ n 4 1 ≠ 0xFF) ∨ n 6 2 < 16 ∨
    n 6 2 > 128 ∨ (n 6 2 > 64 ∧ s.boot.barPort = .h1) ∨ n 8 2 > 32768 ∨ n 10 2 < 1024 ∨ n 10 2 > 16384)

/-- Every map that exists: root links, hub links, leaf links, frame buffer, contexts. -/
def State.allMaps (s : State) : List MapRef :=
  (s.portList.flatMap fun p => [{ kind := 1, up := false, num := p }, { kind := 1, up := true, num := p }]) ++
  (s.devices.flatMap fun x =>
    if x.2.tier < 2 then []
    else let k := if x.2.isHub then 2 else 3
         [{ kind := k, up := false, num := x.1 }, { kind := k, up := true, num := x.1 }]) ++ [bufMap, ctxMap]

/-- Some map entry exceeds its new budget, recomputed with the new ASSURED_RETRY. -/
def State.policyOver (s : State) (b : List Byte) : Bool :=
  let t := s.setPolicy b
  t.allMaps.any fun m => (List.range 64).any fun e => decide (t.load m e > t.budget m)

def State.explPins (s : State) : Nat :=
  (s.pager.ctxs.filter fun x => match x.2 with
    | some e => e.explPin
    | none => false).length

/-- Automatic pins above the limit are released, the most recent first. -/
def State.trimPins (s : State) : Nat → State
  | 0 => s
  | n + 1 =>
    if s.pinnedCount ≤ s.get Fd.SCH_POLICY1_PIN_LIMIT then s
    else
      let newest := s.pager.ctxs.foldl (fun (b : Option (Nat × Nat)) x => match x.2 with
        | some e =>
          if e.autoPin ∧ ¬ e.explPin then
            (match b with
              | none => some (x.1, e.pinAt)
              | some (k, f) => if since32 s.frame e.pinAt ≤ since32 s.frame f then some (x.1, e.pinAt) else some (k, f))
          else b
        | none => b) none
      match newest with
      | some (k, _) =>
        match s.ctxEnt k with
        | some e => (s.putCtxEnt k (some { e with autoPin := false })).trimPins n
        | none => s
      | none => s

def execAllocGetPolicy (id : Nat) (s : State) : Out := .next (s.run id 0x0201 fun c => s.okay c s.policyBytes)

/-- Contexts that ADDR and EP_MASK name; `none` if one does not exist. -/
def State.maskKeys (s : State) (a mask : Nat) : Option (List Nat) :=
  let eps := (List.range 16).filter fun e => bitAt mask e
  if (s.dev a).isSome ∧ eps.all fun e => (s.epDesc a e).isSome then some (eps.map fun e => a * 16 + e) else none

/-- PINNED of the responses. -/
def State.pinBytes (s : State) : List Byte := leBytes 2 s.pinnedCount ++ zeros 2

/-- ALLOC_PIN_CONTEXTS: the named contexts are pinned; those that are not cached are paged in, and the command completes OK
at the tick after every one is cached (the tick ends it, R215). -/
def execAllocPinContexts (id : Nat) (s : State) : Out :=
  .next (s.run id 0x0202 fun c =>
    match s.maskKeys (c.u 0 2) (c.u 2 2) with
    | none => s.finish c ST.invalid 0 []
    | some ks =>
      let fresh := ks.filter fun k => match s.ctxEnt k with
        | some e => !(e.autoPin || e.explPin)
        | none => false
      if s.pinnedCount + fresh.length > s.get Fd.SCH_POLICY1_PIN_LIMIT then s.finish c ST.noResource 0 []
      else
        let s1 := foldN (fun t k => match t.ctxEnt k with
          | some e =>
            let t1 := t.putCtxEnt k (some { e with explPin := true })
            if e.st = .free then { t1 with pager := { t1.pager with issue := t1.pager.issue ++ [k] } } else t1
          | none => t) s ks
        ({ s1 with alloc := { s1.alloc with pinCmds := s1.alloc.pinCmds ++ [(c.id, ks)] } }).showCache.begin c)

/-- The context is in the cache, in whatever STATE (R208). -/
def State.ctxCached (s : State) (k : Nat) : Bool := match s.ctxEnt k with
  | some e => e.st == .clean || e.st == .dirty
  | none => false

/-- The pin commands whose contexts are all cached complete. -/
def State.finishPins (s : State) : State :=
  s.alloc.pinCmds.foldl (fun t x =>
    if x.2.all fun k => t.ctxCached k then
      let t1 := { t with alloc := { t.alloc with pinCmds := t.alloc.pinCmds.filter fun y => y.1 != x.1 } }
      match t1.findCmd x.1 with
      | some c => t1.okay c t1.pinBytes
      | none => t1
    else t) s

def execAllocUnpinContexts (id : Nat) (s : State) : Out :=
  .next (s.run id 0x0203 fun c =>
    match s.maskKeys (c.u 0 2) (c.u 2 2) with
    | none => s.finish c ST.invalid 0 []
    | some ks =>
      let s1 := foldN (fun t k => match t.ctxEnt k with
        | some e => t.putCtxEnt k (some { e with explPin := false })
        | none => t) s ks
      s1.showCache.okay c s1.pinBytes)

/-- The map that ALLOC_GET_LOAD names. -/
def State.askedMap (s : State) (c : Cmd) : Option MapRef :=
  match c.u 1 1 with
  | 2 => some bufMap
  | 3 => some ctxMap
  | n =>
    let up := n == 1
    let h := c.u 2 2
    if n > 3 ∨ c.u 0 1 ≥ s.ports then none
    else if h = 0 then some { kind := 1, up := up, num := c.u 0 1 }
    else match s.dev h with
      | some d =>
        if d.isHub ∧ d.link.port = c.u 0 1 then
          some (if d.tier = 1 then { kind := 1, up := up, num := c.u 0 1 } else { kind := 2, up := up, num := h })
        else none
      | none => none

def execAllocGetLoad (id : Nat) (s : State) : Out :=
  .next (s.run id 0x0204 fun c =>
    match s.askedMap c with
    | none => s.finish c ST.invalid 0 []
    | some m =>
      let l := (List.range 64).map (s.load m)
      s.okay c (leBytes 4 (s.budget m) ++ leBytes 4 (l.foldl max 0) ++ l.flatMap (leBytes 3)))

end Sys2Proof.Machine
end

