-- ==== Sys2Proof/Machine/RegOps.lean ====
section
/-! DEFINITION. What a host write does to a register's stored fields (00_scope.md, R7 to R10). -/

namespace Sys2Proof.Machine

/-- The value writes an encoding that the register's table marks as reserved: the whole write is ineffective (R9). -/
def RegDesc.refuses (d : RegDesc) (v : Nat) : Bool :=
  d.rsv.any fun r => decide (r.2.2.1 ≤ bits (BitVec.ofNat 32 v) r.1 r.2.1 ∧ bits (BitVec.ofNat 32 v) r.1 r.2.1 ≤ r.2.2.2)

/-- The word after a write of `v`: RW fields take it, 1s clear W1C bits, every other field stands (R7). -/
def RegDesc.store (d : RegDesc) (old : Word) (v : Nat) : Word :=
  let w := BitVec.ofNat 32 v
  let rw := BitVec.ofNat 32 d.rw
  ((old &&& ~~~ rw) ||| (w &&& rw)) &&& ~~~ (w &&& BitVec.ofNat 32 d.w1c)

/-- The write is effective on the register at `a`. -/
def writable (a v : Nat) : Bool := match regDesc a with
  | some d => !d.refuses v
  | none => false

/-- An effective write stores the register's RW and W1C fields; the register's own effect is the caller's. -/
def State.storeReg (s : State) (a v : Nat) : State := match regDesc a with
  | some d => if d.refuses v then s else s.wr a (d.store (s.rd a) v)
  | none => s

/-! ### Staged fields (R15) -/

/-- `new`'s RW fields over the rest of `old`. -/
def RegDesc.mergeRw (d : RegDesc) (old new : Word) : Word :=
  let rw := BitVec.ofNat 32 d.rw
  (old &&& ~~~ rw) ||| (new &&& rw)

/-- The word a host sees at `a`: RW fields as last written, in effect or not (R7). -/
def State.shown (s : State) (a : Nat) : Word :=
  match SMap.get (fun _ => none) s.staged a, regDesc a with
  | some w, some d => d.mergeRw (s.rd a) w
  | _, _ => s.rd a

/-- RW fields take effect at the next tick (R15) but where their chapter says otherwise: DMA, EVQ and PPW registers act at once (R243,
R306, R332), the SCH_ALLOC registers follow R204, and the registers of an instance's page but its MBX_CTRL are its own or of those
blocks. LNK_CTRL and TIM_CTRL keep the value in effect beside the register. -/
def isStaged (a : Nat) : Bool :=
  let b := a / 0x10000
  if b ≥ 16 then a % 0x10000 == 0x80C
  else if b == 2 then a != Reg.TIM_CTRL
  else if b == 3 then a % 0x1000 != 0
  else if b == 5 then !(decide (Reg.SCH_ALLOC_SEA ≤ a) && decide (a ≤ Reg.SCH_ALLOC_REQ))
  else !(b == 7 || b == 10 || b == 11)

/-- An effective host write: W1C fields act at once; RW fields too, or at the next tick where they are staged. -/
def State.hostStore (s : State) (a v : Nat) : State := match regDesc a with
  | some d =>
    if d.refuses v then s
    else if isStaged a ∧ d.rw ≠ 0 then
      let w := BitVec.ofNat 32 v
      let s1 := s.wr a (s.rd a &&& ~~~ (w &&& BitVec.ofNat 32 d.w1c))
      { s1 with staged := SMap.put (fun _ => none) a (some (d.mergeRw 0 w)) s1.staged }
    else s.wr a (d.store (s.rd a) v)
  | none => s

/-- At a tick the staged fields take effect; a level that rises with its enable is an occurrence (R15, R290). -/
def State.applyStaged (s : State) : State :=
  let one (t : State) (x : Nat × Option Word) : State := match regDesc x.1, x.2 with
    | some d, some w => t.wr x.1 (d.mergeRw (t.rd x.1) w)
    | _, _ => t
  let s1 := { s.staged.foldl one s with staged := [] }
  foldN (fun t n => State.levelRise s t n) s1 ((List.range 19).map (· + 8))

end Sys2Proof.Machine
end

