-- ==== Sys2Proof/Machine/Time.lean ====
section
/-! DEFINITION. System time, the frame's instants, the PPS discipline and the RTC (03_frame_and_time.md). The frame's
composite commands (FRAME_TICK, COL_START, HARD_STOP) stand in Machine/Tick.lean and call the pieces here. -/

namespace Sys2Proof.Machine

/-! ### Instants -/

/-- Core cycles until SYSTIME is at or beyond `b` ns; 0 if it is already. -/
def State.cyclesTo (s : State) (b : Nat) : Nat :=
  let d := (b * nsUnit + sysWrap - s.time.sys) % sysWrap
  let plain (x : Nat) : Nat := (x + s.sysStep - 1) / s.sysStep
  if d > sysWrap / 2 then 0
  else if s.time.slew > 0 then
    let n := (d + 5 * nsUnit - 1) / (5 * nsUnit)
    if n < s.slewCycles then n else plain (d - s.time.slew.toNat)
  else if d = 0 then 0 else plain (d + s.time.slew.natAbs)

/-- Nanoseconds of SYSTIME taken modulo its wrap. -/
def nsWrap (i : Int) : Nat := (i % (2 ^ 32 * 1000000000 : Int)).toNat

/-- The boundary after the current one (R65). -/
def State.nextBoundary (s : State) : Nat := nsWrap (s.time.boundary + periodNs s.period : Nat)

def State.setTime (s : State) (t : Time) : State := { s with time := t }

/-! ### Discipline states (R80) -/

def State.disc (s : State) : Discipline := s.time.disc
def State.setDisc (s : State) (d : Discipline) : State := { s with time := { s.time with disc := d } }

/-- State code of R80: 0 FREE, 1 ACQUIRE, 2 LOCKED, 3 HOLDOVER, 4 FOLLOW. -/
def State.discState (s : State) : Nat := s.get Fd.TIM_STATUS_STATE
def State.setDiscState (s : State) (n : Nat) : State := s.put Fd.TIM_STATUS_STATE n

def State.slewing (s : State) : Bool := s.on Fd.TIM_STATUS_SLEWING

/-- e of the last accepted edge. -/
def State.lastErr (s : State) : Int := toSigned 32 (s.get Fd.TIM_PPS_ERR_ERR)

/-- TIM_UNCERT (R82, R87, R349). HOLDOVER entered from FOLLOW grows as that entered from LOCKED does (DEDUCED, log entry 50). R82 gives
no rounding: the time since the last accepted edge and HO_PPB times it are taken down to whole ns (DESIGN CHOICE, log entry 231). -/
def State.uncert (s : State) : Nat :=
  let d := s.disc
  let top := 0xFFFFFFFF
  if s.discState = 4 then min s.pair.base top
  else if s.on Fd.TIM_STATUS_TIME_ESTIMATED then min d.uncertBase top
  else match s.discState with
    | 2 => min (s.lastErr.natAbs + 10) top
    | 3 =>
      if s.pair.holds then min (s.pair.base + d.hoPpb * ((s.time.cyc - s.pair.lastMsg) * 5 / 2) / 1000000000) top
      else if d.hoFromLocked then
        let gone := (s.time.cyc - d.lastAcc.getD s.time.cyc) * 5 / 2
        min (s.lastErr.natAbs + 10 + d.hoPpb * gone / 1000000000) top
      else top
    | _ => top

/-! ### Corrections (R73) -/

/-- Nearest integer to `a / b`; an exact half as the implementation fixes it. -/
def roundDiv (a : Int) (b : Nat) : Int :=
  let q := a / (b : Int)
  let r := a % (b : Int)
  if 2 * r < (b : Int) then q
  else if 2 * r > (b : Int) then q + 1
  else if Config.roundHalfUp (2 * q + 1) then q + 1 else q

/-- k of the split D = k × period + r with |r| at most half a period (R73). -/
def splitWhole (d : Int) (p : Nat) : Int :=
  let q := d / (p : Int)
  let r := d % (p : Int)
  if 2 * r < (p : Int) then q
  else if 2 * r > (p : Int) then q + 1
  else if Config.splitHalfUp d then q + 1 else q

/-- The whole-period part is added at the tick: boundary and stamp move with SYSTIME, no tick moves and FRAME_NO does not
change; JUMPED, the event and the record (R73). -/
def State.applyWhole (s : State) (k : Int) : State :=
  if k = 0 then s
  else
    let ns := k * (periodNs s.period : Int)
    let t := s.time
    let s1 := s.setTime { t with
      sys := ((t.sys + ns * nsUnit) % sysWrap).toNat
      boundary := nsWrap (t.boundary + ns)
      stamp := ((t.stamp + ns * nsUnit) % sysWrap).toNat
      calBad := true
      jumps := t.jumps + 1 }
    let k32 := ofSigned 32 k
    ((s1.put Fd.TIM_STATUS_JUMPED 1).occur 3 k32).raiseCairn 3 1 k32

/-- A correction of `d` ns begins at this tick and replaces every part not yet applied. -/
def State.startCorrection (s : State) (d : Int) : State :=
  let p := periodNs s.period
  let k := splitWhole d p
  let r := d - k * (p : Int)
  let s1 := s.applyWhole k
  let s2 := s1.setTime { s1.time with corrResid := r, calBad := s1.time.calBad || r != 0 }
  s2.put Fd.TIM_STATUS_SLEWING (b2n (r != 0))

/-- The part of the earlier correction not yet applied. -/
def State.corrLeft (s : State) : Int := s.time.corrResid

/-- The most a frame's Col slews: COL_LEN ÷ 2 (R73). -/
def slewMax (code : Nat) : Nat := 1250 * 2 ^ code

/-- The share of the residual that the current frame carries. -/
def State.frameShare (s : State) : Int :=
  clampInt s.time.corrResid (-(slewMax s.period : Int)) (slewMax s.period)

/-- The word time of a frame's start of Col: L − COL_LEN − S, earlier by a forward share, whose word times are taken up to whole ones, as
R67 fixes every region in whole word times (R68, R73; DESIGN CHOICE, log entry 234). -/
def State.colStartWt (s : State) : Nat :=
  frameWt s.period - colLenWt s.period - steerWt s.period - (s.frameShare.toNat * 2 + 24) / 25

/-- The frame's regions are fixed: nothing moves the start of Col after its tick (R67). -/
def State.fixCol (s : State) : State := s.setTime { s.time with colWt := s.colStartWt }

/-- Advance to a core cycle counted from the tick, if it has not passed. -/
def State.advanceTo (s : State) (c : Nat) : State := s.advance (s.time.tickCyc + c - s.time.cyc)

/-- The slew of the frame's share begins: as core cycles pass, SYSTIME runs at 5 ns or 0 ns per cycle until the share is applied
(R73, State.advance). (DEDUCED, log entry 59.) -/
def State.slewShare (s : State) : State :=
  let d := s.frameShare
  s.setTime { s.time with corrResid := s.time.corrResid - d, share := d, slew := d * nsUnit }

/-- Word times from this frame's tick to the next: fewer by a forward share, more by a backward one, whether its slew is to come, under way or
over (R70, R73). -/
def State.frameEndWt (s : State) : Nat :=
  let t := if s.time.phase = .running then s.slewShare else s
  (s.time.cyc - s.time.tickCyc + t.cyclesTo s.nextBoundary) / 5

/-- R70: the hard stop, 16 wt before the next tick, in word times from the tick. -/
def State.stopWt (s : State) : Nat := s.frameEndWt - 16

/-- The time part of COL_START. -/
def State.colTime (s : State) : State :=
  let s1 := s.advanceTo (s.time.colWt * 5)
  let s2 := s1.setTime { s1.time with phase := .col }
  s2.slewShare

/-- The time part of HARD_STOP: 16 wt before the next tick (R70). -/
def State.hardStopTime (s : State) : State :=
  let n := s.cyclesTo s.nextBoundary - 80
  let s1 := s.advance n
  s1.setTime { s1.time with phase := .stopped }

/-- R73: the last share is complete; the time that its slew still takes passes. -/
def execSlewComplete (s : State) : Out :=
  if s.slewing ∧ s.time.corrResid = 0 then .next ((s.advance s.slewCycles).put Fd.TIM_STATUS_SLEWING 0) else .next s

/-! ### The tick (R65, R66, R73, R81, R83) -/

/-- A full TIME_SET commits at this tick in FREE or ACQUIRE: a pending loop update is discarded (Races). (DEDUCED, log entry 66.) -/
def State.fullSetDue (s : State) : Bool :=
  (s.discState == 0 || s.discState == 1) &&
  s.mbx.taken.any fun c =>
    c.opcode == 0x0400 && s.due c && !c.begun && c.u 0 1 == 1 && decide (c.u 8 4 ≤ 999999999)

/-- What waits for the tick takes effect: the rate and the correction of a loop update, or nothing of it. -/
def State.tickUpdate (s : State) : State :=
  let t := s.time
  if s.fullSetDue then
    let d := if t.rateNext.isSome then { t.disc with integ := t.disc.integPrev, acqCount := 0 }
             else { t.disc with acqCount := 0 }
    s.setTime { t with rateNext := none, corrReq := none, disc := d }
  else
    let s1 := s.setTime { t with rateNext := none, corrReq := none }
    let s2 := match t.rateNext with
      | some r => s1.put Fd.TIM_RATE_RATE (ofSigned 32 r)
      | none => s1
    match t.corrReq with
    | some (false, d) =>
      let s3 := s2.startCorrection d
      s3.setTime { s3.time with loopCorr := true }
    | some (true, d) => s2.startCorrection (d + s2.corrLeft)
    | none => s2

/-- The time part of FRAME_TICK: FRAME_NO, boundary, stamp, staged TIM_CTRL, corrections, FRAME_OUT and PPS_OUT. Where a whole-period
correction falls on the tick, PPS_OUT rises by NS of the boundary as it was before the correction (DESIGN CHOICE, log entry 232). The frames
after sleep entry age the last accepted edge at the wake, once (State.reconstruct). -/
def State.tickTime (s : State) : State :=
  let b := if s.time.started ∨ s.time.counting ∨ s.time.waitTick then s.nextBoundary
           else ((s.nowNsAll + periodNs s.period - 1) / periodNs s.period) * periodNs s.period
  let s1 := s.advance (s.cyclesTo b)
  let t := s1.time
  let n := if t.started ∨ t.counting ∨ t.waitTick then (t.frameNo + 1) % 2 ^ 32 else 0
  let ctrl := s1.rd Reg.TIM_CTRL
  let pps := Fd.TIM_CTRL_PPS_OUT_EN.ex ctrl = 1 ∧ b % 1000000000 = 0
  let t1 := { t with
    boundary := b, stamp := t.sys, tickCyc := t.cyc, frameNo := n, started := true, counting := false, waitTick := false
    phase := .running, overrunNow := false, share := 0, loopCorr := false, ctrlEff := ctrl
    frameOut := t.frameOut || Fd.TIM_CTRL_FRAME_OUT_EN.ex ctrl == 1
    ppsOut := if pps then true else t.ppsOut
    ppsFall := if pps then some ((n + Fd.TIM_CTRL_PPS_WIDTH.ex ctrl) % 2 ^ 32) else t.ppsFall
    calBad := t.calBad || s1.slewing
    disc := if s1.boot.stage = .asleep then t.disc else { t.disc with accAge := t.disc.accAge.map fun a => min (a + 1) 0xFFFFFFFF } }
  (s1.setTime t1).tickUpdate.fixCol

/-- R66: while ticks are suspended, FRAME_NO counts the boundary that SYSTIME passes. -/
def execSuspendedBoundary (s : State) : Out :=
  if ¬ s.time.ticking ∧ s.time.counting then
    let b := s.nextBoundary
    let s1 := s.advance (s.cyclesTo b)
    let d := s1.disc
    .next (s1.setTime { s1.time with
      boundary := b, frameNo := (s1.time.frameNo + 1) % 2 ^ 32
      disc := { d with accAge := d.accAge.map fun a => min (a + 1) 0xFFFFFFFF } })
  else .next s

/-- R83: FRAME_OUT falls 200 ns after the boundary. -/
def execFrameOutFall (s : State) : Out :=
  if s.time.frameOut then
    let s1 := s.advanceTo 80
    .next (s1.setTime { s1.time with frameOut := false })
  else .next s

/-- R83: PPS_OUT falls PPS_WIDTH frames after it rose. -/
def execPpsOutFall (s : State) : Out :=
  match s.time.ppsFall with
  | some f =>
    if since32 s.frame f < 2 ^ 31 then .next (s.setTime { s.time with ppsOut := false, ppsFall := none }) else .next s
  | none => .next s

/-! ### PPS discipline (R79 to R82) -/

/-- Limits of R72 and the conversion of R81: a rate in 1/1024 ppb to units of 2^-32 ns per core cycle. -/
def rateUnits (x : Int) : Int := clampInt (roundDiv (x * 107374) 10240000) (-2684354) 2684354

def State.setRate (s : State) (r : Int) : State := s.put Fd.TIM_RATE_RATE (ofSigned 32 r)

/-- Spans on the core clock, in core cycles: 0.5 s, 0.999 s, 1.001 s, 1.1 s (R79, R80). -/
def glitchCyc : Nat := 200000000
def acqLoCyc : Nat := 399600000
def acqHiCyc : Nat := 400400000
def holdCyc : Nat := 440000000

/-- The start instant of R80's 1.1 s. -/
def Discipline.start (d : Discipline) : Nat := max d.entry (d.lastAcc.getD 0)

/-- 1.1 s have passed since the start instant in ACQUIRE or LOCKED. -/
def State.holdDue (s : State) : Bool :=
  (s.discState == 1 || s.discState == 2) && decide (s.time.cyc ≥ s.disc.start + holdCyc)

/-- The loop enters HOLDOVER: TIM_RATE is held at −integ, the event is raised (R80, R81). (DEDUCED, log entry 64.) -/
def State.enterHoldover (s : State) : State :=
  let s1 := s.setDisc { s.disc with hoFromLocked := s.discState == 2, entry := s.time.cyc }
  ((s1.setDiscState 3).setRate (rateUnits (-s.disc.integ))).occur 4 0

/-- R80: 1.1 s after the start instant without an accepted edge. -/
def execHoldoverEntry (dt : Nat) (s : State) : Out :=
  let s1 := s.advance dt
  if s1.holdDue then .next s1.enterHoldover else .next s1

/-- The phase error of an edge seen now (R79). (DEDUCED, log entry 61.) -/
def State.phaseErr (s : State) : Int :=
  let delay := toSigned 16 (s.get Fd.TIM_PPS_CTRL_DELAY)
  let x := ((s.nowNsAll : Int) - 5 - delay) % 1000000000
  if x > 500000000 then x - 1000000000 else x

/-- Enter ACQUIRE; `prev` is the edge that counts as the previous judged edge. -/
def State.enterAcquire (s : State) (prev : Option Nat) : State :=
  (s.setDisc { s.disc with acqCount := 0, judged := prev, entry := s.time.cyc, rejErrs := [] }).setDiscState 1

/-- A rejected edge (R79, R80). -/
def State.rejectEdge (s : State) (e : Int) : State :=
  let s1 := s.bump Fd.TIM_PPS_COUNT_REJECTED
  let d := s1.disc
  let errs := (e :: d.rejErrs).take 8
  let s2 := s1.setDisc { d with acqCount := 0, rejErrs := errs, rejTotal := min (d.rejTotal + 1) 0xFFFFFFFF }
  let lo := errs.foldl min e
  let hi := errs.foldl max e
  if s2.discState = 3 ∧ d.hoFromLocked ∧ errs.length = 8 ∧ hi - lo ≤ 1000 then s2.enterAcquire none else s2

/-- The loop update (R81), in the state in which the edge leaves the loop. -/
def State.loopUpdate (s : State) (e : Int) : State :=
  let d := s.disc
  if s.discState = 1 ∧ e.natAbs > 1000 then
    s.setTime { s.time with
      corrReq := some (false, -e), disc := { d with acqCount := 0 } }
  else
    let run := if e.natAbs ≤ 100 then d.acqCount + 1 else 0
    let locks := s.discState = 1 ∧ run ≥ 16
    let s1 := if locks then s.setDiscState 2 else s
    let acq := s1.discState = 1
    let kp : Int := if acq then 256 else 64
    let ki : Int := if acq then 16 else 1
    let integ := d.integ + ki * e
    let entry := if locks then s.time.cyc else d.entry
    let d1 := { d with integ := integ, integPrev := d.integ, acqCount := if acq then run else 0, entry := entry }
    s1.setTime { s1.time with rateNext := some (rateUnits (-(integ + kp * e))), disc := d1 }

/-- An accepted edge (R80, R81, R87). The spec does not say whether the edge that returns HOLDOVER to ACQUIRE counts there: it is the
previous judged edge of the new ACQUIRE, and the first of the 16 where |e| is at most 100 ns (DESIGN CHOICE, log entry 230). -/
def State.acceptEdge (s : State) (e : Int) : State :=
  let s1 := ((s.bump Fd.TIM_PPS_COUNT_ACCEPTED).put Fd.TIM_PPS_ERR_ERR (ofSigned 32 e)).put Fd.TIM_STATUS_TIME_ESTIMATED 0
  let d := s1.disc
  let s2 := s1.setDisc { d with
    lastAcc := some s.time.cyc, rejErrs := [], accTotal := min (d.accTotal + 1) 0xFFFFFFFF, accAge := some 0 }
  let s3 :=
    if s2.discState = 3 then
      (if d.hoFromLocked ∧ e.natAbs ≤ s.get Fd.TIM_PPS_WINDOW_WINDOW then
        (s2.setDiscState 2).setDisc { s2.disc with entry := s.time.cyc }
       else s2.enterAcquire (some s.time.cyc))
    else s2
  s3.loopUpdate e

/-- The acceptance rule of the state (R80). -/
def State.edgeGood (s : State) (e : Int) : Bool :=
  let d := s.disc
  let w := s.get Fd.TIM_PPS_WINDOW_WINDOW
  let byAcq := match d.judged with
    | none => true
    | some j => decide (acqLoCyc ≤ s.time.cyc - j ∧ s.time.cyc - j < acqHiCyc)
  match s.discState with
  | 1 => byAcq
  | 2 => decide (e.natAbs ≤ w)
  | 3 => if d.hoFromLocked then decide (e.natAbs ≤ max w s.uncert) else byAcq
  | _ => false

/-- PPS_OUTLIER adds P0 to e of the next P1 edges that are used, and ends with the last of them (R402). (DEDUCED, log entry 73.) -/
def State.ppsShift (s : State) : Int × State :=
  match s.scree.inj 8 with
  | some i =>
    let x := if i.left ≤ 1 then s.endInj 8
             else { s with scree := { s.scree with injs := s.scree.injs.map fun j =>
                      if j.kind = 8 then { j with left := j.left - 1 } else j } }
    (toSigned 32 i.p0, x)
  | none => (0, s)

/-- Judge an edge that is used. (DEDUCED, log entry 63.) -/
def State.judgeEdge (s : State) : State :=
  let s0 := if s.holdDue then s.enterHoldover else s
  let sh := s0.ppsShift
  let s1 := sh.2
  let e := s0.phaseErr + sh.1
  let glitch := match s1.disc.lastAcc with
    | some c => decide (s1.time.cyc < c + glitchCyc)
    | none => false
  if glitch then s1.rejectEdge e
  else
    let s2 := s1.setDisc { s1.disc with judged := some s1.time.cyc }
    if s1.edgeGood e then s2.acceptEdge e else s2.rejectEdge e

/-- R79, R80: an edge on PPS_IN whose core cycle, after the synchroniser, is `dt` cycles on. Edges of the other polarity,
with PPS disabled, in FOLLOW, while SLEWING is 1 and before the first tick after a reconstruction are not used. (DEDUCED, log entry 68.) -/
def execPpsEdge (dt : Nat) (falling : Bool) (s : State) : Out :=
  let s1 := s.advance dt
  if s1.on Fd.TIM_PPS_CTRL_EN ∧ falling = s1.on Fd.TIM_PPS_CTRL_POLARITY ∧ (1 ≤ s1.discState ∧ s1.discState ≤ 3) ∧ ¬ s1.pair.holds ∧
      ¬ s1.slewing ∧ ¬ s1.time.waitTick then .next s1.judgeEdge
  else .next s1

/-! ### The RTC and snapshots (R84 to R86) -/

/-- SYSTIME runs on the logic die: it is awake, and no reconstruction is due. -/
def State.timeRuns (s : State) : Bool :=
  (s.boot.stage == .rom || s.boot.stage == .loaded || s.boot.stage == .recovery || s.boot.stage == .running) && !s.time.recon

/-- R84: while the logic die is awake, after 32,768 RTC periods a measurement is filtered into TIM_RTC_PERIOD; windows with a slew or a whole-period
correction are excluded, and a new window starts. -/
def execRtcCalibration (dt rtc : Nat) (s : State) : Out :=
  let s1 := s.advance dt
  let now := s1.nowNsAll
  if ¬ s1.timeRuns then .next (s1.setTime { s1.time with rtc := rtc % 2 ^ 48, calStart := none })
  else
  let s2 := match s1.time.calStart with
    | some b =>
      if s1.time.calBad ∨ s1.slewing then s1
      else
        let p := s1.get Fd.TIM_RTC_PERIOD_PERIOD
        let d : Int := ((now + 2 ^ 32 * 1000000000 - b) % (2 ^ 32 * 1000000000) * 2 : Nat) - (p : Int)
        s1.put Fd.TIM_RTC_PERIOD_PERIOD ((p : Int) + divRoundEven d 8).toNat
    | none => s1
  .next (s2.setTime { s2.time with rtc := rtc % 2 ^ 48, calStart := some now, calBad := s2.slewing })

/-- FRAME_NO of a snapshot: the ring's while JOIN is armed and the controller follows (R351). -/
def State.snapFrame (s : State) : Nat :=
  if s.on Fd.PAR_CTRL_JOIN ∧ s.discState = 4 then (s.frame + s.pair.ringOff) % 2 ^ 32 else s.frame

/-- The 48 bytes of a snapshot now (R85). -/
def State.snapshotBytes (s : State) : List Byte :=
  let body := leBytes 4 0x4D495454 ++ leBytes 4 s.nowSec ++ leBytes 4 s.nowNs ++ leBytes 4 s.snapFrame ++
    leBytes 8 s.time.rtc ++ leBytes 4 (s.get Fd.TIM_RTC_PERIOD_PERIOD) ++ leBytes 4 s.uncert ++
    leBytes 4 (ofSigned 32 (roundDiv s.disc.integ 1024)) ++ leBytes 1 s.period ++ leBytes 1 s.discState ++
    leBytes 2 (s.get Fd.TIM_CTRL_STROBE_OFFSET) ++ leBytes 4 s.disc.sleepPpb
  body ++ leBytes 4 (crc32c body)

/-- No snapshot while a loop update is pending or SLEWING is 1 (R84). (DEDUCED, log entry 69.) -/
def State.snapshotFree (s : State) : Bool := s.time.rateNext.isNone && s.time.corrReq.isNone && !s.slewing

def State.takeSnapshot (s : State) : State := { s with tarn := Memory.write zeroByte s.tarn 0 s.snapshotBytes }

/-- R84: the running snapshot at a 32,768th RTC edge, while SYSTIME runs: a snapshot that waits for its reconstruction stands. -/
def execRunningSnapshot (dt rtc : Nat) (s : State) : Out :=
  let s1 := s.advance dt
  let s2 := s1.setTime { s1.time with rtc := rtc % 2 ^ 48 }
  if s2.snapshotFree ∧ s2.timeRuns then .next s2.takeSnapshot else .next s2

/-- Bytes of the snapshot in Tarn, and whether it is valid (R85). -/
def State.snapNum (s : State) (o n : Nat) : Nat := leNat (Memory.read zeroByte s.tarn o n)
def State.snapValid (s : State) : Bool :=
  s.snapNum 0 4 == 0x4D495454 && s.snapNum 0x2C 4 == crc32c (Memory.read zeroByte s.tarn 0 0x2C)

/-- R86: SYSTIME, FRAME_NO and the uncertainty are reconstructed at an RTC edge. The loop is in ACQUIRE with PPS
enabled, otherwise FREE with TIM_RATE at −integ; where PPS is enabled after a cold reset, by a store applied before, TIM_RATE is as it
stands, which the table of R86 does not give (DESIGN CHOICE, log entry 233). The age of the last accepted edge counts the frames
asleep. In recovery mode frames run at 250 µs, whatever the snapshot's period (R50). R86 gives no rounding: elapsed and what the uncertainty
gains are taken down to whole ns (DESIGN CHOICE, log entry 261). -/
def State.reconstruct (s : State) (rtc : Nat) : State :=
  let delta := (rtc % 2 ^ 48 + 2 ^ 48 - s.snapNum 0x10 6) % 2 ^ 48
  let elapsed := delta * s.snapNum 0x18 4 / 65536
  let code := s.snapNum 0x24 1 % 4
  let p := periodNs code
  let t0 := s.snapNum 4 4 * 1000000000 + s.snapNum 8 4
  let t1 := t0 + elapsed
  let frames := t1 / p - t0 / p
  let unc := s.snapNum 0x1C 4 + elapsed * s.snapNum 0x28 4 / 1000000000 + 10
  let integ := toSigned 32 (s.snapNum 0x20 4) * 1024
  let run := if s.mode = 1 then 1 else code
  let t := s.time
  let frame := (s.snapNum 0x0C 4 + frames) % 2 ^ 32
  let slept : Nat := match s.pdm.waking, s.pdm.saved with
    | true, some v => since32 frame v.frame
    | _, _ => 0
  let d := { t.disc with
    integ := integ, integPrev := integ, uncertBase := min unc 0xFFFFFFFF, entry := t.cyc
    accAge := t.disc.accAge.map fun a => min (a + slept) 0xFFFFFFFF }
  let s1 := s.setTime { t with
    sys := t1 % (2 ^ 32 * 1000000000) * nsUnit
    frameNo := frame
    boundary := t1 / periodNs run * periodNs run % (2 ^ 32 * 1000000000)
    rtc := rtc % 2 ^ 48, recon := false, waitTick := true, counting := true, disc := d }
  let s2 := (((s1.put Fd.TIM_CTRL_PERIOD run).put Fd.TIM_CTRL_STROBE_OFFSET (s.snapNum 0x26 2)).put
    Fd.TIM_RTC_PERIOD_PERIOD (s.snapNum 0x18 4)).put Fd.TIM_STATUS_TIME_ESTIMATED 1
  if s2.on Fd.TIM_PPS_CTRL_EN then s2.enterAcquire none
  else if s2.pdm.waking then s2.setDiscState 0
  else (s2.setDiscState 0).setRate (rateUnits (-integ))

def execTimeReconstruction (rtc : Nat) (s : State) : Out :=
  if s.time.recon ∧ s.snapValid then .next (s.reconstruct rtc) else .next s

/-! ### Register reads -/

/-- A read of TIM_SYSTIME_SEC latches NS and FRAME_NO from the same core cycle. -/
def execSystimeLatchRead (port : Side) (dt : Nat) (s : State) : Out :=
  let s1 := s.advance dt
  .next (s1.hostReadVia port .manager
    (((s1.put Fd.TIM_SYSTIME_NS_NS s1.nowNs).put Fd.TIM_FRAME_NO_FRAME_NO s1.frame).answer s1.nowSec))

/-! ### Time commands (R88) -/

/-- The settings of TIME_SET_PPS; a change of EN enters ACQUIRE or FREE, except in FOLLOW. -/
def State.setPps (s : State) (en pol delay window ho sleep : Nat) : State :=
  let was := s.on Fd.TIM_PPS_CTRL_EN
  let s1 := (((s.put Fd.TIM_PPS_CTRL_EN en).put Fd.TIM_PPS_CTRL_POLARITY pol).put Fd.TIM_PPS_CTRL_DELAY delay).put
    Fd.TIM_PPS_WINDOW_WINDOW window
  let s2 := s1.setDisc { s1.disc with hoPpb := ho, sleepPpb := sleep }
  if s2.discState = 4 then s2
  else if en = 1 ∧ ¬ was then s2.enterAcquire none
  else if en = 0 ∧ was then s2.setDiscState 0
  else s2

def execTimeGet (id : Nat) (s : State) : Out :=
  .next (s.run id 0x0401 fun c =>
    let ns := s.time.stamp / nsUnit
    s.okay c (leBytes 4 (ns / 1000000000) ++ leBytes 4 (ns % 1000000000) ++ leBytes 4 s.frame ++ leBytes 1 s.discState ++
      leBytes 1 (s.get Fd.TIM_STATUS_TIME_ESTIMATED + 2 * s.get Fd.TIM_STATUS_SLEWING) ++ leBytes 1 s.period ++ zeros 1 ++
      leBytes 4 s.uncert ++ leBytes 2 (s.get Fd.TIM_CTRL_STROBE_OFFSET) ++ zeros 2))

def execTimeGetDiscipline (id : Nat) (s : State) : Out :=
  .next (s.run id 0x0405 fun c =>
    let d := s.disc
    s.okay c (leBytes 1 s.discState ++ zeros 3 ++ leBytes 4 d.accTotal ++ leBytes 4 d.rejTotal ++
      leBytes 4 (s.get Fd.TIM_PPS_ERR_ERR) ++ leBytes 4 (s.get Fd.TIM_RATE_RATE) ++
      leBytes 4 (ofSigned 32 (roundDiv d.integ 1024)) ++ leBytes 4 (d.accAge.getD 0xFFFFFFFF) ++ leBytes 4 s.uncert ++
      leBytes 4 (s.get Fd.TIM_RTC_PERIOD_PERIOD)))

end Sys2Proof.Machine
end

