-- ==== Sys2Proof/Machine/FirmwareOps.lean ====
section
/-! DEFINITION. Flash, images, keys and pair faults: what the boot ROM and the firmware share (02, R43 to R61), and the
SRAM error records (01, R24, R31). -/

namespace Sys2Proof.Machine

/-! ### Flash (R43 to R46) -/

def State.flashBytes (s : State) (a n : Nat) : List Byte := Memory.read erasedByte s.flash a n
def State.flashNum (s : State) (a n : Nat) : Nat := leNat (s.flashBytes a n)
def State.flashWrite (s : State) (a : Nat) (bs : List Byte) : State :=
  { s with flash := Memory.write erasedByte s.flash a bs }

/-- Start of image slot A (0), image slot B (1) and the configuration store (2). -/
def imageBase (t : Nat) : Nat := match t with
  | 0 => 0x10000
  | 1 => 0x410000
  | _ => 0x810000

/-- A boot header copy is valid (R44). -/
def State.hdrValid (s : State) (c : Nat) : Bool :=
  s.flashNum (c * 0x1000) 4 == 0x48424C4D && s.flashNum (c * 0x1000 + 28) 4 == crc32c (s.flashBytes (c * 0x1000) 28)

def State.hdrSeq (s : State) (c : Nat) : Nat := s.flashNum (c * 0x1000 + 4) 4

/-- Copy X is newer than copy Y by their sequence numbers (R44, R386). -/
def newer (x y : Nat) : Bool :=
  let d := since32 x y
  1 ≤ d && d < 2 ^ 31

/-- The newest valid boot header copy (R44). -/
def State.newestHdr (s : State) : Option Nat :=
  match s.hdrValid 0, s.hdrValid 1 with
  | true, true => if newer (s.hdrSeq 1) (s.hdrSeq 0) then some 1 else some 0
  | true, false => some 0
  | false, true => some 1
  | false, false => none

/-- PREFERRED of the newest header; slot A without one (R49). -/
def State.preferred (s : State) : Nat :=
  match s.newestHdr with
  | some c => if s.flashNum (c * 0x1000 + 8) 1 = 1 then 1 else 0
  | none => 0

/-- The function that MGR_PORT names; H0 without a header or for 0xFF (R27, R44). -/
def State.mgrSide (s : State) : Side :=
  match s.newestHdr with
  | some c => if s.flashNum (c * 0x1000 + 9) 1 = 1 then .h1 else .h0
  | none => .h0

/-- The slot of the active pair. -/
def State.runSlot (s : State) : Nat := s.get Fd.MBX_FW_STATE_RUN_SLOT

/-- Write one boot header copy (R44). -/
def State.writeHdr (s : State) (c seq pref mgr : Nat) : State :=
  let body := leBytes 4 0x48424C4D ++ leBytes 4 seq ++ leBytes 1 pref ++ leBytes 1 mgr ++ zeros 18
  s.flashWrite (c * 0x1000) (body ++ leBytes 4 (crc32c body))

/-- Update the boot header: the copy that is not the newest, SEQ one greater; the fields not set are copied, or take
the running slot and 0xFF where no copy is valid (R44). -/
def State.updateHdr (s : State) (pref mgr : Option Nat) : State :=
  match s.newestHdr with
  | some c =>
    s.writeHdr (1 - c) ((s.hdrSeq c + 1) % 2 ^ 32) (pref.getD (s.flashNum (c * 0x1000 + 8) 1))
      (mgr.getD (s.flashNum (c * 0x1000 + 9) 1))
  | none => s.writeHdr 0 1 (pref.getD s.runSlot) (mgr.getD 0xFF)

/-- The public key that KEY_ID or KEY_SLOT names: 0 the Mituley key, 1 and 2 the integrator keys (R45, R59). -/
def State.keyOf (s : State) (id : Nat) : Option (List Byte) :=
  match id with
  | 0 => some Config.mituleyKey
  | 1 => s.fw.fuses.key0
  | 2 => s.fw.fuses.key1
  | _ => none

def signedBy (key : Option (List Byte)) (msg sig : List Byte) : Bool :=
  match key with
  | some k => Config.sigValid k (Config.sha256 msg) sig
  | none => false

/-- The key rule of R46: a firmware image carries KEY_ID 0; a configuration store KEY_ID 1 or 2, or none while integrator
key 0 is not provisioned. -/
def State.imageSigned (s : State) (store : Bool) (h : List Byte) : Bool :=
  let id := leAt h 0x0F 1
  let ok := signedBy (s.keyOf id) (slice h 0 0x40) (slice h 0x40 0x40)
  if store then (if id = 0xFF then s.fw.fuses.key0.isNone else (id == 1 || id == 2) && ok)
  else id == 0 && ok

/-- Bit of TARGET that stands for this part (R45). -/
def State.targetBit (s : State) : Nat := match s.part with
  | .k8 => 0
  | .k4 => 1

/-- The rules of R46 an image (header and body, as bytes) breaks, with the DETAIL codes of FW_STAGE (R63); `none` if it
is accepted. -/
def State.imageRules (s : State) (store : Bool) (img : List Byte) : Option Nat :=
  let h := slice img 0 0x100
  let len := leAt h 0x10 4
  if leAt h 0 4 ≠ (if store then 0x43464C4D else 0x46574C4D) then some 1
  else if Config.sha256 (slice img 0x100 len) ≠ slice h 0x20 32 then some 2
  else if ¬ s.imageSigned store h then some 3
  else if leAt h 0x0C 1 < s.fw.fuses.sec then some 4
  else if ¬ bitAt (leAt h 6 2) s.targetBit then some 5
  else if len > 0x100000 - 0x100 ∨ img.length < 0x100 + len then some 6
  else none

/-- The image in a flash area: header, and its body where MAGIC and LENGTH are those of an image. -/
def State.imageIn (s : State) (t : Nat) : List Byte :=
  let len := s.flashNum (imageBase t + 0x10) 4
  let magic := s.flashNum (imageBase t) 4
  let image : Bool := (magic == 0x43464C4D || magic == 0x46574C4D) && decide (len ≤ 0x100000 - 0x100)
  s.flashBytes (imageBase t) (if image then 0x100 + len else 0x100)

/-- R46 holds of the image slot or configuration store `t`. -/
def State.accepted (s : State) (t : Nat) : Bool := (s.imageRules (t == 2) (s.imageIn t)).isNone

/-- VERSION, SEC_VER, STATE_VER and MIN_STATE_VER of the image in slot `t` (R45). -/
def State.imageVersion (s : State) (t : Nat) : Nat := s.flashNum (imageBase t + 8) 4
def State.imageSec (s : State) (t : Nat) : Nat := s.flashNum (imageBase t + 0x0C) 1
def State.imageStateVer (s : State) (t : Nat) : Nat := s.flashNum (imageBase t + 0x0D) 1
def State.imageMinState (s : State) (t : Nat) : Nat := s.flashNum (imageBase t + 0x0E) 1

/-! ### Tokens and the nonce (R60, R61) -/

/-- The outstanding nonce: not yet 65,536 frames old (R61). -/
def State.nonceNow (s : State) : Option Nat :=
  match s.fw.nonce with
  | some (n, f) => if since32 s.frame f < 65536 then some n else none
  | none => none

/-- A token check (R61) of a 92-byte token for a purpose; the nonce ends with it. `signer` limits the key slot. R61's list of
conditions names neither VERSION, nor the reserved bytes, nor SCOPE for purpose 0x03: a token passes whatever they hold. (DEDUCED,
log entry 55.) -/
def State.tokenOk (s : State) (tok : List Byte) (purpose : Nat) (signer : Option Nat) : Bool :=
  let ks := leAt tok 2 1
  (match s.nonceNow with
    | some n => n % 2 ^ 64 == leAt tok 12 8
    | none => false) &&
  leAt tok 4 8 == Config.uid % 2 ^ 64 && leAt tok 1 1 == purpose &&
  (match signer with
    | some k => ks == k
    | none => ks == 0 || ks == 1) &&
  signedBy (s.keyOf (ks + 1)) (slice tok 0 28) (slice tok 28 64)

def State.endNonce (s : State) : State := { s with fw := { s.fw with nonce := none } }

/-! ### SRAM errors (R24, R31) -/

/-- (DEDUCED, log entry 56.) -/
def eccWord (mem word : Nat) (uncorr : Bool) : Nat := b2n uncorr * 2 ^ 31 + (mem % 16) * 2 ^ 27 + word % 2 ^ 27

/-- An error of the same kind, of a memory of a lower ID, was recorded in this core cycle: its record is kept (R31). -/
def State.eccKept (s : State) (mem : Nat) (uncorr : Bool) : Bool :=
  s.fw.eccAt == some s.time.cyc && s.on Fd.GLB_ECC_LAST_UNCORR == uncorr && decide (s.get Fd.GLB_ECC_LAST_MEM < mem % 16)

/-- Record an error of this core cycle in GLB_ECC_LAST. (DESIGN CHOICE, log entry 222.) -/
def State.eccRecord (s : State) (mem word : Nat) (uncorr : Bool) : State :=
  if s.eccKept mem uncorr then s
  else
    let s1 := s.wr Reg.GLB_ECC_LAST (BitVec.ofNat 32 (eccWord mem word uncorr))
    { s1 with fw := { s1.fw with eccAt := some s1.time.cyc } }

/-- One bit in error: counted, and recorded unless an uncorrectable error not yet read stands there (R24, R31). -/
def State.eccCorrected (s : State) (mem word : Nat) : State :=
  let s1 := s.bump Fd.GLB_ECC_CORR_COUNT
  if s.on Fd.GLB_ECC_LAST_UNCORR ∧ (s.get Fd.GLB_ECC_UNCORR_COUNT ≠ 0 ∨ s.fw.eccAt = some s.time.cyc) then s1
  else s1.eccRecord mem word false

/-! ### Pair faults (R53 to R56) -/

/-- The domain of the standby pair (R370), and whether it is ON. -/
def State.standbyDomain (s : State) : Fld := if s.on Fd.GLB_STATUS_ACTIVE_PAIR then Fd.PDM_STATE_PAIRA else Fd.PDM_STATE_PAIRB
def State.activeDomain (s : State) : Fld := if s.on Fd.GLB_STATUS_ACTIVE_PAIR then Fd.PDM_STATE_PAIRB else Fd.PDM_STATE_PAIRA
def State.standbyOn (s : State) : Bool := s.get s.standbyDomain == 3

def pairNum : PairId → Nat
  | .a => 0
  | .b => 1

/-- End an outstanding FW_SWITCH with a status (R55, R57, R58). -/
def State.endSwitch (s : State) (status detail : Nat) : State :=
  match s.fw.switch with
  | some w =>
    let s1 := { s with fw := { s.fw with switch := none } }
    match s1.findCmd w.cmd with
    | some c => s1.finish c status detail []
    | none => s1
  | none => s

/-- A switch under way does not occur: FW_SWITCH ends FAULT, and where the active pair had stopped taking slots it takes them again, with
the abandoned commands first (R58, Races). R58 has it wait for T0 only where the standby rejects the state; the model does not wait (DESIGN
CHOICE, log entry 257). -/
def State.noSwitch (s : State) : State :=
  let s1 := s.endSwitch ST.fault 0
  if s1.mode = 2 then ((s1.put Fd.MBX_FW_STATE_MODE 0).retake).resumeTaking else s1

/-- No pair runs the firmware (R56). -/
def State.haltFw (s : State) : State :=
  (({ s with fw := { s.fw with takeoverAt := none } }).put Fd.GLB_STATUS_FW_RUNNING 0).put Fd.MBX_FW_STATE_MODE 3

/-- A pair fault of `pair` (R53): it halts; a record, the event, the count. The active pair's fault leads to a takeover at
the second tick if a standby is ready (R55), and halts the firmware if none is (R56); the standby's fault ends its
readiness and an outstanding switch (R58), and a takeover not yet made: no standby is left then, and the firmware halts. -/
def State.pairFault (s : State) (pair : PairId) (cause : Nat) : State :=
  let n := pairNum pair
  let active := s.get Fd.GLB_STATUS_ACTIVE_PAIR == n
  let who := if active then s.activePair else s.otherPair
  if who.mode = .halted ∨ who.mode = .none then s
  else
    let arg := cause + n * 2 ^ 8
    let halted := { who with mode := PairMode.halted, back := none }
    let s1 := if active then s.putActive halted else s.putOther halted
    let s2 := (s1.bump Fd.MBX_FW_STATE_PAIR_FAULTS).raiseCairn 1 4 arg
    let s3 := ({ s2 with fw := { s2.fw with lastCause := cause, lastFrame := s.frame } }).occur 0 arg
    if active then
      (if s.on Fd.GLB_STATUS_STANDBY_READY then
        { s3 with fw := { s3.fw with takeoverAt := some ((s.frame + 2) % 2 ^ 32) } }
       else s3.haltFw)
    else
      let s4 := s3.put Fd.GLB_STATUS_STANDBY_READY 0
      if s4.fw.takeoverAt.isSome then (s4.endSwitch ST.fault 0).haltFw else s4.noSwitch

/-- Two bits in error (R24, R31): counted, recorded, MEM_UNCORR and a Cairn record, which carry GLB_ECC_LAST; in control core memory a pair fault
(words of the lower half are pair A's). -/
def State.eccUncorr (s : State) (mem word : Nat) : State :=
  let s1 := (s.bump Fd.GLB_ECC_UNCORR_COUNT).eccRecord mem word true
  let w := (s1.rd Reg.GLB_ECC_LAST).toNat
  let s2 := (s1.occur 1 w).raiseCairn 2 1 w
  if mem = 4 then s2.pairFault (if word * 3 < 0x40000 then .a else .b) 2 else s2

/-- A read of an SRAM word that finds `errs` bits in error (R24): none, one corrected, two uncorrectable. -/
def State.eccRead (s : State) (mem word errs : Nat) : State :=
  match errs with
  | 0 => s
  | 1 => s.eccCorrected mem word
  | _ => s.eccUncorr mem word

end Sys2Proof.Machine
end

