-- ==== Sys2Proof/Machine/Pager.lean ====
section
/-! DEFINITION. The context pager (07, R162 to R167, R208 to R213). -/

namespace Sys2Proof.Machine

/-- The link of a host port is up (GLB_STATUS). -/
def State.portUp (s : State) (p : Side) : Bool := match p with
  | .h0 => s.on Fd.GLB_STATUS_H0_UP
  | .h1 => s.on Fd.GLB_STATUS_H1_UP

/-- The port can issue a write of the H24's own at this tick: its link is up and its Bus Master Enable, which no command sets, is 1 (R160;
DESIGN CHOICE, log entry 265). -/
def State.canIssue (s : State) (p : Side) : Bool := s.portUp p && Config.busMaster (p == .h1) s.frame

/-! ### What a frame needs (R184, R199, R208) -/

/-- The endpoint of a grant has a service in frame `f`: its placement is in force, the frame is one of its services, and
its list is bound, or it is a hub's EP1. -/
def State.serviceIn (s : State) (g : Grant) (f : Nat) : Bool :=
  decide (since32 f g.first < 2 ^ 31) &&
  (match g.leave with
    | some l => decide (since32 f l ≥ 2 ^ 31)
    | none => true) &&
  f % 2 ^ g.k == g.phase &&
  (g.system || match s.ctx g.key with
    | some c => c.state == 2
    | none => false)

/-- The partner carries the device, or its path has a link in L1 or L2: the plan omits it (R150, R225, R353, R373). -/
def State.omitted (s : State) (a : Nat) : Bool :=
  match s.dev a with
  | some d => d.covered || d.susp || s.linkState d.link.port == 9 || s.linkState d.link.port == 10
  | none => true

/-- A transfer ring has descriptors available or in progress. -/
def Entry.hasWork (e : Entry) : Bool := e.kind == 1 && e.live && (e.desc.isSome || e.enq != e.deq)

/-- Contexts that frame `f` needs, ascending. -/
def State.needs (s : State) (f : Nat) : List Nat :=
  (SMap.keys s.pager.ctxs).filter fun k =>
    (s.alloc.grants.any fun g => g.key == k && s.serviceIn g f && !s.omitted (k / 16)) ||
    (match s.boundEntry k with
      | some (i, e) => ((s.entry i e).map Entry.hasWork).getD false
      | none => false)

/-! ### Reads -/

def isPagerRead (r : HostRead) : Bool := r.use == .directory || r.use == .page

/-- Reads outstanding. -/
def State.pagerReads (s : State) : Nat := (s.host.reads.filter isPagerRead).length

def State.setCtxState (s : State) (k : Nat) (st : CacheState) : State :=
  match s.ctxEnt k with
  | some e => (s.putCtxEnt k (some { e with st := st })).showCache
  | none => s

/-- Directory address (SCH_DIR_LO, SCH_DIR_HI). -/
def State.dirBase (s : State) : Nat :=
  s.get Fd.SCH_DIR_LO_BASE_LO * 2 ^ 14 + s.get Fd.SCH_DIR_HI_BASE_HI * 2 ^ 32

/-- Reads that the pager may still issue: at most PAGER_READS are outstanding (R209). -/
def State.readsLeft (s : State) : Nat := s.get Fd.SCH_POLICY0_PAGER_READS - s.pagerReads

/-- Read a directory entry, unless that read is outstanding or waiting already; it waits while no read is to spare (R209). -/
def State.readDir (s : State) (i : Nat) : State :=
  if (s.host.reads.any fun r => r.use == .directory && r.key == i) ∨ s.pager.dirWait.contains i then s
  else if s.readsLeft = 0 then { s with pager := { s.pager with dirWait := s.pager.dirWait ++ [i] } }
  else s.pagerRead (s.dirBase + i * 8) 8 .directory i

/-- Read a context from its page. -/
def State.readCtx (s : State) (page k : Nat) : State :=
  match s.ctxEnt k with
  | some e => (s.putCtxEnt k (some { e with page := page })).pagerRead (page + k % 64 * 64) 64 .page k
  | none => s

/-- Page-ins in order: those listed for frame n + 1, then, with reads to spare, the periodic services of frame n + 2
(R209). -/
def State.pageQueue (s : State) : List Nat :=
  match s.pager.issue with
  | [] =>
    let f := (s.frame + 2) % 2 ^ 32
    (SMap.keys s.pager.ctxs).filter fun k =>
      (s.alloc.grants.any fun g => g.key == k && s.serviceIn g f) &&
      (match s.ctxEnt k with
        | some e => e.st == .free && !(s.pager.retry.any fun x => x.1 == k)
        | none => false)
  | l => l

/-- R209: the next page-in is issued, if a read and a FREE entry are to spare; a directory entry that waits for a read goes first. -/
def execPageInIssue (s : State) : Out :=
  match s.pager.dirWait, s.pageQueue with
  | i :: rest, _ =>
    .next (if s.readsLeft = 0 then s else ({ s with pager := { s.pager with dirWait := rest } }).readDir i)
  | [], [] => .next s
  | [], k :: rest =>
    if s.readsLeft = 0 ∨ s.cachedCount ≥ 32768 then .next s
    else
      let s1 := { s with pager := { s.pager with issue := rest } }
      match s1.ctxEnt k with
      | some e =>
        if e.st ≠ .free then .next s1
        else
          let s2 := s1.setCtxState k .fetching
          match s2.pager.dirs.find? fun d => d.1 == k / 64 with
          | some (_, page) => .next (s2.readCtx page k)
          | none => .next (s2.readDir (k / 64))
      | none => .next s1

/-- Class 1 of R234 has a request ready on a port: a directory entry or a context to be read with a read and an entry to spare, or a
write-back to be tried again. -/
def State.pagerReady (s : State) (port : Side) : Bool :=
  port == s.boot.barPort &&
  ((decide (0 < s.readsLeft) && (!s.pager.dirWait.isEmpty || (decide (s.cachedCount < 32768) && s.pageQueue.any fun k =>
      match s.ctxEnt k with
      | some e => e.st == .free
      | none => false))) ||
    s.pager.wbRetry.any fun x => x.2 != s.frame)

/-- A request of class 2 may be issued on a port: nothing of class 1 is ready, and no injection holds it (R234, R402). -/
def State.mayDrain (s : State) (port : Side) : Bool := !s.portHeld port && !s.pagerReady port

/-- A context that fails its check (R166): ERROR, the event, the record, its entry closed with DETAIL 4. -/
def State.ctxCheckFail (s : State) (k : Nat) : State :=
  match s.ctxEnt k with
  | some e =>
    let c := e.ctx
    let s1 := s.putCtxEnt k (some { e with
      ctx := { c with state := 4, deferrals := sat (c.deferrals + e.defer) 0xFFFF }, st := .dirty, held := false, fails := 0, defer := 0 })
    (((s1.occur 5 c.sea).raiseCairn 4 1 c.sea).closeBound k 7 7 4).showCache
  | none => s

/-- A failed page-in (R213): counted; the third in a row is a failed check. -/
def State.pageFail (s : State) (k : Nat) : State :=
  let s1 := (s.bump Fd.SCH_PAGE_LATE_READ_ERR).setEvent 17 Fd.SCH_EVENT_PAGE_ERR
  match s1.ctxEnt k with
  | some e =>
    if e.fails ≥ 2 then s1.ctxCheckFail k
    else
      let s2 := s1.putCtxEnt k (some { e with fails := e.fails + 1, st := .free })
      ({ s2 with pager := { s2.pager with retry := s2.pager.retry ++ [(k, s.frame)] } }).showCache
  | none => s1

/-- Contexts that wait for directory entry `i`. -/
def State.dirWaiters (s : State) (i : Nat) : List Nat :=
  (SMap.keys s.pager.ctxs).filter fun k => k / 64 == i &&
    (match s.ctxEnt k with
      | some e => e.st == .fetching && !(s.host.reads.any fun r => r.use == .page && r.key == k)
      | none => false)

/-- What a directory read returns for an index: the page, or nothing where the entry is not valid (R162, R164). -/
def dirPage (ok : Bool) (data : List Byte) : Option Nat :=
  let w := leAt data 0 8
  if ok ∧ bitAt w 0 then some (w / 4096 * 4096) else none

/-- The pager's part of a directory completion (R209, R213): the contexts that wait for it are read, as far as reads are to spare; the
others are listed again. -/
def State.dirDone (s : State) (i : Nat) (page : Option Nat) : State :=
  match page with
  | some p =>
    let s1 := { s with pager := { s.pager with dirs := (i, p) :: s.pager.dirs } }
    let late := (s1.dirWaiters i).drop s1.readsLeft
    let s2 := foldN (fun t k => t.readCtx p k) s1 ((s1.dirWaiters i).take s1.readsLeft)
    let s3 := foldN (fun t k => t.setCtxState k .free) s2 late
    { s3 with pager := { s3.pager with issue := late ++ s3.pager.issue } }
  | none => foldN State.pageFail s (s.dirWaiters i)

/-- R209: a context read completes: the context is cached after its check; a change held for it is applied (R165). -/
def State.ctxDone (s : State) (k : Nat) (ok : Bool) (data : List Byte) : State :=
  match s.ctxEnt k with
  | none => s
  | some e =>
    if e.st ≠ .fetching then s
    else if ¬ ok then s.pageFail k
    else
      let c := ctxOf data
      let s0 := s.bump Fd.SCH_PAGE_COUNT_PAGE_INS
      if c.valid ∧ ¬ ctxGood data then s0.ctxCheckFail k
      else
        let x := if e.held ∨ ¬ c.valid then { e.ctx with wbSeq := c.wbSeq } else c
        let y := { x with deferrals := sat (x.deferrals + e.defer) 0xFFFF }
        let st := if e.held ∨ ¬ c.valid ∨ e.defer ≠ 0 then CacheState.dirty else .clean
        let late : Bool := match s0.scree.inj 6 with
          | some i => i.port == c.port && decide (i.left > 0)
          | none => false
        let s1 := if late then s0.editInj 6 fun i => { i with left := i.left - 1 } else s0
        let lateIn := if late then some ((s.frame + 1) % 2 ^ 32) else none
        (s1.putCtxEnt k (some { e with
          ctx := y, st := st, held := false, fails := 0, used := s.frame, defer := 0, lateIn := lateIn })).showCache

def execPageInComplete (tag : Nat) (ok : Bool) (data : List Byte) (s : State) : Out :=
  match s.findRead tag with
  | some r =>
    if r.use = .page then
      (if r.dead then .next ((s.dropRead tag).countDiscard r.inst) else .next ((s.dropRead tag).ctxDone r.key ok data))
    else .next s
  | none => .next s

/-- R213: page-ins that failed in an earlier frame are retried. -/
def execPageInRetry (s : State) : Out :=
  let go := s.pager.retry.filter fun x => x.2 != s.frame
  .next { s with pager := { s.pager with
    retry := s.pager.retry.filter fun x => x.2 == s.frame
    issue := go.map (·.1) ++ s.pager.issue } }

/-! ### Write-backs (R212, R213) -/

/-- Write a DIRTY context back, if the manager's port can issue it; `gone` ones leave the cache for good. -/
def State.writeBack (s : State) (k : Nat) (ok : Bool) : State :=
  match s.ctxEnt k with
  | none => s
  | some e =>
    if ok then
      let c := { e.ctx with wbSeq := (e.ctx.wbSeq + 1) % 256 }
      let w : HostWrite :=
        { port := s.boot.barPort, pasid := pasidOf (s.rd Reg.SCH_DIR_PASID).toNat, addr := e.page + k % 64 * 64
          data := ctxBytes c, relaxed := false, poisoned := false }
      let s1 := (s.issue w).bump Fd.SCH_PAGE_COUNT_WRITE_BACKS
      let keep : CtxEnt := { e with ctx := c, st := .free, wbPin := false, held := false }
      (s1.putCtxEnt k (if e.gone then none else some keep)).showCache
    else
      let s1 := s.putCtxEnt k (some { e with st := .dirty, wbPin := true })
      let s2 := { s1 with pager := { s1.pager with wbRetry := s1.pager.wbRetry ++ [(k, s.frame)] } }
      ((s2.bump Fd.SCH_PAGE_LATE_WB_ERR).setEvent 17 Fd.SCH_EVENT_WB_ERR).showCache

/-- R213: failed write-backs of earlier frames are retried; `ok`: the manager's port can issue writes. -/
def execWriteBackRetry (ok : Bool) (s : State) : Out :=
  let go := s.pager.wbRetry.filter fun x => x.2 != s.frame
  let s1 := { s with pager := { s.pager with wbRetry := s.pager.wbRetry.filter fun x => x.2 == s.frame } }
  .next (go.foldl (fun t x => t.writeBack x.1 (ok && t.portUp t.boot.barPort)) s1)

/-- Drop or write back one context (R212). -/
def State.evict (s : State) (k : Nat) : State :=
  match s.ctxEnt k with
  | some e =>
    if e.st = .clean then (s.putCtxEnt k (some { e with st := .free })).showCache
    else s.writeBack k (s.canIssue s.boot.barPort)
  | none => s

/-- The candidate that is evicted first: least recently used, then the lower SEA. -/
def State.evictNext (s : State) : Option Nat :=
  (s.pager.ctxs.foldl (fun (b : Option (Nat × Nat × Nat)) x =>
    match x.2 with
    | some e =>
      if (e.st = .clean ∨ e.st = .dirty) ∧ ¬ e.pinned ∧ ¬ e.locked then
        let age := since32 s.frame e.used
        match b with
        | none => some (x.1, age, e.ctx.sea)
        | some (k, a, q) => if age > a ∨ (age = a ∧ e.ctx.sea < q) then some (x.1, age, e.ctx.sea) else some (k, a, q)
      else b
    | none => b) none).map (·.1)

/-- Evict until `want` entries are FREE or no candidate remains; each attempt takes one candidate away, so that as many attempts as
there are contexts suffice. -/
def State.evictTo (s : State) (want : Nat) : Nat → State
  | 0 => s
  | n + 1 =>
    if 32768 - s.cachedCount ≥ want then s
    else match s.evictNext with
      | some k => (s.evict k).evictTo want n
      | none => s

/-- The contexts of removed devices are written back (R212). -/
def State.flushGone (s : State) : State :=
  foldN (fun t k => match t.ctxEnt k with
    | some e => if e.gone ∧ e.st = .dirty ∧ ¬ e.wbPin then t.writeBack k (t.canIssue t.boot.barPort) else t
    | none => t) s (SMap.keys s.pager.ctxs)

/-! ### Pins (R211) and the tick (R208, R209, R212) -/

/-- The settings ask for an automatic pin of a bound periodic context (R211). -/
def State.pinAsked (s : State) (c : Ctx) : Bool :=
  let pk := s.get Fd.SCH_POLICY0_PIN_K
  s.on Fd.SCH_CTRL_AUTO_PIN && (c.typ == 1 || c.typ == 2) && pk != 0xF && decide (c.k ≤ pk)

/-- Pin a bound periodic context automatically, within PIN_LIMIT (R211). -/
def State.autoPin (s : State) (k : Nat) : State :=
  match s.ctxEnt k with
  | some e =>
    if s.pinAsked e.ctx ∧ ¬ e.autoPin then
      (if e.explPin ∨ s.pinnedCount < s.get Fd.SCH_POLICY1_PIN_LIMIT then
        (s.putCtxEnt k (some { e with autoPin := true, pinAt := s.frame })).showCache
       else if s.alloc.pinFull then s
       else ({ s with alloc := { s.alloc with pinFull := true } }).setEvent 17 Fd.SCH_EVENT_PIN_FULL)
    else s
  | none => s

/-- AUTO_PIN or PIN_K has changed: every bound periodic context is pinned or loses its automatic pin accordingly (R211). A pin that
PIN_LIMIT refused is not tried again before the next such change. (DESIGN CHOICE, log entry 246.) -/
def State.repin (s : State) : State :=
  let rule := s.get Fd.SCH_CTRL_AUTO_PIN * 16 + s.get Fd.SCH_POLICY0_PIN_K
  if rule = s.pager.pinRule then s
  else
    let one (t : State) (k : Nat) : State :=
      match t.ctxEnt k with
      | some e =>
        if ¬ t.pinAsked e.ctx then (if e.autoPin then (t.putCtxEnt k (some { e with autoPin := false })).showCache else t)
        else if (t.boundEntry k).isSome then t.autoPin k else t
      | none => t
    foldN one { s with pager := { s.pager with pinRule := rule } } (SMap.keys s.pager.ctxs)

/-- Lock the contexts that this frame or the next needs; list the page-ins that the next one needs (R208, R209), and after them those of
the contexts for which a change is held (R165). -/
def State.lockContexts (s : State) : State :=
  let now := s.needs s.frame
  let nxt := s.needs ((s.frame + 1) % 2 ^ 32)
  let s1 := foldN (fun t k => match t.ctxEnt k with
    | some e =>
      let l := now.contains k || nxt.contains k
      t.putCtxEnt k (some { e with locked := l, used := if now.contains k then s.frame else e.used })
    | none => t) s (SMap.keys s.pager.ctxs)
  let want := nxt.filter fun k => match s1.ctxEnt k with
    | some e => e.st == .free && !(s1.pager.retry.any fun x => x.1 == k)
    | none => false
  let old := want ++ s1.pager.issue.filter fun k => !want.contains k
  let owed := (SMap.keys s1.pager.ctxs).filter fun k => !old.contains k && (match s1.ctxEnt k with
    | some e => e.st == .free && e.held && !(s1.pager.retry.any fun x => x.1 == k)
    | none => false)
  { s1 with pager := { s1.pager with issue := old ++ owed, dirs := [] } }

/-- The eviction pass of a tick (R212). -/
def State.evictionPass (s : State) : State :=
  let free := 32768 - s.cachedCount
  if free < 512 then s.evictTo 1024 s.pager.ctxs.length else s

/-- The pager's work at a tick. -/
def State.pagerTick (s : State) : State :=
  s.repin.lockContexts.flushGone.evictionPass

end Sys2Proof.Machine
end

