-- ==== Sys2Proof/Machine/Rings.lean ====
section
/-! DEFINITION. Doorbells, opening and closing, descriptors, completion records and periodic slots (06, R168 to R188,
R424). -/

namespace Sys2Proof.Machine

/-! ### Judging doorbells (R172, R173) -/

/-- Entry count E of an instance (R168, R274). -/
def State.entryCount (s : State) (i : Nat) : Nat :=
  if (s.instOf i).table = 0 then 0 else 16 + (s.instOf i).allot

/-- An endpoint entry is open and not closing. -/
def State.epOpen (s : State) (i e : Nat) : Bool := match s.entry i e with
  | some x => x.closing.isNone
  | none => false

/-- A completion ring is open in the order of R172 (R174). (DEDUCED, log entry 102.) -/
def State.crOpened (s : State) (i r : Nat) : Bool := s.rings.crOpen.contains (i, r)

/-- A rejected doorbell (R172). -/
def State.rejectDoor (s : State) (d : Door) (reason : Nat) : State :=
  let i := d.inst
  let s1 := (((s.put (Fd.INS_DB_ERR_OP i) d.op).put (Fd.INS_DB_ERR_ENTRY i) d.entry).put (Fd.INS_DB_ERR_REASON i) reason).bump
    (Fd.INS_DB_ERR_COUNT i)
  s1.occur (516 + 8 * i) (s1.rd (Reg.INS_DB_ERR i)).toNat

/-- The reason of R173 that can be judged before the instance table is read; 0 for none. An entry whose CLOSE is under way is not open
for REASON 8 either (DESIGN CHOICE, log entry 264). (DEDUCED, log entry 104.) -/
def State.doorReason (s : State) (d : Door) : Nat :=
  let i := d.inst
  let e := d.entry
  let kind := ((s.entry i e).map (·.kind)).getD 1
  let isOpen := if e < 16 then s.crOpened i e else s.epOpen i e
  if e ≥ s.entryCount i then 1
  else if (d.op = 0 ∧ (e < 16 ∨ (isOpen ∧ kind ≠ 1))) ∨ (d.op = 3 ∧ e ≥ 16) ∨ ((d.op = 1 ∨ d.op = 2) ∧ d.value ≠ 0) then 2
  else if d.op ≠ 1 ∧ ¬ isOpen then 3
  else match d.op, s.entry i e with
    | 0, some x =>
      if since16 d.value x.deq > x.size ∨ since16 d.value x.deq < since16 x.enq x.deq then 4 else 0
    | 3, some x => if since16 d.value x.cons > since16 (if x.live then x.prod else 0) x.cons then 5 else 0
    | 1, _ => if e < 16 ∧ isOpen then 6 else 0
    | 2, _ =>
      if e < 16 ∧ ((s.instEntries i).any fun x => 16 ≤ x.1 && x.2.cring == e && x.2.closing.isNone) then 8 else 0
    | _, _ => 0

/-- Process one doorbell; an OPEN issues the read of its entry, and RING moves ENQ of the entry and of its context (R165). -/
def State.processDoor (s : State) (d : Door) : State :=
  let i := d.inst
  let e := d.entry
  match s.doorReason d with
  | 0 =>
    match d.op with
    | 0 =>
      let s1 := s.editEntry i e fun x =>
        let prev := if x.ringFrame = s.frame then x.ringPrev else x.enq
        { x with enq := d.value, ringFrame := s.frame, ringPrev := prev }
      match s.entry i e with
      | some x => s1.editCtx (seaKey x.sea) fun c => { c with enq := d.value }
      | none => s1
    | 1 =>
      let r := s.instOf i
      (s.instRead i (pasidOf r.tablePasid) (r.table + e * 32) 32 .table e s.frame 0).1
    | 2 =>
      if e < 16 then
        let s1 := { s with rings := { s.rings with crOpen := s.rings.crOpen.filter (· != (i, e)) } }
        s1.editEntry i e fun x => { x with closing := some (0, 0) }
      else s.beginClose i e 7 7 0
    | _ => s.editEntry i e fun x => { x with cons := d.value }
  | n => s.rejectDoor d n

/-- A read of instance `i`'s table is outstanding: later doorbells wait behind it (R172). -/
def State.tableBusy (s : State) (i : Nat) : Bool := s.host.reads.any fun r => r.use == .table && r.inst == i && !r.dead

/-- Process the waiting doorbells of instance `i` up to the next table read. -/
def State.drainDoors (s : State) (i : Nat) : Nat → State
  | 0 => s
  | n + 1 =>
    if s.tableBusy i then s
    else match s.rings.doors.find? fun d => d.inst == i with
      | some d => (({ s with rings := { s.rings with doors := s.rings.doors.erase d } }).processDoor d).drainDoors i n
      | none => s

/-- A doorbell written by the host: processed, or queued behind those before it. -/
def State.ringDoor (s : State) (port : Side) (d : Door) : State :=
  s.hostWriteVia port (.page d.inst)
    (let s1 := { s with rings := { s.rings with doors := s.rings.doors ++ [d] } }
     s1.drainDoors d.inst s1.rings.doors.length)

/-- R172: RING. -/
def execRingDoorbell (port : Side) (i entry value : Nat) (s : State) : Out :=
  .next (s.ringDoor port { inst := i, op := 0, entry := entry % 16384, value := value % 65536 })

/-- R174: OPEN. -/
def execOpenEntry (port : Side) (i entry value : Nat) (s : State) : Out :=
  .next (s.ringDoor port { inst := i, op := 1, entry := entry % 16384, value := value % 65536 })

/-- R175: CLOSE. -/
def execCloseEntry (port : Side) (i entry value : Nat) (s : State) : Out :=
  .next (s.ringDoor port { inst := i, op := 2, entry := entry % 16384, value := value % 65536 })

/-- R172: ACK. -/
def execAckRing (port : Side) (i entry value : Nat) (s : State) : Out :=
  .next (s.ringDoor port { inst := i, op := 3, entry := entry % 16384, value := value % 65536 })

/-! ### Opening (R168 to R170, R174) -/

/-- The entry that 32 bytes of an instance table spell. -/
def entryOf (b : List Byte) (gen : Nat) : Entry :=
  let w0 := leAt b 0 4
  let w1 := leAt b 4 4
  { kind := w0 / 2 ^ 30, cring := (w0 / 2 ^ 24) % 16, sea := w0 % 2 ^ 24, log2 := (w1 / 2 ^ 12) % 16, e2e := bitAt w1 1
    format := w1 % 2, base := leAt b 8 8, pasid := leAt b 16 4, gen := gen, prod := 0, cons := 0, resv := 0, enq := 0, deq := 0
    ringFrame := 0, ringPrev := 0, live := false, closing := none, desc := none, fetch := false, wrote := false }

/-- A completion-ring entry, whose KIND and SEA bits are reserved. -/
def cringOf (b : List Byte) (gen : Nat) : Entry :=
  let w0 := leAt b 0 4
  { entryOf b gen with kind := 0, cring := 0, sea := 0, log2 := (w0 / 2 ^ 12) % 16, e2e := false, format := 0 }

/-- Another entry is bound to the endpoint, or a binding waits for its tick. -/
def State.seaBound (s : State) (sea : Nat) : Bool :=
  s.rings.tab.any fun x => match x.2 with
    | some e => e.kind != 0 && seaKey e.sea == seaKey sea
    | none => false

/-- DETAIL of OPEN_REFUSED (R174); 0 for none. FORMAT 1 of a transfer ring, which R169 forbids, has DETAIL 7 whatever DFMT is. (DESIGN
CHOICE, log entry 244.) -/
def State.openDetail (s : State) (i e : Nat) (x : Entry) : Nat :=
  if x.kind = 0 ∨ x.kind = 3 then 1
  else match s.seaEp? x.sea, s.ctx (seaKey x.sea) with
    | some (_, d), some c =>
      if c.inst ≠ i then 3
      else if s.seaBound x.sea ∨ (s.entry i e).isSome then 4
      else if (x.kind = 1) ≠ (d.typ = 0 ∨ d.typ = 3) then 5
      else if x.base % 64 ≠ 0 ∨ (x.kind = 1 ∧ x.log2 < 4) ∨ (x.kind = 2 ∧ (x.log2 < 3 ∨ x.log2 > 12)) then 6
      else if (x.format = 1 ∧ (d.fmt = 1 ∨ x.kind = 1)) ∨ (x.e2e ∧ ¬ (x.kind = 2 ∧ ¬ d.dirIn)) then 7
      else if (d.typ = 1 ∨ d.typ = 2) ∧ c.handle = 0 then 8
      else 0
    | _, _ => 2

/-- The read of an OPEN's entry has completed: the ring or the entry is opened from the next tick, or the OPEN is
rejected or refused. A failed read opens nothing (DEDUCED, log entry 23). (DEDUCED, log entry 103.) -/
def State.tableDone (s : State) (i e : Nat) (ok : Bool) (b : List Byte) : State :=
  let d : Door := { inst := i, op := 1, entry := e, value := 0 }
  let gen := (s.instOf i).gen
  if ¬ ok then s
  else if e < 16 then
    let x := cringOf b gen
    if x.log2 < 4 ∨ x.base % 64 ≠ 0 then s.rejectDoor d 6
    else
      let s1 := s.putEntry i e (some x)
      { s1 with rings := { s1.rings with crOpen := s1.rings.crOpen ++ [(i, e)] } }
  else
    let x := entryOf b gen
    if ¬ s.crOpened i x.cring then s.rejectDoor d 7
    else match s.openDetail i e x with
      | 0 => s.putEntry i e (some x)
      | n => s.pushState i e x 17 n

/-- At the tick: bindings take effect with their OPENED records, completion rings open and close (R174, R175). A RING accepted before it
stands in the context's ENQ (R165). -/
def State.ringsTick (s : State) : State :=
  s.rings.tab.foldl (fun t p =>
    let i := p.1 / 16384
    let e := p.1 % 16384
    match p.2 with
    | none => t
    | some x =>
      if x.kind = 0 then
        (if x.closing.isSome then
          let t1 := t.putBit (Reg.INS_CR_OPEN i) e false
          if t1.rings.recs.any fun r => r.inst == i && r.cring == e then t1 else t1.putEntry i e none
         else if ¬ x.live then
          (t.editEntry i e fun y => { y with live := true, prod := 0, cons := 0 }).putBit (Reg.INS_CR_OPEN i) e true
         else t)
      else if ¬ x.live then
        let k := seaKey x.sea
        let t1 := (t.editEntry i e fun y => { y with live := true }).editCtx k fun c =>
          { c with state := if c.valid then 2 else 0, inst := i, gen := x.gen, entry := e, format := x.format, enq := x.enq, deq := 0, retries := 0
                   done := 0, runCrc := 0, newest := 0 }
        let t2 := (t1.pushState i e x 16 0).autoPin k
        (t2.showBound i).finishClose i e
      else t) { s with alloc := { s.alloc with pinFull := false } }

/-! ### Starting descriptors (R176, R179, R182) -/

/-- Descriptors up to here may start now: those made available before this frame, all of them in a closing entry
(R172). -/
def Entry.eligible (x : Entry) (frame : Nat) : Nat := if x.ringFrame = frame ∧ x.closing.isNone then x.ringPrev else x.enq

/-- An empty descriptor in place of one whose read failed, with the free TAG. -/
def blankDesc (i e idx : Nat) : Desc :=
  { index := idx, bytes := zeros 12 ++ leBytes 4 (Config.unreadTag (entKey i e) idx % 65536) ++ zeros 16, started := none
    fails := 0, stage := .setup, moved := 0, zlp := false, crcRun := 0xFFFFFFFF, stop := none }

/-- The descriptor at DEQ could not be read (R160): HOST_ERROR with DETAIL 1, or its entry's closing code. -/
def State.descReadFail (s : State) (i e : Nat) : State :=
  match s.entry i e with
  | some x =>
    let s1 := s.putEntry i e (some { x with fetch := false, desc := some (blankDesc i e x.deq) })
    match x.closing with
    | some (code, _) => (s1.endDesc i e code 0).finishClose i e
    | none => s1.endDesc i e 9 1
  | none => s

/-- R182: the next descriptor of a ring starts: a place for its record is reserved and it is read. -/
def execDescriptorStart (i entry : Nat) (s : State) : Out :=
  match s.entry i entry with
  | some x =>
    let state := ((s.ctx (seaKey x.sea)).map (·.state)).getD 0
    let room : Bool := match s.entry i x.cring with
      | some r => r.live && decide (r.room > 0)
      | none => false
    if x.kind = 1 ∧ x.live ∧ x.desc.isNone ∧ ¬ x.fetch ∧ s.pfiStops = false ∧ x.deq ≠ x.eligible s.frame ∧ room ∧
        (state = 2 ∨ x.closing.isSome) then
      let s1 := (s.reserve i x.cring).editEntry i entry fun y => { y with fetch := true }
      let (s2, ok) := s1.instRead i (pasidOf x.pasid) (x.base + (x.deq % x.size) * 32) 32 .desc entry s.frame x.deq
      .next (if ok then s2 else s2.descReadFail i entry)
    else .next s
  | none => .next s

/-- Requests that only the H24 itself issues (R158, R179). -/
def restricted (w0 : Nat) : Bool :=
  let typ := (w0 / 2 ^ 21) % 4
  let req := (w0 / 2 ^ 8) % 256
  (typ == 0 && (req == 0x05 || req == 0x09)) || (typ == 1 && (req == 0x23 || req == 0x24))

/-- DESC_ERROR's DETAIL (R181); 0 for none. `ctl`: the ring is bound to an EP0 context. (DEDUCED, log entry 107.) -/
def descError (d : Desc) (ctl : Bool) : Nat :=
  let rsv := leAt d.bytes 0x0B 1 ≠ 0 ∨ (d.word3 / 2 ^ 16) % 2 ^ 9 ≠ 0 ∨ leAt d.bytes 0x1E 2 ≠ 0 ∨
    (if d.dtype = 1 then leAt d.bytes 0x19 3 ≠ 0 else leAt d.bytes 0x14 8 ≠ 0)
  if d.dtype ≥ 2 then 1
  else if (d.dtype = 1) ≠ ctl then 2
  else if d.dtype = 1 ∧ d.len ≠ d.setup 2 / 2 ^ 12 then 3
  else if rsv then 4
  else 0

/-- The read of a descriptor has completed (R176 to R179). -/
def State.descDone (s : State) (i e idx : Nat) (ok : Bool) (b : List Byte) : State :=
  match s.entry i e with
  | some x =>
    if ¬ x.fetch then s
    else if ¬ ok then s.descReadFail i e
    else
      let d : Desc := { blankDesc i e idx with bytes := b }
      let s1 := (s.putEntry i e (some { x with fetch := false, desc := some d })).editCtx (seaKey x.sea) fun c =>
        { c with done := 0, retries := 0, runCrc := 0 }
      match x.closing with
      | some (code, _) => (s1.endDesc i e code 0).finishClose i e
      | none =>
        match descError d (seaEp x.sea == 0) with
        | 0 =>
          if d.dtype = 1 ∧ restricted (d.setup 0) then s1.endDesc i e 11 0
          else if d.dtype = 0 ∧ seaDir x.sea ∧ d.len = 0 then s1.endDesc i e 0 0
          else s1
        | n => s1.endDesc i e 8 n
  | none => s

/-- R230: at a tick, a descriptor whose TIMEOUT frames have passed completes TIMEOUT; a transaction in progress ends
first. (DEDUCED, log entry 43.) -/
def execDescriptorTimeout (i entry : Nat) (s : State) : Out :=
  match s.entry i entry with
  | some x =>
    match x.desc with
    | some d =>
      match d.started with
      | some f =>
        if d.timeout ≠ 0 ∧ since32 s.frame f ≥ d.timeout ∧ ¬ s.entryBusy i entry then .next (s.endDesc i entry 6 0)
        else .next s
      | none => .next s
    | none => .next s
  | none => .next s

/-! ### Completion records (R182, R183, R424) -/

/-- A record may be written: the data of its descriptor is written, its ring is open, and there is a place for it. -/
def State.recReady (s : State) (r : CRec) : Bool :=
  !(r.resv && s.xfer.bulkIn.any fun w => w.inst == r.inst && w.entry == r.entry && w.index == leAt r.bytes 4 2) &&
  (match s.entry r.inst r.cring with
    | some x => x.live && (r.resv || decide (x.room > 0))
    | none => false)

/-- Write record `r` into its completion ring `x`. -/
def State.writeCRec (s : State) (r : CRec) (x : Entry) : State :=
  let i := r.inst
  let addr := x.base + (x.prod % x.size) * 32
  let phase := 1 - (x.prod / x.size) % 2
  let p := pasidOf x.pasid
  let s1 := (s.instWrite i p addr r.bytes false false).instWrite i p (addr + 28) (leBytes 4 (phase * 2 ^ 31)) false false
  let s2 := s1.editEntry i r.cring fun y => { y with prod := (y.prod + 1) % 65536 }
  if r.notify then s2.occur (513 + 8 * i) (2 ^ r.cring) else s2

/-! ### Periodic IN slots (R184 to R186, R188) -/

/-- Service index of frame `f`, and its slot. -/
def svcIndex (f k : Nat) : Nat := f / 2 ^ k
def Entry.slotOf (x : Entry) (idx : Nat) : Nat := idx % x.size

/-- Payload bytes of `n` words in the entry's form, and the slot stride (R184, R188). -/
def slotStride (x : Entry) (maxWords : Nat) : Nat :=
  let pay := (if x.format = 1 then 4 else 3) * maxWords
  16 + (pay + 15) / 16 * 16

/-- Words packed into bytes: three bytes a word, or sign-extended into four (R188). -/
def packWords (unpacked : Bool) (ws : List Nat) : List Byte :=
  ws.flatMap fun w => if unpacked then leBytes 4 (ofSigned 32 (toSigned 24 w)) else leBytes 3 w

def unpackWords (unpacked : Bool) (n : Nat) (b : List Byte) : List Nat :=
  (List.range n).map fun j => if unpacked then leAt b (4 * j) 4 % 2 ^ 24 else leAt b (3 * j) 3

/-- Distance by which index `idx` lies below NEWEST, in the index's own width (R185); 0 where it does not. -/
def belowNewest (newest idx k : Nat) : Nat :=
  let m := 2 ^ (32 - k)
  let d := (newest + m - idx % m) % m
  if d < m / 2 then d else 0

/-- A service that ends without DATA and without NO_SAMPLE: a periodic-assured IN service enters history recovery
(R224). -/
def State.enterRecovery (s : State) (w : SlotW) : State :=
  if w.assured ∧ ¬ w.hist ∧ w.result ≠ 1 then
    let h : HistRec :=
      { key := w.key, inst := w.inst, gen := w.gen, entry := w.entry, sframe := w.sframe, tries := 0, triedAt := none
        catchup := false }
    { s with xfer := { s.xfer with hists := s.xfer.hists ++ [h] } }
  else s

/-- A slot whose sample was collected and does not reach host memory: recovery begins only now. -/
def State.lateRecovery (s : State) (w : SlotW) : State :=
  if w.result = 0 then s.enterRecovery { w with result := 2 } else s

/-- The endpoint stands in a GATHER entry of the active graph (R261). -/
def State.gathers (s : State) (key : Nat) : Bool :=
  let b := match s.red.active with
    | some 0 => s.red.bank0
    | some _ => s.red.bank1
    | none => none
  match b with
  | some g => g.nodes.any fun x => x.op == 1 && (List.range (x.p.getD 1 0).toNat).any fun k =>
      let sea := g.pool.getD ((x.p.getD 0 0).toNat + 2 * k) 0
      seaCtrl sea == s.ctrlNo && seaDir sea && seaKey sea == key
  | none => false

/-- Issue the four writes of a slot (R186) and count it in the context. `poison`: a payload word is uncorrectable
(R233). (DEDUCED, log entry 206.) -/
def State.writeSlot (s : State) (w : SlotW) (x : Entry) (c : Ctx) (poison : Bool) : State :=
  let idx := svcIndex w.sframe c.k
  let a := x.base + x.slotOf idx * slotStride x c.maxWords
  let data := w.result = 0 ∧ ¬ poison
  let pay := if w.result = 0 then packWords (x.format == 1) w.words else []
  let late := since32 s.frame ((w.sframe + 1) % 2 ^ 32)
  let lateness := if late < 2 ^ 31 then min late 0xFF else 0
  let result := if poison then 2 else w.result
  let hdr := leBytes 4 ((w.sframe + 2 ^ 32 - 1) % 2 ^ 32) ++
    leBytes 4 (result * 2 ^ 29 + b2n w.fly * 2 ^ 28 + b2n w.hist * 2 ^ 27 + b2n (w.notRed || (w.hist && s.gathers w.key)) * 2 ^ 26 +
      (if data then w.words.length else 0) * 2 ^ 16 + (if result = 2 then w.cause else 0) * 2 ^ 14 + s.ctrlNo * 2 ^ 8 + lateness) ++
    leBytes 4 (if data then crc32c pay else 0)
  let p := pasidOf x.pasid
  let put (t : State) (off : Nat) (b : List Byte) (rel poi : Bool) : State := t.instWrite w.inst p (a + off) b rel poi
  let s1 := put s 12 (leBytes 4 (c.wcount * 2 + 1)) false false
  let s2 := if pay.isEmpty then s1 else put s1 16 pay true poison
  let s3 := put (put s2 0 hdr false false) 12 (leBytes 4 (c.wcount * 2)) false false
  let newer := ¬ x.wrote ∨ belowNewest c.newest idx c.k = 0
  let s4 := (s3.editCtx w.key fun y => { y with
    wcount := (y.wcount + 1) % 2 ^ 31, newest := if newer then idx else y.newest }).editEntry w.inst w.entry fun y =>
      { y with wrote := true }
  if poison then ((s4.bump Fd.XFR_CHECK_POISONED).setEvent 18 Fd.XFR_EVENT_POISONED).lateRecovery w else s4

/-- The collected sample of slot `w` is none of the run's: its slot was not written with RESULT DATA at its due time (R252). -/
def State.dropColl (s : State) (w : SlotW) : State :=
  if w.hist then s
  else { s with xfer := { s.xfer with coll := s.xfer.coll.filter fun c => !(c.key == w.key && c.frame == w.sframe) } }

/-- Write one slot, or drop it: an old generation's is discarded (R281), a closed list's dropped (R175), a late one
counted STALE (R185). One that cannot be issued leaves nothing written (R160). The sample of a service whose slot does not take DATA is
valid in no run (R252). -/
def State.slotOut (s0 : State) (w : SlotW) (ok : Bool) (errs word : Nat) : State :=
  let s := s0.dropColl w
  if w.gen ≠ (s.instOf w.inst).gen then s.countDiscard w.inst
  else match s.entry w.inst w.entry, s.ctx w.key with
    | some x, some c =>
      if x.kind ≠ 2 then s
      else if x.wrote ∧ belowNewest c.newest (svcIndex w.sframe c.k) c.k ≥ x.size then
        s.editCtx w.key fun y => { y with stale := sat (y.stale + 1) 0xFFFF }
      else
        let p := pasidOf x.pasid
        if s.isoKind w.inst p ≠ 0 then (s.countIso w.inst p).lateRecovery w
        else if ¬ (ok ∧ s.portUp (s.instOf w.inst).port) then s.lateRecovery w
        else if w.result = 0 then
          let bad := decide (errs ≥ 2) && !w.words.isEmpty
          let t := if bad then s else s0
          (if w.words.isEmpty then t else t.eccRead 1 word errs).writeSlot w x c bad
        else s.writeSlot w x c false
    | _, _ => s

/-- R186: the next slot of the previous frame's bank is written (R217). `ok`: its port can issue writes; `errs`: bits in
error that the read of the bank finds, in word `word` of memory 1. -/
def execInSlotWrite (ok : Bool) (errs word : Nat) (s : State) : Out :=
  match s.xfer.slots.find? fun w => since32 s.frame w.bank == 1 with
  | none => .next s
  | some w =>
    if ¬ s.mayDrain (s.instOf w.inst).port then .next s
    else .next (({ s with xfer := { s.xfer with slots := s.xfer.slots.erase w } }).slotOut w ok errs word)

/-! ### Periodic OUT slots (R187) -/

/-- Device `a` is served here from the next tick on: its hub is taken over then, or moves here (R357, R363). -/
def State.arriving (s : State) (a : Nat) : Bool :=
  let hubs := (s.pair.takes.filter fun t => !t.live && t.g == s.frame).flatMap (·.hubs) ++
    (s.pair.moves.filter fun m => since32 m.target s.frame == 1).map (·.hub)
  hubs.any fun h => (s.spur h).contains a

/-- The periodic OUT endpoint `key` has a slot to be read in this frame, for the service of the next (R187, R216). -/
def State.slotDue (s : State) (key : Nat) : Option (Nat × Nat × Entry × Ctx) :=
  let f := (s.frame + 1) % 2 ^ 32
  match s.boundEntry key, s.ctx key with
  | some (i, e), some c =>
    match s.entry i e with
    | some x =>
      let due := s.alloc.grants.any fun g => g.key == key && s.serviceIn g f
      if x.kind = 2 ∧ x.live ∧ ¬ seaDir x.sea ∧ due ∧ (¬ s.omitted (key / 16) ∨ s.arriving (key / 16)) ∧
          ¬ (s.xfer.outs.any fun o => o.key == key && o.frame == f) then some (i, e, x, c) else none
    | none => none
  | _, _ => none

/-- R187: during frame S − 1 the slot of service S is read whole; its WSEQ is read a second time after it. -/
def execOutSlotFetch (key : Nat) (s : State) : Out :=
  let f := (s.frame + 1) % 2 ^ 32
  match s.slotDue key with
  | some (i, e, x, c) =>
    if s.mayDrain (s.instOf i).port then
      let st := slotStride x c.maxWords
      let a := x.base + x.slotOf (svcIndex f c.k) * st
      let (s1, ok) := s.instRead i (pasidOf x.pasid) a st .slot key f 0
      let o : OutSvc :=
        { key := key, inst := i, gen := (s.instOf i).gen, entry := e, frame := f, first := none, words := []
          st := if ok then .reading else .failed }
      .next { s1 with xfer := { s1.xfer with outs := s1.xfer.outs ++ [o] } }
    else .next s
  | none => .next s

def State.editOut (s : State) (key f : Nat) (g : OutSvc → OutSvc) : State :=
  { s with xfer := { s.xfer with outs := s.xfer.outs.map fun o => if o.key = key ∧ o.frame = f then g o else o } }

/-- The first read of a slot has completed: WSEQ is read again. (DEDUCED, log entry 115.) -/
def State.slotFirst (s : State) (key f : Nat) (ok : Bool) (b : List Byte) : State :=
  match s.xfer.outs.find? (fun o => o.key == key && o.frame == f), s.ctx key with
  | some o, some c =>
    match s.entry o.inst o.entry with
    | some x =>
      let a := x.base + x.slotOf (svcIndex f c.k) * slotStride x c.maxWords
      let (s1, sent) := if ok then s.instRead o.inst (pasidOf x.pasid) (a + 12) 4 .slotSeq key f 0 else (s, false)
      s1.editOut key f fun y => if sent then { y with first := some b } else { y with st := .failed }
    | none => s.editOut key f fun y => { y with st := .failed }
  | _, _ => s

/-- The judgement of a slot once its second WSEQ has come (R187). -/
def judgeSlot (x : Entry) (c : Ctx) (f wseq : Nat) (b : List Byte) : OutState × List Nat :=
  let n := (leAt b 4 4 / 2 ^ 16) % 1024
  let size := (if x.format = 1 then 4 else 3) * n
  if leAt b 0 4 ≠ f ∨ leAt b 12 4 % 2 = 1 ∨ leAt b 12 4 ≠ wseq then (.notReady, [])
  else if n > c.intent then (.badLength, List.replicate n 0)
  else if x.e2e ∧ crc32c (slice b 16 size) ≠ leAt b 8 4 then (.checkFailed, unpackWords (x.format == 1) n (b.drop 16))
  else (.ready, unpackWords (x.format == 1) n (b.drop 16))

/-- The second read has completed. -/
def State.slotSecond (s : State) (key f : Nat) (ok : Bool) (b : List Byte) : State :=
  match s.xfer.outs.find? (fun o => o.key == key && o.frame == f), s.ctx key with
  | some o, some c =>
    match o.first, s.entry o.inst o.entry with
    | some b0, some x =>
      if ok then
        let (st, ws) := judgeSlot x c f (leAt b 0 4) b0
        let s1 := s.editOut key f fun y => { y with st := st, words := ws }
        if st = .checkFailed then s1.bump Fd.XFR_CHECK_E2E else s1
      else s.editOut key f fun y => { y with st := .failed }
    | _, _ => s.editOut key f fun y => { y with st := .failed }
  | _, _ => s

/-- Result word `r` leaves the queue for its slot. `ok`: its port can issue writes. -/
def State.resultOut (s : State) (ok : Bool) (r : OutRes) : State :=
  let s1 := { s with xfer := { s.xfer with results := s.xfer.results.erase r } }
  if r.gen ≠ (s.instOf r.inst).gen then s1.countDiscard r.inst
  else match s1.entry r.inst r.entry, s1.ctx r.key with
    | some x, some c =>
      let a := x.base + x.slotOf (svcIndex r.frame c.k) * slotStride x c.maxWords
      let w := r.result * 2 ^ 29 + r.words * 2 ^ 16 + s.ctrlNo * 2 ^ 8
      if ok ∧ s1.portUp (s1.instOf r.inst).port then
        s1.instWrite r.inst (pasidOf x.pasid) (a + 4) (leBytes 4 w) false false
      else s1
    | _, _ => s1

/-- R187: the next result word is written into its slot. -/
def execOutSlotResultWrite (ok : Bool) (s : State) : Out :=
  match s.xfer.results with
  | [] => .next s
  | r :: _ => if ¬ s.mayDrain (s.instOf r.inst).port then .next s else .next (s.resultOut ok r)

/-- R187: dword 1 for service S is written before the tick of frame S + 2; `f`: the frame that begins. -/
def State.resultsDue (s : State) (f : Nat) : State :=
  (s.xfer.results.filter fun r => 2 ≤ since32 f r.frame).foldl (fun t r => t.resultOut (!t.portHeld (t.instOf r.inst).port) r) s

end Sys2Proof.Machine
end

