-- ==== Sys2Proof/Machine/Launch.lean ====
section
/-! DEFINITION. When a transaction of the current frame can be launched, and when it ends at the latest (03, R70; 05, R126, R127;
08, R219, R220, R226). Two transactions that share a hub's link share its root link at the same distance, so the root link's word times
decide for every link of a path. (DEDUCED, log entry 235.) -/

namespace Sys2Proof.Machine

/-- A link of the path to device `a` is in RECOVERY: the root link, or a hub's link that its hub last reported so (R225). The fuel bounds
the tiers. -/
def State.hubsRecover (s : State) : Nat → Nat → Bool
  | 0, _ => false
  | n + 1, a =>
    match s.dev a with
    | some d => d.recov || s.hubsRecover n d.link.hub
    | none => false

/-- Address 0 stands for the device that an enumeration of the port addresses so far: its path is its hub's and the link below it (R146). -/
def State.pathRecovers (s : State) (p a : Nat) : Bool :=
  s.linkState p == 8 ||
  (if a = 0 then ((s.tree.enums.find? fun e => e.link.port == p).map fun e => s.hubsRecover 7 e.link.hub).getD false else s.hubsRecover 7 a)

/-- Delay and TURN of the link through which hub `addr` of the partner's is asked for (R353). -/
def State.probePath (s : State) (p addr : Nat) : Nat × Nat :=
  match s.xfer.ctls.findSome? fun c => match c.use with
    | .probe hub hport => if c.port = p ∧ c.addr = addr ∧ c.result.isNone then some (hub, hport) else none
    | _ => none with
  | some (hub, hport) =>
    match s.tree.waiting.find? fun w => w.1 == { port := p, hport := hport, hub := hub } with
    | some (_, _, delay, turn) =>
      (match s.dev hub with
        | some h => (h.down + h.fwd + delay, turn)
        | none => (delay, turn))
    | none => (0, 0)
  | none => (0, 0)

/-- Delay of the path to device `addr` and TURN of its upstream link; at address 0 those of the enumeration in progress. -/
def State.pathTo (s : State) (p addr : Nat) : Nat × Nat :=
  match s.dev addr with
  | some d => (d.down, d.turn)
  | none =>
    match s.tree.enums.find? fun e => e.link.port == p && (addr == 0 || e.addr == addr) with
    | some e => (e.down, e.turn)
    | none => s.probePath p addr

/-- What a transaction occupies: `len` data words sent after its SOP, `cap` the largest LEN of its answer (R126, R190, R219). -/
def State.needOf (s : State) (p addr : Nat) (dirIn stamped answered ack : Bool) (len cap : Nat) : Need :=
  let x := s.pathTo p addr
  let down := if dirIn then 2 else len + 5 + b2n stamped
  { down := down, ack := ack, up := if dirIn then cap + 4 + b2n stamped else if answered then 2 else 0
    resp := 64 * (down - 1) + 2 * x.1 + 512 + x.2 % 64, path := x.1 }

/-- Units of 1/64 wt in whole word times, taken up. -/
def wtUp (u : Nat) : Nat := (u + 63) / 64

/-- The word time of the downstream ACK: the first one after the largest answer. -/
def Need.ackAt (n : Need) : Nat := wtUp (n.resp + 64 * (n.up - 1))

/-- The latest end, its answer and any ACK having passed every link of the path (R70, R220): the answer's window closes 4 wt after E
(R126), or the largest answer from E and the ACK have passed. -/
def Need.done (n : Need) : Nat :=
  if n.up = 0 then n.down + wtUp n.path
  else max (wtUp n.resp + 4) (if n.ack then n.ackAt + 1 + wtUp n.path else n.ackAt)

def State.lane (s : State) (p : Nat) : Lane := SMap.get Lane.reset s.xfer.lanes p

def State.putLane (s : State) (p : Nat) (l : Lane) : State :=
  { s with xfer := { s.xfer with lanes := SMap.put Lane.reset p l s.xfer.lanes } }

/-- [a, b) meets none of the intervals. -/
def vacant (a b : Nat) (l : List (Nat × Nat)) : Bool := a == b || l.all fun x => decide (b ≤ x.1) || decide (x.2 ≤ a)

/-- Every word of a launch at `t` finds its word time free. -/
def Lane.free (l : Lane) (n : Need) (t : Nat) : Bool :=
  vacant t (t + n.down) l.down && (!n.ack || vacant (t + n.ackAt) (t + n.ackAt + 1) l.down) &&
  vacant (64 * t + n.resp) (64 * t + n.resp + 64 * n.up) l.up

/-- Word times at which something that was taken becomes free for a launch. -/
def Lane.edges (l : Lane) (n : Need) : List Nat :=
  l.down.map (·.2) ++ (l.down.filter fun x => n.ackAt ≤ x.2).map (fun x => x.2 - n.ackAt) ++
  (l.up.filter fun x => n.resp ≤ x.2).map (fun x => wtUp (x.2 - n.resp))

/-- R219: the earliest word time, no earlier than the launch before it and `floor`, at which all is free. -/
def Lane.earliest (l : Lane) (n : Need) (floor : Nat) : Nat :=
  let t := max l.cursor floor
  let ok := (l.edges n).filter fun x => decide (t ≤ x) && l.free n x
  if l.free n t then t
  else match ok with
    | [] => t
    | x :: r => r.foldl min x

/-- Word times of the frame that have passed for certain. -/
def State.wtNow (s : State) : Nat := (s.time.cyc - s.time.tickCyc) / 5

/-- Delay added to the launch of a port's SOF by SOF_JITTER (R402), in core cycles. -/
def State.sofJitter (s : State) (p : Nat) : Nat :=
  match s.scree.inj 4 with
  | some i => if i.port = p then Config.sofJitter p s.frame % (i.p0 + 1) else 0
  | none => 0

/-- The frame's first launch on a root port: 16 wt after the tick, later by what SOF_JITTER delays the first token and by the W wt that
OVERRUN keeps free (R219, R402). (DEDUCED, log entry 14.) -/
def State.firstWt (s : State) (p : Nat) : Nat :=
  let w := match s.scree.inj 5 with
    | some i => if i.port = p then i.p0 else 0
    | none => 0
  16 + (s.sofJitter p + 4) / 5 + w

/-- The launch of a transaction with device `addr` (R127, R219). `floor`: where its region begins. -/
def State.launchAt (s : State) (p addr : Nat) (n : Need) (floor : Nat) : Nat :=
  let l := s.lane p
  let free := ((l.busy.find? fun x => x.1 == addr).map (·.2)).getD 0
  l.earliest n (max (max floor (s.firstWt p)) (max free s.wtNow))

/-- R70: the transaction, launched as early as it can be, ends by `limit` whatever its answer. -/
def State.roomBy (s : State) (p addr : Nat) (n : Need) (floor limit : Nat) : Bool :=
  decide (s.launchAt p addr n floor + n.done ≤ limit)

/-- A periodic transaction may start: it ends by the hard stop. -/
def State.periodicFits (s : State) (p addr : Nat) (n : Need) : Bool := s.roomBy p addr n 16 s.stopWt

/-- A transaction of the bulk region may start: after the port's periodic work, and ending by the start of Col. -/
def State.bulkFits (s : State) (p addr : Nat) (n : Need) : Bool := s.roomBy p addr n (s.lane p).tail s.time.colWt

/-- Take the word times of a launch at `t`. `last`: it ends then, for no answer is awaited. -/
def State.takeWt (s : State) (p : Nat) (n : Need) (t : Nat) (last : Bool) : State :=
  let l := s.lane p
  s.putLane p { l with
    cursor := t
    down := l.down ++ (t, t + n.down) :: (if n.ack then [(t + n.ackAt, t + n.ackAt + 1)] else [])
    up := if n.up = 0 then l.up else l.up ++ [(64 * t + n.resp, 64 * t + n.resp + 64 * n.up)]
    tail := if last then max l.tail (t + n.done) else l.tail }

/-- The word time at which an answered transaction has ended for its device's next token: its window has closed, or its `len` + 1 answer
words and the ACK have passed. (DEDUCED, log entry 235.) -/
def Txn.endWt (t : Txn) (silent acked : Bool) (words : Nat) : Nat :=
  if silent then t.start + wtUp t.need.resp + 4 else t.start + wtUp (t.need.resp + 64 * words) + b2n acked

/-- An answered transaction frees its device, and moves the end of the periodic work. -/
def State.laneEnd (s : State) (t : Txn) (silent acked periodic : Bool) (words : Nat) : State :=
  let l := s.lane t.port
  let e := t.endWt silent acked words
  s.putLane t.port { l with
    busy := (t.addr, e) :: l.busy.filter fun x => x.1 != t.addr
    tail := if periodic then max l.tail (if acked then e + wtUp t.need.path else e) else l.tail }

/-- The latest end of what is still open on root port `p` (R69, R111). -/
def State.openEnd (s : State) (p : Nat) : Nat :=
  (s.xfer.opens.filter fun t => t.port == p).foldl (fun (m : Nat) (t : Txn) => max m (t.start + t.need.done)) 0

end Sys2Proof.Machine
end

