-- ==== Sys2Proof/Machine/XferOps.lean ====
section
/-! DEFINITION. Shared operations of the transfer engine: packets on the wire (05), the plan of a frame, the outcome of
every kind of transaction (08, R216 to R231). -/

namespace Sys2Proof.Machine

/-! ### Packets (R117, R119 to R121) -/

/-- One bit into the CRC-24 (R120). -/
def crc24Step (c : Nat) (b : Bool) : Nat :=
  let t := (c * 2) % 2 ^ 24
  if bitAt c 23 != b then t ^^^ 0x864CFB else t

/-- The `n` low bits of `v`, most significant first. -/
def crc24 (v : Nat) : Nat → Nat → Nat
  | 0, c => c
  | n + 1, c => crc24 v n (crc24Step c (bitAt v n))

/-- CHECK of a packet: over TARGET and EP of its token, the SOP BODY, and the data words before it (R120). -/
def packetCheck (target ep sop : Nat) (ws : List Nat) : Nat :=
  ws.foldl (fun c w => crc24 w 24 c) (crc24 sop 16 (crc24 ep 4 (crc24 target 13 0xB704CE)))

def sopBody (pid xtra len : Nat) : Nat := pid * 2 ^ 12 + xtra * 2 ^ 10 + len % 1024

/-- Bytes packed three to a word, and PAD (R119). -/
def wordsOfBytes (b : List Byte) : List Nat × Nat :=
  let n := (b.length + 2) / 3
  ((List.range n).map fun j => leAt b (3 * j) 3, 3 * n - b.length)

def bytesOfWords (ws : List Nat) (pad : Nat) : List Byte :=
  let b := packWords false ws
  b.take (b.length - pad)

def State.addSent (s : State) (x : Sent) : State := { s with xfer := { s.xfer with sent := s.xfer.sent ++ [x] } }

/-- The words of what is sent (R97, R117, R119, R122). -/
def Sent.wordList (x : Sent) : List (Bool × Nat) :=
  if x.kind = 6 then [(true, control 0x36 x.addr)]
  else [(true, control 0x39 (x.kind * 2 ^ 13 + x.addr)), (false, x.ep * 2 ^ 20 + x.hseq)] ++
    (match x.sop with
      | some b => (true, control 0x33 b) :: x.words.map (fun w => (false, w)) ++ [(true, control 0x35 (b2n x.abort * 2 ^ 15))]
      | none => [])

/-- What was sent last goes out from word time `t` on, scrambled from there (R95, R219). -/
def State.placeSent (s : State) (p t : Nat) : State :=
  let l := s.lp p
  let m := iterate (fun _ x => lfsrWord x) (t - l.scrAt) l.scr
  let f (x : Sent) : Sent := { x with start := t, line := lineWords m x.bad x.wordList }
  let s1 := s.editLp p fun y => { y with scr := m, scrAt := max t y.scrAt }
  { s1 with xfer := { s1.xfer with sent := s1.xfer.sent.dropLast ++ (s1.xfer.sent.getLast?.map f).toList } }

/-- Send a token and the packet that follows it, if any. `periodic`: in the periodic region, where LINK_ERR may hit its
data words (R402). -/
def State.sendToken (s : State) (p kind addr ep hseq : Nat) (sop : Option Nat) (ws : List Nat) (abort periodic : Bool) : State :=
  let data := match sop with
    | some b => ws ++ [packetCheck addr ep b ws]
    | none => []
  let (bad, s1) := if periodic then s.linkErr p 1 (1 + data.length) else (0, s)
  s1.addSent { port := p, kind := kind, addr := addr, ep := ep, hseq := hseq, sop := sop, words := data, abort := abort, bad := bad }

/-- The downstream ACK of a transaction's answer (R122, R127), in the word time reserved for it (R219). -/
def State.sendAck (s : State) (t : Txn) : State :=
  let x : Sent :=
    { port := t.port, kind := 6, addr := t.addr, ep := 0, hseq := 0, sop := none, words := [], abort := false, bad := 0
      start := t.start + t.need.ackAt }
  s.addSent { x with line := lineWords 0 0 x.wordList }

/-- How a transaction was answered. -/
inductive Answer where
  | data (words : List Nat) (xtra pid : Nat)
  | damaged
  | ack
  | nrdy (reason : Nat)
  | stall
  | err (reason : Nat)
  | none
  deriving DecidableEq, Repr

/-! ### Open transactions (R127) -/

def State.findTxn (s : State) (p addr : Nat) : Option Txn := s.xfer.opens.find? fun t => t.port == p && t.addr == addr

def State.openTxn (s : State) (t : Txn) : State :=
  { s with xfer := { s.xfer with opens := s.xfer.opens ++ [t], used := s.xfer.used + t.hold } }

def State.closeTxn (s : State) (t : Txn) : State :=
  { s with xfer := { s.xfer with opens := s.xfer.opens.erase t, used := s.xfer.used - t.hold } }

/-- Words of the current bank that the charged load and other work leave (R216). -/
def State.bankFree (s : State) : Nat := 131072 - s.load bufMap (s.frame % 64) - s.xfer.used

def State.takeBank (s : State) (n : Nat) : State := { s with xfer := { s.xfer with used := s.xfer.used + n } }

/-! ### Judging a packet (R121, R221) -/

/-- Is the packet of this transaction stamped (R119)? -/
def Txn.stamped (t : Txn) : Bool := t.kind == .periodic || t.kind == .hist

/-- STAMP that a good packet carries: FRAME_SEQ of the frame before the service (R129, R224). -/
def Txn.stamp (t : Txn) : Nat := (t.frame + 2 ^ 32 - 1) % 2 ^ 24

/-- PIDs that suit the transaction (R128, R135). -/
def State.pidSuits (s : State) (t : Txn) (pid : Nat) : Bool :=
  match t.kind with
  | .hist => pid == 3
  | .periodic => pid == 1 || (pid == 2 && ((s.ctx t.key).map (·.typ)).getD 1 == 2)
  | _ => pid == 1 || pid == 2

/-- The packet is damaged under R121. -/
def wireDamaged (t : Txn) (sop : Nat) (ws : List Nat) (bad ended abort : Bool) : Bool :=
  let len := sop % 1024
  bad || !ended || abort || ws.length != len + b2n t.stamped + 1 ||
    ws.getLast? != some (packetCheck t.addr t.ep sop ws.dropLast)

/-- A packet judged under R221; LEN of a control or bulk packet is held against MAX_WORDS (DEDUCED, log entry 40). (DEDUCED, log entry 108.) -/
def State.judgePacket (s : State) (t : Txn) (sop : Nat) (ws : List Nat) (bad ended abort : Bool) : Answer :=
  let len := sop % 1024
  let pid : Nat := (sop / 2 ^ 12) % 16
  let xtra : Nat := (sop / 2 ^ 10) % 4
  let c := s.ctx t.key
  let cap : Nat := if t.stamped then (c.map (·.intent)).getD 1 else if t.ep = 0 then 64 else (c.map (·.maxWords)).getD 0
  let body : List Nat := ws.dropLast
  if wireDamaged t sop ws bad ended abort then .damaged
  else if len > cap ∨ ¬ s.pidSuits t pid ∨ (t.stamped ∧ (body.headD 0 ≠ t.stamp ∨ xtra % 2 = 1)) ∨ (¬ t.stamped ∧ xtra = 3) then
    .damaged
  else .data (if t.stamped then body.drop 1 else body) xtra pid

/-- The arrival E of the first answer word, in 1/64 wt from the tick (R126). -/
def Txn.answerAt (t : Txn) : Nat := 64 * t.start + t.need.resp

/-- The response windows [E - 2 wt, E + 4 wt) of two transactions of a link overlap (R126, R219). -/
def Txn.overlaps (t x : Txn) : Bool := decide (t.answerAt < x.answerAt + 384) && decide (x.answerAt < t.answerAt + 384)

/-- A handshake BODY names the transaction: EP and ADDR_LO (R122). -/
def Txn.named (t : Txn) (body : Nat) : Bool := decide ((body / 2 ^ 9) % 16 = t.ep) && decide ((body / 16) % 32 = t.addr % 32)

/-- The open transactions of port `p` whose windows a word in that of device `addr` may answer: that one first, and, since windows
overlap only after an OUT transaction, those beside an OUT one (R219). -/
def State.windows (s : State) (p addr : Nat) : List Txn :=
  match s.findTxn p addr with
  | some t => t :: s.xfer.opens.filter fun x => x.port == p && x.addr != addr && t.overlaps x && (!t.dirIn || !x.dirIn)
  | none => []

/-- The transaction that a handshake arriving in the window of device `addr` answers: the one that EP and ADDR_LO name among the open
windows; where they name none, that device's own, which then has no response (R122). -/
def State.hskTxn (s : State) (p addr body : Nat) : Option Txn :=
  match (s.windows p addr).find? fun t => t.named body with
  | some t => some t
  | none => s.findTxn p addr

/-- The transaction that an SOP arriving there begins the answer of: an IN transaction only (R219). -/
def State.sopTxn (s : State) (p addr : Nat) : Option Txn := (s.windows p addr).find? (·.dirIn)

/-- What an upstream handshake says (R122, R123); one that does not match its token, or that no table lists, is no
response (DESIGN CHOICE for the latter, log entry 41). -/
def hskAnswer (t : Txn) (body : Nat) : Answer :=
  let reason := body % 16
  if (body / 2 ^ 9) % 16 ≠ t.ep ∨ (body / 16) % 32 ≠ t.addr % 32 then .none
  else match body / 2 ^ 13 with
    | 0 => .ack
    | 1 => if reason ≤ 1 then .nrdy reason else .none
    | 2 => .stall
    | 3 => .err reason
    | _ => .none

/-! ### Services of the plan (R184, R219, R222 to R225) -/

def State.setSvc (s : State) (v : Svc) : State :=
  { s with xfer := { s.xfer with svcs := s.xfer.svcs.map fun y => if y.key = v.key then v else y } }

def State.liveSvc (s : State) (key : Nat) : Option Svc := s.xfer.svcs.find? fun v => v.key == key && !v.past

/-- The words of an OUT service (R187). -/
def State.outWords (s : State) (key frame : Nat) : List Nat :=
  ((s.xfer.outs.find? fun o => o.key == key && o.frame == frame).map OutSvc.words).getD []

/-- A service ends with a RESULT: its slot joins its bank, and an assured IN service without DATA enters recovery. A
system grant has no slot (R202). -/
def State.settle (s : State) (v : Svc) (result : Nat) (ws : List Nat) (fly : Bool) : State :=
  let s1 := s.setSvc { v with past := true }
  if v.entry = 0 then s1
  else if v.dirIn then
    let w : SlotW :=
      { key := v.key, inst := v.inst, gen := v.gen, entry := v.entry, sframe := v.frame, bank := s.frame, result := result
        fly := fly, hist := false, cause := v.cause, words := ws, notRed := false, assured := v.assured }
    let s2 := { s1 with xfer := { s1.xfer with slots := s1.xfer.slots ++ [w] } }
    if result = 0 then
      { s2 with xfer := { s2.xfer with coll := s2.xfer.coll ++ [{ key := v.key, frame := v.frame, words := ws }] } }
    else s2.enterRecovery w
  else
    let r : OutRes :=
      { key := v.key, inst := v.inst, gen := v.gen, entry := v.entry, frame := v.frame, result := result
        words := (s.outWords v.key v.frame).length }
    { s1 with xfer := { s1.xfer with results := s1.xfer.results ++ [r] } }

/-- Why a transaction is deferred (R225). -/
inductive DeferWhy where
  | overrun | page | link
  deriving DecidableEq, Repr

/-- Count a deferral of a context; a context that is not cached takes the count once it is (R210). -/
def State.countDeferral (s : State) (key : Nat) (why : DeferWhy) : State :=
  let s1 := match s.ctxEnt key with
    | some e =>
      if e.st = .clean ∨ e.st = .dirty then s.editCtx key fun c => { c with deferrals := sat (c.deferrals + 1) 0xFFFF }
      else s.putCtxEnt key (some { e with defer := e.defer + 1 })
    | none => s
  match why with
  | .link => s1.bump Fd.XFR_DEFER_LINK
  | .page => (s1.bump Fd.SCH_PAGE_LATE_LATE).setEvent 17 Fd.SCH_EVENT_PAGE_LATE
  | .overrun => s1

/-- A periodic service is deferred: RESULT DEFERRED at its due time (R225). -/
def State.deferSvc (s : State) (v : Svc) (why : DeferWhy) : State :=
  (s.countDeferral v.key why).settle { v with cause := 0 } 3 [] false

/-- The next place in the list (R219: the retry pass follows the order of the failures). -/
def State.nextOrder (s : State) : Nat := s.xfer.svcs.foldl (fun n v => max n (v.order + 1)) 0

/-- One failed attempt of a service with a CAUSE (R222). -/
def State.failSvc (s : State) (v : Svc) (cause : Nat) (retry : Bool) : State :=
  let s1 := s.editCtx v.key fun c => { c with errors := sat (c.errors + 1) 0xFFFF }
  let v1 := { v with cause := cause }
  if v.assured ∧ retry ∧ v.attempts < 1 + s.retryReserve then s1.setSvc { v1 with order := s1.nextOrder }
  else s1.settle v1 2 [] false

/-- XFR_WITHDRAWN and its event (R223). -/
def State.countWithdrawn (s : State) : State := (s.bump Fd.XFR_WITHDRAWN_COUNT).setEvent 18 Fd.XFR_EVENT_WITHDRAWN

/-- The toggle after a good packet of an assured IN endpoint; after a takeover the first one's becomes the own copy (R134,
R357). -/
def State.takeToggle (s : State) (key pid : Nat) : State :=
  let own := s.pair.adopt.contains key
  let s1 := if own then { s with pair := { s.pair with adopt := s.pair.adopt.filter (· != key) } } else s
  s1.editCtx key fun c => { c with toggle := if own then 2 - pid else 1 - c.toggle }

/-- The outcome of an attempt at a periodic service (R222, R223). Good data of a hub's EP1 is reported to the caller by
the flag. (DEDUCED, log entry 110.) -/
def State.periodicAnswer (s : State) (t : Txn) (a : Answer) : State :=
  match s.liveSvc t.key with
  | none => s
  | some v =>
    match a, v.dirIn with
    | .data ws xtra pid, true =>
      let s1 := if v.assured then (s.sendAck t).takeToggle v.key pid else s
      s1.settle { v with ready := true, cause := 0 } 0 ws (bitAt xtra 1)
    | .damaged, true => s.failSvc { v with ready := true } 2 true
    | .nrdy 1, true =>
      (s.editCtx v.key fun c => { c with noSample := sat (c.noSample + 1) 0xFFFF }).settle { v with cause := 0 } 1 [] false
    | .nrdy _, true =>
      if v.ready then s.countWithdrawn.settle { v with cause := 3 } 2 [] false else s.failSvc v 3 true
    | .ack, false => (s.editCtx v.key fun c => { c with toggle := 1 - c.toggle }).settle { v with cause := 0 } 0 [] false
    | .nrdy 0, false => s.failSvc v 3 true
    | .err 1, _ => s.failSvc v 3 true
    | .err 3, _ => s.failSvc v 3 false
    | _, _ => s.failSvc v 1 true

/-! ### History recovery (R224) -/

def State.dropHist (s : State) (h : HistRec) : State :=
  { s with xfer := { s.xfer with hists := s.xfer.hists.erase h } }

/-- A recovery, or a catch-up (R361), ends without DATA. -/
def State.histLost (s : State) (h : HistRec) : State :=
  let s1 := s.dropHist h
  if h.catchup then s1.catchLost
  else (s1.bump Fd.XFR_HIST_LOST).setEvent 18 Fd.XFR_EVENT_HIST_LOST

/-- The answer to a HIST attempt. -/
def State.histAnswer (s : State) (t : Txn) (a : Answer) : State :=
  match s.xfer.hists.find? fun h => h.key == t.key && h.sframe == t.frame with
  | none => s
  | some h =>
    match a with
    | .data ws xtra _ =>
      let w : SlotW :=
        { key := h.key, inst := h.inst, gen := h.gen, entry := h.entry, sframe := h.sframe, bank := s.frame, result := 0
          fly := bitAt xtra 1, hist := true, cause := 0, words := ws, notRed := false, assured := true }
      let s1 := (s.dropHist h).takeBank (ws.length + 1)
      (({ s1 with xfer := { s1.xfer with slots := s1.xfer.slots ++ [w] } }).bump
        (if h.catchup then Fd.PAR_CATCHUP_RECOVERED else Fd.XFR_HIST_RECOVERED))
    | .err 2 => s.histLost h
    | _ => if h.tries ≥ 3 ∧ ¬ h.catchup then s.histLost h else s

/-! ### Control and bulk (R131, R133, R134, R178, R226 to R231) -/

/-- Contexts not polled again in this frame (R226). -/
def State.setPolled (s : State) (key : Nat) : State := { s with xfer := { s.xfer with polled := key :: s.xfer.polled } }

/-- A ready indication for the current descriptor (R221). -/
def State.setReadied (s : State) (key : Nat) : State := { s with xfer := { s.xfer with readied := key :: s.xfer.readied } }

/-- An NRDY: the endpoint waits for the next frame; after a ready indication the transaction is withdrawn (R223). -/
def State.nrdyBulk (s : State) (key : Nat) : State :=
  if s.xfer.readied.contains key then s.countWithdrawn.setPolled key else s.setPolled key

/-- Toggle of endpoint `ep` of device `a` to DATA0; `halt`: a HALTED context becomes ACTIVE (R134, R231). -/
def State.resetToggle (s : State) (halt : Bool) (k : Nat) : State :=
  s.editCtx k fun c => { c with toggle := 0, state := if halt ∧ c.state = 3 then 2 else c.state }

/-- The device's state follows a request that has completed, whoever asked for it: remote wake, group slots, routes, the reset of a hub's port
(R134, R136, R145, R149, R152). -/
def State.noteRequest (s : State) (a : Nat) (setup : List Nat) : State :=
  let w0 := setup.getD 0 0
  let typ := (w0 / 2 ^ 21) % 4
  let req := (w0 / 2 ^ 8) % 256
  let value := setup.getD 1 0 % 2 ^ 16
  let index := setup.getD 2 0 % 2 ^ 12
  let l : LinkSel := { port := ((s.dev a).map (·.link.port)).getD 0, hport := index % 16, hub := a }
  let reset := decide (typ = 1 ∧ req = 0x21 ∧ value = 1) && (s.dev a).isSome
  let s1 := if reset then { s with tree := { s.tree with resetPorts := s.tree.resetPorts ++ [l] } } else s
  s1.editDev a fun d =>
    if typ = 0 ∧ req = 0x03 ∧ value = 1 then { d with wakeEn := true }
    else if typ = 0 ∧ req = 0x01 ∧ value = 1 then { d with wakeEn := false }
    else if typ = 0 ∧ req = 0x0B then
      { d with groups := (d.groups.filter fun g => g.1 != index) ++ (if value = 0xFFFF then [] else [(index, value)]) }
    else if typ = 1 ∧ req = 0x23 then
      { d with routes := (d.routes.filter fun r => r.1 != value) ++ (if index = 0 then [] else [(value, index)]) }
    else d

/-- The status stage of a request has been received (R134, R231). -/
def State.requestDone (s0 : State) (a : Nat) (setup : List Nat) : State :=
  let s := s0.noteRequest a setup
  let w0 := setup.getD 0 0
  let ep := setup.getD 2 0 % 16
  let req := (w0 / 2 ^ 8) % 256
  if (w0 / 2 ^ 21) % 4 ≠ 0 then s
  else if req = 0x09 then foldN (State.resetToggle · false ·) s ((s.devKeys a).filter fun k => k % 16 != 0)
  else if (req = 0x01 ∧ setup.getD 1 0 % 2 ^ 16 = 0 ∧ (w0 / 2 ^ 19) % 4 = 1) ∨ req = 0x0A then s.resetToggle true (a * 16 + ep)
  else s

/-- Bytes of one full packet of a context. -/
def packetBytes (c : Ctx) : Nat := 3 * c.maxWords

/-- Change the descriptor in progress. -/
def State.editDesc (s : State) (i e : Nat) (f : Desc → Desc) : State :=
  s.editEntry i e fun x => { x with desc := x.desc.map f }

/-- End the descriptor in progress, and its entry's close if one waits (R175). -/
def State.finishDesc (s : State) (i e code detail : Nat) : State := (s.endDesc i e code detail).finishClose i e

/-- A failed transaction in a context's counts (R227). -/
def State.countFail (s : State) (key : Nat) : State :=
  s.editCtx key fun c => { c with errors := sat (c.errors + 1) 0xFFFF, retries := sat (c.retries + 1) 0xFF }

/-- A failure counted against ERR_RETRY adds one to RETRIES, the one that completes the descriptor too (R227); `err`: the device
answered ERR. XFR_RETRY.BULK counts the retries. (DEDUCED, log entry 42.) -/
def State.failDesc (s : State) (i e key : Nat) (d : Desc) (err : Bool) : State :=
  let s1 := s.countFail key
  if d.fails ≥ s.get Fd.XFR_CTRL_ERR_RETRY then
    (if err then s1.finishDesc i e 4 1 else s1.finishDesc i e 3 0)
  else (s1.editDesc i e fun y => { y with fails := y.fails + 1 }).bump Fd.XFR_RETRY_BULK

/-- The setup words of a CONTROL descriptor. -/
def Desc.setups (d : Desc) : List Nat := [d.setup 0, d.setup 1, d.setup 2]

/-- A control transfer of a descriptor is complete (R131). -/
def State.controlComplete (s : State) (i e : Nat) (a : Nat) (d : Desc) : State :=
  (s.requestDone a d.setups).finishDesc i e (if d.moved < d.len ∧ bitAt (d.setup 0) 23 then 1 else 0) 0

/-- Bytes of a good IN packet that the descriptor has room for. -/
def Desc.keep (d : Desc) (ws : List Nat) (pad : Nat) : List Byte := (bytesOfWords ws pad).take (d.len - d.moved)

/-- The bytes of a good IN data packet move: they wait to be written, DONE advances and the toggle flips (R133, R228, R229). -/
def State.bytesIn (s : State) (i e : Nat) (x : Entry) (d : Desc) (ws : List Nat) (pad : Nat) : State :=
  let key := seaKey x.sea
  let keep := d.keep ws pad
  let d1 := { d with moved := d.moved + keep.length, crcRun := crc32cFrom d.crcRun keep, fails := 0 }
  let w : BulkW :=
    { inst := i, gen := x.gen, entry := e, key := key, index := d.index, off := d.moved, crc := d.crcRun
      addr := d.buf + d.moved, bytes := keep, bank := s.frame }
  let s1 := if keep.isEmpty then s
    else { s with xfer := { s.xfer with bulkIn := s.xfer.bulkIn ++ [w], used := s.xfer.used + ws.length } }
  (s1.editDesc i e fun _ => d1).editCtx key fun y =>
    { y with toggle := 1 - y.toggle, done := d1.moved, runCrc := crcOut d1.crcRun }

/-- A good IN data packet of a descriptor's data stage (R178, R228). (DEDUCED, log entry 109.) -/
def State.acceptIn (s : State) (i e : Nat) (x : Entry) (c : Ctx) (d : Desc) (ws : List Nat) (pad : Nat) : State :=
  let n := (d.keep ws pad).length
  let s2 := s.bytesIn i e x d ws pad
  if (bytesOfWords ws pad).length > n then s2.finishDesc i e 15 0
  else if ws.length < c.maxWords ∨ pad ≠ 0 ∨ d.moved + n ≥ d.len then
    (if d.dtype = 1 then s2.editDesc i e fun y => { y with stage := .status }
     else s2.finishDesc i e (if d.moved + n < d.len then 1 else 0) 0)
  else s2

/-- The `n` bytes of an acknowledged OUT packet have moved (R133, R229). -/
def State.bytesOut (s : State) (i e : Nat) (x : Entry) (d : Desc) (n : Nat) : State :=
  let key := seaKey x.sea
  let b := ((s.xfer.bulkOut.find? fun o => o.key == key && o.index == d.index && o.off == d.moved && o.frame == s.frame).map
    (·.bytes)).getD []
  let d1 := { d with moved := d.moved + n, crcRun := crc32cFrom d.crcRun (b.take n), fails := 0, zlp := decide (n = 0) }
  (s.editDesc i e fun _ => d1).editCtx key fun y =>
    { y with toggle := 1 - y.toggle, done := d1.moved, runCrc := crcOut d1.crcRun }

/-- The acknowledged OUT packet of `n` bytes. -/
def State.acceptOut (s : State) (i e : Nat) (x : Entry) (c : Ctx) (d : Desc) (n : Nat) : State :=
  let s1 := s.bytesOut i e x d n
  let more := d.zlpOn ∧ d.dtype = 0 ∧ d.len ≠ 0 ∧ d.len % packetBytes c = 0 ∧ n ≠ 0
  if d.moved + n ≥ d.len ∧ ¬ more then
    (if d.dtype = 1 then s1.editDesc i e fun y => { y with stage := .status } else s1.finishDesc i e 0 0)
  else s1

/-- The setup stage is acknowledged: the data stage begins with DATA1 (R134). -/
def State.setupDone (s : State) (i e : Nat) (key : Nat) (d : Desc) : State :=
  (s.editDesc i e fun y => { y with fails := 0, stage := if d.len ≠ 0 then .data else .status }).editCtx key fun y =>
    { y with toggle := 1 }

/-- The end of one transaction of a descriptor that waited for it to end with a code (Races, R217, R233). (DEDUCED, log entry 111.) -/
def State.stopDesc (s : State) (i e : Nat) : State :=
  match (s.entry i e).bind (·.desc) with
  | some d =>
    match d.stop with
    | some (code, detail) => s.finishDesc i e code detail
    | none => s
  | none => s

/-- The transaction in progress of a descriptor that ends with another code than its own once the transaction has ended (R160, R175, R233): what
has moved, and what the device has taken, stands. Bytes behind the one that a failed write (code 9) ends it at are not taken. -/
def State.lastAnswer (s : State) (t : Txn) (a : Answer) (x : Entry) (c : Ctx) (d : Desc) (code : Nat) : State :=
  let (i, e, k) := (t.inst, t.entry, t.key)
  let status := decide (d.dtype = 1 ∧ d.stage = CtlStage.status)
  match a with
  | .data ws xtra pid =>
    let s0 := s.sendAck t
    if status then s0.requestDone t.addr d.setups
    else if pid = 1 + c.toggle ∧ code = 7 then s0.bytesIn i e x d ws xtra
    else s0
  | .ack =>
    if t.dirIn then s.countFail k
    else if t.setup then s.setupDone i e k d
    else if status then s.requestDone t.addr d.setups
    else s.bytesOut i e x d t.bytes
  | .nrdy _ => s.nrdyBulk k
  | .stall => s.editCtx k fun y => { y with state := 3 }
  | .err 3 => s.editCtx k fun y => { y with errors := sat (y.errors + 1) 0xFFFF }
  | _ => s.countFail k

/-- The outcome of a transaction of a control or bulk descriptor (R227); one that only waited for it ends with its own code (R175). -/
def State.descAnswer (s : State) (t : Txn) (a : Answer) : State :=
  match s.entry t.inst t.entry, s.ctx t.key with
  | some x, some c =>
    match x.desc with
    | none => s
    | some d =>
      let (i, e, k) := (t.inst, t.entry, t.key)
      match d.stop with
      | some (code, _) => (s.lastAnswer t a x c d code).stopDesc i e
      | none =>
        match a with
        | .data ws xtra pid =>
          let s0 := (s.sendAck t).setReadied k
          if d.dtype = 1 ∧ d.stage = CtlStage.status then s0.controlComplete i e t.addr d
          else if pid ≠ 1 + c.toggle then s0.editDesc i e fun y => { y with fails := 0 }
          else s0.acceptIn i e x c d ws xtra
        | .damaged => (s.setReadied k).failDesc i e k d false
        | .ack =>
          if t.dirIn then s.failDesc i e k d false
          else if t.setup then s.setupDone i e k d
          else if d.dtype = 1 ∧ d.stage = CtlStage.status then s.controlComplete i e t.addr d
          else s.acceptOut i e x c d t.bytes
        | .nrdy _ => s.nrdyBulk k
        | .stall => (s.editCtx k fun y => { y with state := 3 }).finishDesc i e 2 0
        | .err 1 => s.failDesc i e k d true
        | .err 3 => (s.editCtx k fun y => { y with errors := sat (y.errors + 1) 0xFFFF }).finishDesc i e 4 3
        | _ => s.failDesc i e k d false
  | _, _ => s

/-! ### Control transfers of the H24's own (R131, R146) -/

/-- The request in progress at device `a` on port `p`: the oldest without a result. -/
def State.sysAt (s : State) (p a : Nat) : Option SysCtl :=
  s.xfer.ctls.find? fun c => c.port == p && c.addr == a && c.result.isNone

/-- Change the request in progress at a device. -/
def editFirst (q : SysCtl → Bool) (f : SysCtl → SysCtl) : List SysCtl → List SysCtl
  | [] => []
  | c :: l => if q c then f c :: l else c :: editFirst q f l

def State.editSys (s : State) (p a : Nat) (f : SysCtl → SysCtl) : State :=
  { s with xfer := { s.xfer with ctls := editFirst (fun c => c.port == p && c.addr == a && c.result.isNone) f s.xfer.ctls } }

def SysCtl.len (c : SysCtl) : Nat := c.setup.getD 2 0 / 2 ^ 12
def SysCtl.dirIn (c : SysCtl) : Bool := bitAt (c.setup.getD 0 0) 23

/-- Issue a request to device `a` on port `p`. -/
def State.issueSys (s : State) (p a : Nat) (setup : List Nat) (out : List Byte) (use : SysUse) : State :=
  let c : SysCtl :=
    { port := p, addr := a, setup := setup, out := out, use := use, stage := .setup, begun := none, moved := 0, toggle := 0
      fails := 0, got := [], result := none }
  { s with xfer := { s.xfer with ctls := s.xfer.ctls ++ [c] } }

/-- The three setup words of a request (R132). -/
def setupWords (dirIn : Bool) (typ rcpt request value len index : Nat) : List Nat :=
  [b2n dirIn * 2 ^ 23 + typ * 2 ^ 21 + rcpt * 2 ^ 19 + request * 2 ^ 8, value % 2 ^ 16, len * 2 ^ 12 + index % 2 ^ 12]

def State.failSys (s : State) (p a : Nat) (c : SysCtl) (err : Bool) : State :=
  if c.fails ≥ s.get Fd.XFR_CTRL_ERR_RETRY then s.editSys p a fun y => { y with result := some (if err then 3 else 2) }
  else (s.editSys p a fun y => { y with fails := y.fails + 1 }).bump Fd.XFR_RETRY_BULK

/-- EP0's context follows the toggle of its control transfers (R134). -/
def State.sysToggle (s : State) (a t : Nat) : State := s.editCtx (a * 16) fun c => { c with toggle := t }

/-- The request is complete. -/
def State.sysComplete (s : State) (p a : Nat) (c : SysCtl) : State :=
  (s.editSys p a fun y => { y with result := some 0 }).requestDone a c.setup

/-- The outcome of a transaction of such a request (R227). -/
def State.sysAnswer (s : State) (t : Txn) (a : Answer) : State :=
  match s.sysAt t.port t.addr with
  | none => s
  | some c =>
    let (p, d) := (t.port, t.addr)
    match a with
    | .data ws xtra pid =>
      let s0 := (s.sendAck t).setReadied t.key
      if c.stage = CtlStage.status then s0.sysComplete p d c
      else if pid ≠ 1 + c.toggle then s0.editSys p d fun y => { y with fails := 0 }
      else
        let b := bytesOfWords ws xtra
        let keep := b.take (c.len - c.moved)
        let ends := ws.length < 64 ∨ xtra ≠ 0 ∨ c.moved + keep.length ≥ c.len
        (s0.editSys p d fun y => { y with
          got := y.got ++ keep, moved := y.moved + keep.length, toggle := 1 - y.toggle, fails := 0
          stage := if ends then .status else .data
          result := if b.length > keep.length then some 5 else none }).sysToggle d (1 - c.toggle)
    | .damaged => (s.setReadied t.key).failSys p d c false
    | .ack =>
      if t.dirIn then s.failSys p d c false
      else if t.setup then
        (s.editSys p d fun y => { y with
          fails := 0, toggle := 1, stage := if c.len ≠ 0 then .data else .status }).sysToggle d 1
      else if c.stage = CtlStage.status then s.sysComplete p d c
      else
        (s.editSys p d fun y => { y with
          fails := 0, toggle := 1 - y.toggle, moved := y.moved + t.bytes
          stage := if y.moved + t.bytes ≥ c.len then .status else .data }).sysToggle d (1 - c.toggle)
    | .nrdy _ => s.nrdyBulk t.key
    | .stall => s.editSys p d fun y => { y with result := some 1 }
    | .err 1 => s.failSys p d c true
    | .err 3 => s.editSys p d fun y => { y with result := some 3 }
    | _ => s.failSys p d c false

/-- Which devices answered in this frame, and which did not (R359). -/
def State.noteAnswer (s : State) (addr : Nat) (a : Answer) : State :=
  match a with
  | .none => { s with pair := { s.pair with silent := s.pair.silent ++ [addr] } }
  | _ => { s with pair := { s.pair with spoke := s.pair.spoke ++ [addr] } }

/-- A transaction is answered: it closes, and its outcome takes effect. What an aborted packet belonged to has ended. -/
def State.answered (s : State) (t : Txn) (a : Answer) : State :=
  let s1 := (s.noteAnswer t.addr a).closeTxn t
  if t.abort then s1.stopDesc t.inst t.entry
  else match t.kind with
    | .periodic => s1.periodicAnswer t a
    | .hist => s1.histAnswer t a
    | .system => s1.sysAnswer t a
    | _ => s1.descAnswer t a

/-! ### The plan of a frame (R187, R216, R218, R219, R222) -/

/-- Length P of the periodic region of port `p` (R218). -/
def State.periodicLen (s : State) (p : Nat) : Nat :=
  if s.xfer.svcs.any fun v => v.port == p then
    max (s.load { kind := 1, up := false, num := p } (s.frame % 64)) (s.load { kind := 1, up := true, num := p } (s.frame % 64)) +
      s.get Fd.SCH_POLICY0_TAIL_WT
  else 0

/-- The service of a grant in the current frame, `none` where its device is gone or its list is not bound. (DEDUCED, log entry 119.) -/
def State.svcOf (s : State) (g : Grant) : Option Svc :=
  let a := g.key / 16
  match s.dev a, s.epDesc a (g.key % 16) with
  | some d, some ep =>
    let mk (i gen e : Nat) : Svc :=
      { key := g.key, port := d.link.port, addr := a, ep := g.key % 16, dirIn := ep.dirIn, assured := ep.typ == 2
        frame := s.frame, inst := i, gen := gen, entry := e, attempts := 0, ready := false, cause := 0, past := false
        order := 0 }
    if g.system then some (mk 0 0 0)
    else match s.boundEntry g.key with
      | some (i, e) =>
        match s.entry i e with
        | some x => if x.kind = 2 ∧ x.live ∧ x.closing.isNone then some (mk i x.gen e) else none
        | none => none
      | none => none
  | _, _ => none

/-- Insert a service in the order of R219: device address, endpoint number, OUT before IN. -/
def insertSvc (v : Svc) : List Svc → List Svc
  | [] => [v]
  | x :: l =>
    let k (y : Svc) : Nat := y.key * 2 + b2n y.dirIn
    if k v < k x then v :: x :: l else x :: insertSvc v l

/-- Number the services from `n`. -/
def numberSvcs (n : Nat) : List Svc → List Svc
  | [] => []
  | v :: l => { v with order := n } :: numberSvcs (n + 1) l

/-- An OUT service whose slot is not ready to be sent ends at once (R187, R222); the rest of the plan stays. -/
def State.judgeOut (s : State) (v : Svc) : State :=
  if v.dirIn then s
  else match (s.xfer.outs.find? fun o => o.key == v.key && o.frame == v.frame).map OutSvc.st with
    | some .ready => s
    | some .checkFailed => s.settle v 4 [] false
    | some .badLength => s.settle v 5 [] false
    | some .failed => s.settle v 2 [] false
    | _ => s.settle v 1 [] false

/-- Build the plan of the current frame. -/
def State.planFrame (s : State) : State :=
  let due := s.alloc.grants.filter fun g => s.serviceIn g s.frame && !s.omitted (g.key / 16)
  let vs := numberSvcs 0 ((due.filterMap s.svcOf).foldl (fun l v => insertSvc v l) [])
  let s1 := { s with xfer := { s.xfer with svcs := vs } }
  let s2 := vs.foldl (fun t v => if t.pair.resets.contains v.key ∧ ¬ v.dirIn then t.deferSvc v .overrun else t.judgeOut v) s1
  { s2 with xfer := { s2.xfer with plens := s2.portList.foldl (fun m p => SMap.put (fun _ => 0) p (s2.periodicLen p) m) [] } }

/-- The bank index advances (R216). -/
def State.advanceBank (s : State) : State :=
  let b := if s.xfer.start then s.frame % 3 else (s.get Fd.XFR_STATUS_BANK + 1) % 3
  let s1 := s.put Fd.XFR_STATUS_BANK b
  { s1 with xfer := { s1.xfer with start := false } }

/-- Recoveries whose window S + 1 to S + 3 is over end (R224), and catch-ups whose sample has left history (R135, R360). -/
def State.endWindows (s : State) : State :=
  s.xfer.hists.foldl (fun t h =>
    let depth := ((s.ctx h.key).map (·.hist)).getD 0
    if since32 s.frame h.sframe > (if h.catchup then depth - 1 else 3) then t.histLost h else t) s

/-- DEFERRED_LINK for control and bulk work on a link in RECOVERY (R225). -/
def State.deferLinks (s : State) : State :=
  s.rings.tab.foldl (fun t y =>
    match y.2 with
    | some x =>
      let k := seaKey x.sea
      let p := ((s.dev (k / 16)).map (·.link.port)).getD 0
      if x.hasWork ∧ (s.dev (k / 16)).isSome ∧ s.pathRecovers p (k / 16) then t.countDeferral k .link else t
    | none => t) s

/-- A transaction still open at the end of its frame ends without an answer: its window lies in its frame. (DEDUCED, log entry 116.) -/
def State.closeOpens (s : State) : State := s.xfer.opens.foldl (fun t x => t.answered x .none) s

/-- Words of frame `f`'s bank that bulk OUT packets take: those fetched, and those whose reads are outstanding (R216). -/
def State.fetchedWords (s : State) (f : Nat) : Nat :=
  (s.xfer.bulkOut.filter fun (o : BulkOut) => o.frame == f).foldl (fun (n : Nat) (o : BulkOut) => n + (o.bytes.length + 2) / 3)
    ((s.host.reads.filter fun r => r.use == .out && r.frame == f && !r.dead).foldl (fun (n : Nat) (r : HostRead) => n + (r.len + 2) / 3) 0)

/-- The transfer engine's work at a tick, once the old frame's transactions are closed. -/
def State.xferTick (s : State) : State :=
  let s2 := { s with xfer := { s.xfer with
    polled := [], readied := [], sent := [], deferred := 0, lanes := []
    outs := s.xfer.outs.filter fun o => since32 o.frame s.frame < 2
    bulkOut := s.xfer.bulkOut.filter fun o => since32 o.frame s.frame < 2
    coll := s.xfer.coll.filter fun c => since32 s.frame c.frame < 4
    ahead := [], used := s.fetchedWords s.frame } }
  (s2.advanceBank.endWindows.deferLinks).planFrame

end Sys2Proof.Machine
end

