-- ==== Sys2Proof/Machine/TreeOps.lean ====
section
/-! DEFINITION. Shared operations of the tree (05): ACC_DELAY and E, enumeration, hub changes, the links below hubs, and what
follows when a request of the H24's own has ended (R126, R140 to R152, R158). -/

namespace Sys2Proof.Machine

/-! ### Delays (R76, R126) -/

/-- What of it ACC_DELAY takes in: all of it with COMP, nothing without. -/
def State.accJitter (s : State) (p : Nat) : Nat :=
  match s.scree.inj 4 with
  | some i => if bitAt i.p1 0 then s.sofJitter p else 0
  | none => 0

/-- ACC_DELAY at the pins of the root port, in 1/64 wt: the tick's excess over the boundary, and the launch offset (R76). A
core cycle is 12.8 units. -/
def State.accBase (s : State) (p : Nat) : Nat :=
  let excess := (s.time.stamp + sysWrap - s.time.boundary * nsUnit) % sysWrap
  let cyc := 8 + (Config.launchOffset p s.frame).val + s.accJitter p
  (roundDiv ((excess * 512 + cyc * 1280 * nsUnit : Nat) : Int) (100 * nsUnit)).toNat

/-- SOF_CHECK over the 60 content bits of words 0 to 4 (R98). -/
def sofCheck (c : List Nat) : Nat := (c.take 5).foldl (fun x w => crc24 w 12 x) 0xB704CE

/-- The 16 BODYs of an SOF from its five content words (R98). -/
def sofBodies (c : List Nat) : List Nat :=
  let k := sofCheck c
  let l := c.take 5 ++ [k / 2 ^ 12, k % 2 ^ 12] ++ List.replicate 9 0
  (List.range 16).map fun i => i * 2 ^ 12 + l.getD i 0

/-- The content of an SOF whose words 0 to 6 carry their index and whose SOF_CHECK holds (R98, R100). -/
def sofContent (bodies : List Nat) : Option (List Nat) :=
  let c := bodies.map (· % 2 ^ 12)
  if 7 ≤ bodies.length ∧ (List.range 7).all (fun i => bodies.getD i 0 / 2 ^ 12 == i) ∧
      c.getD 5 0 * 2 ^ 12 + c.getD 6 0 = sofCheck c then some c
  else none

/-- Delay to a partner on link `l` whose one-way delay is `d`. -/
def State.downTo (s : State) (l : LinkSel) (d : Nat) : Nat :=
  if l.hub = 0 then d
  else match s.dev l.hub with
    | some h => h.down + h.fwd + d
    | none => d

/-- E of R126 in 1/64 wt. -/
def respE (down turn : Nat) : Nat := 64 + 2 * down + 512 + turn % 64

/-- The largest ACC_DELAY of any enumerated device (R78). -/
def State.maxAcc (s : State) : Nat := s.devices.foldl (fun m x => max m (s.accBase x.2.link.port + x.2.down)) 0

def State.strobeOffset (s : State) : Nat := s.get Fd.TIM_CTRL_STROBE_OFFSET

/-- The delay of link `l` itself, of the `d` to the partner on it (the inverse of `downTo`). -/
def State.ownDelay (s : State) (l : LinkSel) (d : Nat) : Nat := d - s.downTo l 0

/-- A link has lost word lock, or its hub reports it in RECOVERY, in this frame (R359): root port `n`, or 8 + the device on it. -/
def State.noteLock (s : State) (n : Nat) : State := { s with pair := { s.pair with lockLost := s.pair.lockLost ++ [n] } }

/-! ### Requests to hubs (R145) -/

/-- A hub-class request without data. -/
def State.hubSet (s : State) (hub request value index : Nat) (use : SysUse) : State :=
  match s.dev hub with
  | some h =>
    s.issueSys h.link.port hub (setupWords false 1 (if request = 0x23 ∨ request = 0x24 then 0 else 2) request value 0 index) [] use
  | none => s

/-- GET_PORT_STATUS of a hub's port. -/
def State.readPort (s : State) (hub q : Nat) (use : SysUse) : State :=
  match s.dev hub with
  | some h => s.issueSys h.link.port hub (setupWords true 1 2 0x20 0 10 q) [] use
  | none => s

/-- GET_HUB_STATUS. (R145) -/
def State.readHub (s : State) (hub : Nat) : State :=
  match s.dev hub with
  | some h => s.issueSys h.link.port hub (setupWords true 1 0 0x25 0 8 0) [] .hubStatus
  | none => s

/-- R140: a hub's EP1 report; every port with a change is read, and the hub itself. -/
def State.hubChange (s : State) (hub word : Nat) : State :=
  let s1 := foldN (fun t q =>
    if bitAt word q ∧ ¬ (t.xfer.ctls.any fun c => c.addr == hub && c.use == .portStatus q && c.result.isNone) then
      t.readPort hub q (.portStatus q) else t) s ((List.range 16).filter (1 ≤ ·))
  if bitAt word 0 then s1.readHub hub else s1

/-! ### Enumeration (R146, R147) -/

def State.enumOn (s : State) (p : Nat) : Option Enum := s.tree.enums.find? fun e => e.link.port == p

def State.setEnum (s : State) (e : Enum) : State :=
  { s with tree := { s.tree with enums := s.tree.enums.map fun x => if x.link.port = e.link.port then e else x } }

/-- TRE_STATUS.ENUM_BUSY follows the enumerations in progress. -/
def State.showEnums (s : State) : State :=
  s.put Fd.TRE_STATUS_ENUM_BUSY (s.portList.foldl (fun v p => v + b2n (s.enumOn p).isSome * 2 ^ p) 0)

def State.dropEnum (s : State) (p : Nat) : State :=
  ({ s with
    tree := { s.tree with enums := s.tree.enums.filter fun e => e.link.port != p }
    alloc := { s.alloc with waits := s.alloc.waits.filter (· != p) }
    xfer := { s.xfer with ctls := s.xfer.ctls.filter fun c => !(c.use == SysUse.enumerate && c.port == p) } }).showEnums

/-- The port of hub number `i` of a path that leads towards the new device. -/
def State.towards (s : State) (e : Enum) (i : Nat) : Nat :=
  match e.path[i + 1]? with
  | some h => ((s.dev h).map (·.link.hport)).getD 0
  | none => e.link.hport

/-- The hub that request number `pos` of a route loop goes to: from the root downward. -/
def Enum.hubAt (e : Enum) : Nat := e.path.getD e.pos 0

def numEp (dev : List Byte) : Nat := leAt dev 10 1
def devIsHub (dev : List Byte) : Bool := bitAt (leAt dev 1 1) 0

/-- Ports of a hub that supply cable power. -/
def powerPorts (hubd : List Byte) : List Nat := (List.range 16).filter fun q => q != 0 && bitAt (leAt hubd 4 2) q

/-- Address and setup words of the request that stands next; `none` where its loop is over. -/
def State.enumRequest (s : State) (e : Enum) : Option (Nat × List Nat) :=
  let route (value port : Nat) : Option (Nat × List Nat) :=
    if e.pos < e.path.length then some (e.hubAt, setupWords false 1 0 0x23 value 0 port) else none
  let once (a : Nat) (w : List Nat) : Option (Nat × List Nat) := if e.pos = 0 then some (a, w) else none
  match e.step with
  | .route0 => route 0 (s.towards e e.pos)
  | .devDesc => once 0 (setupWords true 0 0 0x06 1 32 0)
  | .serving => once 0 (setupWords true 1 0 0x25 0 8 0)
  | .setAddr => once 0 (setupWords false 0 0 0x05 e.addr 0 0)
  | .routeA => route e.addr (s.towards e e.pos)
  | .status => once e.addr (setupWords true 0 0 0x00 0 3 0)
  | .unroute0 => route 0 0
  | .epDesc => once e.addr (setupWords true 0 0 0x06 2 (8 * numEp e.dev) 0)
  | .hubDesc => if devIsHub e.dev then once e.addr (setupWords true 0 0 0x06 3 8 0) else none
  | .power =>
    if devIsHub e.dev then
      (powerPorts e.hubd)[e.pos]?.map fun q => (e.addr, setupWords false 1 2 0x21 3 0 q)
    else none
  | .config => once e.addr (setupWords false 0 0 0x09 1 0 0)

/-- The step after one whose requests are complete; a repeated SET_ADDRESS goes straight to GET_STATUS (Races). -/
def Enum.nextStep (e : Enum) : Option EnumStep :=
  match e.step with
  | .route0 => some .devDesc
  | .devDesc => some .setAddr
  | .serving => some .setAddr
  | .setAddr => some (if e.repeats = 0 then .routeA else .status)
  | .routeA => some .status
  | .status => some .unroute0
  | .unroute0 => some .epDesc
  | .epDesc => some .hubDesc
  | .hubDesc => some .power
  | .power => some .config
  | .config => none

/-- The commands that wait for the attachment on link `l` wait for it no longer. -/
def State.unwait (s : State) (l : LinkSel) : State :=
  let f (c : EnumCmd) : EnumCmd := { c with waits := c.waits.filter (· != l) }
  { s with tree := { s.tree with enumCmds := s.tree.enumCmds.map f } }

/-- Count an attachment that has ended in the commands that wait for it. -/
def State.enumEnded (s : State) (l : LinkSel) (added : Bool) : State :=
  let f (c : EnumCmd) : EnumCmd :=
    if c.waits.contains l then
      { c with waits := c.waits.filter (· != l), added := c.added + b2n added, refused := c.refused + b2n (!added) }
    else c
  { s with tree := { s.tree with enumCmds := s.tree.enumCmds.map f } }

/-- A link's row of the links kept disabled. -/
def State.offLink (s : State) (l : LinkSel) (power : Bool) : State :=
  { s with tree := { s.tree with offLinks := (s.tree.offLinks.filter fun o => o.link != l) ++ [{ link := l, power := power }] } }

def State.isOff (s : State) (l : LinkSel) : Bool := s.tree.offLinks.any fun o => o.link == l

/-- A root port's LNK_CTRL with DISABLE set or cleared. -/
def State.putDisable (s : State) (p : Nat) (v : Bool) : State := s.put (Fd.LNK_CTRL_DISABLE p) (b2n v)

/-- Disable a link: LNK_CTRL.DISABLE of the root port, or CLEAR_PORT_FEATURE(ENABLE) of the hub's port (R147, R158). -/
def State.disableLink (s : State) (l : LinkSel) (power : Bool) : State :=
  let s1 := s.offLink l power
  if l.hub = 0 then s1.putDisable l.port true else s1.hubSet l.hub 0x22 0 l.hport .plain

/-- A refusal (R147): TRE_REFUSE, REFUSED, the link disabled, the address back, the routes cleared; power that an over-current has removed
from the port stays noted (R141). (DEDUCED, log entry 93.) -/
def State.refuseDev (s : State) (e : Enum) (reason : Nat) : State :=
  let l := e.link
  let s1 := ((((s.put Fd.TRE_REFUSE_REASON reason).put Fd.TRE_REFUSE_PORT l.port).put Fd.TRE_REFUSE_HUB_PORT l.hport).put
    Fd.TRE_REFUSE_HUB_ADDR l.hub).bump Fd.TRE_REFUSE_COUNT_COUNT
  let s2 := ((s1.dropEnum l.port).enumEnded l false).setEvent 16 Fd.TRE_EVENT_REFUSED
  let s3 := if e.addr ≠ 0 then s2.holdAddr e.addr else s2
  let s4 := if e.addr ≠ 0 then foldN (fun t h => t.hubSet h 0x23 e.addr 0 .plain) s3 e.path else s3
  s4.disableLink l (s4.tree.offLinks.any fun o => o.link == l && o.power)

/-- An entry of R144's ENDPOINTS descriptor is right. -/
def epOk (b : List Byte) : Bool :=
  let ep := leAt b 0 1
  let typ := leAt b 1 1
  let hist := leAt b 5 1
  decide ((ep / 16) % 8 = 0 ∧ ep % 16 ≠ 0 ∧ 1 ≤ typ ∧ typ ≤ 3 ∧ 1 ≤ leAt b 2 2 ∧ leAt b 2 2 ≤ 1023 ∧ leAt b 4 1 ≤ 12 ∧
    leAt b 6 1 ≤ 1 ∧ leAt b 7 1 = 0) &&
  (if typ = 2 ∧ ep ≥ 128 then decide (4 ≤ hist ∧ hist ≤ 64) else hist == 0)

def epsOf (n : Nat) (b : List Byte) : List EpDesc :=
  (List.range n).map fun j =>
    let x := b.drop (8 * j)
    { num := leAt x 0 1 % 16, dirIn := decide (leAt x 0 1 ≥ 128), typ := leAt x 1 1, words := leAt x 2 2, minK := leAt x 4 1
      hist := leAt x 5 1, fmt := leAt x 6 1 }

def noRepeat : List Nat → Bool
  | [] => true
  | n :: l => !l.contains n && noRepeat l

/-- A descriptor breaks R144; one context for each endpoint number (R163) leaves no number twice (DEDUCED, log entry 44). -/
def badDescriptor (e : Enum) (d : List Byte) : Bool :=
  match e.step with
  | .devDesc =>
    d.length != 32 || leAt d 0 1 != 1 || decide (leAt d 1 1 ≥ 16) || decide (leAt d 10 1 > 15) || leAt d 11 1 != 0 ||
      leAt d 14 2 != 0 || leAt d 24 8 != 0
  | .epDesc =>
    let n := numEp e.dev
    d.length != 8 * n || !((List.range n).all fun j => epOk (d.drop (8 * j))) || !noRepeat ((epsOf n d).map (·.num))
  | .hubDesc => d.length != 8 || leAt d 0 1 == 0 || decide (leAt d 0 1 > 15) || decide (leAt d 1 1 > 1) || leAt d 6 2 != 0
  | _ => false

/-- Issue the request of an enumeration that stands next; steps without requests are passed over. The fuel bounds them. -/
def State.enumGo (s : State) (e : Enum) : Nat → State × Option Enum
  | 0 => (s, some e)
  | n + 1 =>
    match s.enumRequest e with
    | some (a, w) => ((s.setEnum { e with waiting := true }).issueSys e.link.port a w [] .enumerate, none)
    | none =>
      match e.nextStep with
      | some st => s.enumGo { e with step := st, pos := 0 } n
      | none => (s, some e)

/-- A fresh context of endpoint `ep` of a device (R165). -/
def newCtx (s : State) (d : Device) (a : Nat) (ep : EpDesc) : Ctx :=
  { valid := true, typ := ep.typ, state := 1, sea := seaOf ep.dirIn s.ctrlNo a ep.num, inst := d.owner
    gen := 0, entry := 0, format := 0, dfmt := ep.fmt, toggle := 0, maxWords := ep.words, k := 0, phase := 0
    port := d.link.port, tier := d.tier, hist := ep.hist, intent := 0, handle := 0, enq := 0, deq := 0, retries := 0, done := 0
    runCrc := 0, lastFrame := 0, newest := 0, wcount := 0, deferrals := 0, errors := 0, noSample := 0, stale := 0, wbSeq := 0 }

/-- Its entry: DIRTY in the cache, or, where no entry is FREE, held until it is paged in (R165, R208). -/
def newEnt (c : Ctx) (page frame : Nat) (room : Bool) : CtxEnt :=
  { ctx := c, st := if room then .dirty else .free, held := !room, autoPin := false, explPin := false, wbPin := false, pinAt := frame, locked := false
    used := frame, fails := 0, gone := false, defer := 0, page := page, lateIn := none }

/-- The instance whose ranges take an address (R276). -/
def State.ownerOf (s : State) (a : Nat) : Nat :=
  ((SMap.keys s.inst.tab).find? fun i => i != 0 && (s.instOf i).exist &&
    (s.instOf i).ranges.any fun r => decide (r.1 ≠ 0 ∧ r.1 ≤ a ∧ a ≤ r.2)).getD 0

/-- The device that a finished enumeration describes. -/
def State.newDevice (s : State) (e : Enum) : Device :=
  { link := e.link, tier := e.tier, isHub := devIsHub e.dev, dual := bitAt (leAt e.dev 1 1) 1, cls := leAt e.dev 8 1
    owner := s.ownerOf e.addr, down := e.down, turn := e.turn, fwd := leAt e.hubd 2 2, ports := leAt e.hubd 0 1
    ganged := leAt e.hubd 1 1 == 1, power := leAt e.hubd 4 2, eps := epsOf (numEp e.dev) e.eps, susp := false, alone := false, recov := false, wakeEn := false
    wake := false, routes := [], groups := [], covered := false }

/-- The maps track 1,015 hubs at tier 2 or deeper: no slot is left for one more at `tier` (R194). -/
def State.hubsFull (s : State) (tier : Nat) : Bool :=
  decide (2 ≤ tier) && decide ((s.devices.filter fun x => x.2.isHub && decide (2 ≤ x.2.tier)).length ≥ 1015)

/-- The device is configured: it joins the tree, its contexts are created, a hub's EP1 is granted, ENUM_DONE (R146, R165,
R202). The request for a hub's grant waits behind one of the manager (R204). -/
def State.enumDone (s : State) (e : Enum) : State :=
  let d := s.newDevice e
  if d.isHub ∧ s.alloc.req.isSome then
    let s0 := s.setEnum e
    { s0 with alloc := { s0.alloc with waits := s0.alloc.waits.filter (· != e.link.port) ++ [e.link.port] } }
  else
  let ep0 : EpDesc := { num := 0, dirIn := false, typ := 0, words := 64, minK := 0, hist := 0, fmt := 0 }
  let s1 := s.putDev e.addr (some d)
  let s2 := (ep0 :: d.eps).foldl (fun t ep =>
    t.putCtxEnt (e.addr * 16 + ep.num) (some (newEnt (newCtx t d e.addr ep) (e.page.getD 0) t.frame (decide (t.cachedCount < 32768))))) s1
  let ready := if d.isHub then (if s.hubsFull d.tier then none else s2.systemGrant e.addr) else some s2
  match ready with
  | some s3 =>
    ((((s3.dropEnum e.link.port).enumEnded e.link true).countDevs.showCache).setEvent 16 Fd.TRE_EVENT_ENUM_DONE)
  | none => s.refuseDev e 8

/-- The manager's request is answered: the enumerations that waited behind it get theirs (R204). -/
def State.grantWaits (s : State) : State :=
  foldN (fun t p => match t.enumOn p with
    | some e => t.enumDone e
    | none => t) { s with alloc := { s.alloc with waits := [] } } s.alloc.waits

/-- The enumeration goes on, or is done. -/
def State.enumNext (s : State) (e : Enum) : State :=
  match s.enumGo e 32 with
  | (t, none) => t
  | (t, some x) => t.enumDone x

/-- Addresses of enumerations in progress. -/
def State.busyAddrs (s : State) : List Nat := (s.tree.enums.map (·.addr)).filter (· != 0)

/-- The DEVICE descriptor is in: the allocator assigns the address (R205) and the directory entry of its page is read
(R164). An address beyond the part's devices, those of enumerations in progress counted, is refused (R2). -/
def State.enumAddress (s : State) (e : Enum) : State :=
  if s.devices.length + s.busyAddrs.length ≥ s.maxDevices then s.refuseDev e 3
  else match s.freeAddr s.busyAddrs with
  | some a => (s.setEnum { e with addr := a, step := .setAddr, pos := 0, waiting := false, page := none }).readDir (a / 4)
  | none => s.refuseDev e 8

/-- The directory entry of an enumeration's page has been read. (DEDUCED, log entry 92.) -/
def State.enumPage (s : State) (i : Nat) (page : Option Nat) : State :=
  foldN (fun t p => match t.enumOn p with
    | some e =>
      if e.addr ≠ 0 ∧ e.addr / 4 = i ∧ e.page.isNone then
        (match page with
        | some a => t.enumNext { e with page := some a }
        | none => t.refuseDev e 8)
      else t
    | none => t) s s.portList

/-- The address of an enumeration that its device's removal ends is held back (R206). -/
def State.freeEnum (s : State) (e : Enum) : State := if e.addr ≠ 0 then s.holdAddr e.addr else s

/-! ### Dual-homed hubs that the partner serves (R142, R353) -/

/-- Which of its upstream ports a dual-homed hub is reached through on link `l`: the only one in L0 of its GET_HUB_STATUS `d`, else `other`. -/
def upOf (d : List Byte) (other : Nat) : Nat :=
  let b := leAt d 0 1
  if bitAt b 1 ∧ ¬ bitAt b 2 then 0 else if bitAt b 2 ∧ ¬ bitAt b 1 then 1 else other

/-- A new hub whose serving port is not this controller's is not enumerated: its link waits for the partner's MIRROR (R353). (DESIGN CHOICE,
log entry 159.) -/
def State.enumForeign (s : State) (e : Enum) : State :=
  let l := e.link
  let s1 := (foldN (fun t h => t.hubSet h 0x23 0 0 .plain) (s.dropEnum l.port) e.path).unwait l
  { s1 with
    tree := { s1.tree with waiting := (s1.tree.waiting.filter fun w => w.1 != l) ++ [(l, e.hubInfo, s1.ownDelay l e.down, e.turn)] }
    pair := { s1.pair with foreign := (s1.pair.foreign.filter (· != l)) ++ [l] } }

/-- A dual-homed hub of a pair tells its serving port before it is addressed (R353): it is enumerated where that is this controller's. -/
def State.servedHere (s : State) (e : Enum) (d : List Byte) : State :=
  let own := upOf d (b2n (Config.upPort e.link.port e.link.hub e.link.hport))
  if leAt d 0 1 % 2 = own then s.enumAddress e else s.enumForeign e

/-- The dual-homed hubs of the MIRROR that are not themselves below one: each is reached through an own link (R353). -/
def State.topHubs (s : State) : List Nat :=
  let devs : List MirrorDev := s.pair.known.filterMap fun
    | .device m => some m
    | _ => none
  (devs.filter fun m => m.isHub && m.dual && !devs.any fun k => k.addr == m.hub).map (·.addr)

/-- Hubs of the partner's whose own link is still to be found, and that may be on link `l`. -/
def State.unplaced (s : State) (l : LinkSel) : List Nat :=
  s.topHubs.filter fun a => (s.dev a).isNone && !(s.pair.placed.any fun x => x.hub == a) && !s.pair.tried.contains (l, a)

def State.placedOn (s : State) (l : LinkSel) : Bool := s.pair.placed.any fun x => x.link == l

/-- A hub on link `l` (`hub`: the partner on it is one) is not enumerated here while the partner is UP and serves it, or may (R353). -/
def State.partnerServes (s : State) (l : LinkSel) (hub : Bool) : Bool :=
  hub && s.paired && s.partner == 1 && (s.placedOn l || s.pair.foreign.contains l || !(s.unplaced l).isEmpty)

/-- The answer of hub `a` of the partner's, asked through link `l`, places it there; without one it is not on that link. -/
def State.probed (s : State) (l : LinkSel) (a : Nat) (ok : Bool) (d : List Byte) : State :=
  match s.tree.waiting.find? fun w => w.1 == l with
  | some (_, _, delay, turn) =>
    if ok then
      let x : Placed := { hub := a, link := l, delay := delay, turn := turn }
      { s.unwait l with pair := { s.pair with
        placed := (s.pair.placed.filter fun y => y.hub != a && y.link != l) ++ [x]
        foreign := s.pair.foreign.filter (· != l)
        ups := SMap.put (fun _ => 0) a (upOf d (1 - leAt d 0 1 % 2)) s.pair.ups } }
    else
      let s1 := foldN (fun t h => t.hubSet h 0x23 a 0 .plain) s (s.pathOf l)
      { s1 with pair := { s1.pair with tried := s1.pair.tried ++ [(l, a)] } }
  | none => s

/-- A request of an enumeration has ended with a result (R146, R147); a descriptor longer than its fixed size (5) breaks R144. -/
def State.enumResult (s : State) (e : Enum) (c : SysCtl) (r : Nat) : State :=
  match r with
  | 0 =>
    if badDescriptor e c.got then s.refuseDev e 6
    else
      match e.step with
      | .devDesc =>
        let e1 := { e with dev := c.got }
        if s.paired ∧ devIsHub c.got ∧ bitAt (leAt c.got 1 1) 1 then s.enumNext { e1 with step := .serving, pos := 0 } else s.enumAddress e1
      | .serving => s.servedHere e c.got
      | .epDesc => s.enumNext { e with eps := c.got, pos := 1 }
      | .hubDesc => s.enumNext { e with hubd := c.got, pos := 1 }
      | _ => s.enumNext { e with pos := e.pos + 1 }
  | 1 | 5 => s.refuseDev e 6
  | 4 => ((s.dropEnum e.link.port).enumEnded e.link false).freeEnum e
  | n =>
    if n = 2 ∧ e.step = .status ∧ e.repeats < 3 then
      s.enumNext { e with step := .setAddr, pos := 0, repeats := e.repeats + 1 }
    else s.refuseDev e 5

/-- A link in L0 whose partner is to be enumerated. -/
def State.attach (s : State) (l : LinkSel) (hub : Bool) (delay turn : Nat) : State :=
  let s1 := s.setEvent 16 Fd.TRE_EVENT_ATTACH
  { s1 with tree := { s1.tree with
    waiting := (s1.tree.waiting.filter fun w => w.1 != l) ++ [(l, hub, delay, turn)] } }

/-- Everything on a link goes: its devices, its enumeration, its place in the list (R110, R149). A request of the H24's own ends RESET_ABORT
on a bus reset and without a response on a removal (R149, Races). -/
def State.loseLink (s : State) (detail : Nat) (l : LinkSel) : State :=
  let mine (x : LinkSel) : Bool := x == l || (if l.hub = 0 then x.port == l.port else (s.pathOf x).any fun h =>
    ((s.dev h).map (·.link == l)).getD false)
  let s1 := match s.enumOn l.port with
    | some e => if mine e.link then ((s.dropEnum l.port).enumEnded e.link false).freeEnum e else s
    | none => s
  let gone := s1.devsBelow l
  let abort (c : SysCtl) : SysCtl :=
    let probe : Bool := match c.use with
      | .probe hub hport => mine { port := c.port, hport := hport, hub := hub }
      | _ => false
    if c.port = l.port ∧ (gone.contains c.addr ∨ probe) ∧ c.result.isNone then { c with result := some (if detail = 2 then 4 else 2) } else c
  let unwait (c : EnumCmd) : EnumCmd :=
    { c with waits := c.waits.filter fun x => !mine x, rescan := c.rescan.filter fun x => !gone.contains (x / 16) }
  let s2 := { s1 with
    tree := { s1.tree with
      waiting := s1.tree.waiting.filter fun w => !mine w.1
      enumCmds := s1.tree.enumCmds.map unwait }
    pair := { s1.pair with
      placed := s1.pair.placed.filter fun x => !mine x.link
      tried := s1.pair.tried.filter fun x => !mine x.1
      foreign := s1.pair.foreign.filter fun x => !mine x }
    xfer := { s1.xfer with ctls := s1.xfer.ctls.map abort } }
  s2.removeBelow detail l

/-! ### Hub port status (R140, R141, R145) -/

def State.setLinkCmd (s : State) (c : LinkCmd) : State :=
  { s with tree := { s.tree with linkCmds := s.tree.linkCmds.map fun x => if x.cmd = c.cmd then c else x } }

/-- The device on a link, if one is enumerated. -/
def State.childOf (s : State) (l : LinkSel) : Option Nat := (s.devices.find? fun x => x.2.link == l).map (·.1)

/-- A tree command on a hub's link sees the port's state. -/
def State.linkCmdSees (s : State) (l : LinkSel) (st : Nat) : State :=
  s.tree.linkCmds.foldl (fun t c =>
    if c.link = l ∧ c.stage = .wait ∧ ((c.op = 0x0103 ∧ st = 10) ∨ (c.op = 0x0104 ∧ st = 7)) then
      t.setLinkCmd { c with stage := if c.op = 0x0104 then .wakes else .done }
    else t) s

/-- After a resume the H24 reads GET_STATUS of each device below with REMOTE_WAKE enabled (R152); what stays suspended alone (R150) has not
resumed. -/
def State.readWakes (s : State) (l : LinkSel) : State :=
  foldN (fun t a => match t.dev a with
    | some d => if d.wakeEn ∧ ¬ d.susp then t.issueSys d.link.port a (setupWords true 0 0 0x00 0 3 0) [] .wake else t
    | none => t) s (s.devsBelow l)

/-- A port that was suspended alone lies between link `l` and device `a`, or is `a`'s own (R150). The fuel bounds the tiers. -/
def State.aloneUnder (s : State) (l : LinkSel) : Nat → Nat → Bool
  | 0, _ => false
  | n + 1, a =>
    match s.dev a with
    | some d => d.alone || (d.link != l && s.aloneUnder l n d.link.hub)
    | none => false

/-- Devices on and below a link take part in its suspend or resume; what a hub port suspended alone keeps down stays so (R150). -/
def State.setSusp (s : State) (l : LinkSel) (v : Bool) : State :=
  let s1 := match (if l.hub = 0 then none else s.childOf l) with
    | some a => s.editDev a fun d => { d with alone := v }
    | none => s
  foldN (fun t a => t.editDev a fun d => { d with susp := v || s1.aloneUnder l 7 a }) s1 (s.devsBelow l)

/-- Link `l` has neither a device nor an enumeration. -/
def State.pathFree (s : State) (l : LinkSel) : Bool := (s.childOf l).isNone && !(s.tree.enums.any fun e => e.link == l)

/-- The commands of `old` that waited for the attachment on link `l` wait for it still: its link has yet to reach L0 (R158). -/
def State.keepWaits (s old : State) (l : LinkSel) : State :=
  let f (c : EnumCmd) : EnumCmd :=
    if old.tree.enumCmds.any (fun o => o.cmd == c.cmd && o.waits.contains l) ∧ ¬ c.waits.contains l then { c with waits := c.waits ++ [l] } else c
  { s with tree := { s.tree with enumCmds := s.tree.enumCmds.map f } }

/-- The delay and TURN that a hub reports for the link `l` in L0 move with them every device and enumeration on and below it (R76, R78, R126). -/
def State.hubDelay (s : State) (l : LinkSel) (d turn : Nat) : State :=
  let new := s.downTo l d
  let s1 : State := match s.childOf l with
    | some a =>
      let old := ((s.dev a).map (·.down)).getD 0
      let dev (y : Device) : Device := { y with down := y.down + new - old, turn := if y.link = l then turn else y.turn }
      let enu (e : Enum) : Enum := if e.path.contains a then { e with down := e.down + new - old } else e
      let u := foldN (fun u b => u.editDev b dev) s (s.devsBelow l)
      { u with tree := { u.tree with enums := u.tree.enums.map enu } }
    | none => s
  let here (e : Enum) : Enum := if e.link = l then { e with down := new, turn := turn } else e
  let wait (w : LinkSel × Bool × Nat × Nat) : LinkSel × Bool × Nat × Nat := if w.1 = l then (l, w.2.1, d, turn) else w
  let put (x : Placed) : Placed := if x.link = l then { x with delay := d, turn := turn } else x
  { s1 with
    tree := { s1.tree with enums := s1.tree.enums.map here, waiting := s1.tree.waiting.map wait }
    pair := { s1.pair with placed := s1.pair.placed.map put } }

/-- The answer to GET_PORT_STATUS of port `q` of hub `h`: change bits are cleared, an over-current is reported, an arrival is
queued for enumeration, a departure removes, and so does a reset of the port, as a bus reset (R110, R140, R141, R149, R151). -/
def State.portStatus (s : State) (h q : Nat) (d : List Byte) : State :=
  match s.dev h with
  | none => s
  | some hub =>
    let l : LinkSel := { port := hub.link.port, hport := q, hub := h }
    let st : Nat := leAt d 0 2
    let chg : Nat := leAt d 2 2
    let link : Nat := leAt d 6 1
    let s1 := foldN (fun t i => if bitAt chg i then t.hubSet h 0x22 (8 + i) q .plain else t) s (List.range 6)
    let s2 := if bitAt chg 3 ∧ bitAt st 3 then
        let t := (s1.setEvent 16 Fd.TRE_EVENT_OVER_CURRENT).offLink l true
        match t.enumOn l.port with
        | some e => if e.link = l then t.refuseDev e 7 else t
        | none => t
      else s1
    let alive : Bool := bitAt st 0 && decide (7 ≤ link ∧ link ≤ 10)
    let why : Nat := if bitAt chg 4 then 2 else 1
    let s3 := if ¬ alive ∨ bitAt chg 0 ∨ bitAt chg 4 then
        (if bitAt st 0 ∧ s2.pathFree l then (s2.loseLink why l).keepWaits s2 l else s2.loseLink why l) else s2
    let s3b : State := match s3.childOf l with
      | some a =>
        let t := (if link = 8 then s3.noteLock (8 + a) else s3).editDev a fun x => { x with recov := link == 8 }
        if link = 7 then t.hubDelay l (leAt d 4 2) (leAt d 8 2) else t
      | none => s3
    let s4 : State := if bitAt chg 5 then s3b.setEvent 16 Fd.TRE_EVENT_WAKE else s3b
    let was : Option Bool := ((s4.childOf l).bind s4.dev).map (·.susp)
    let s5 := match was with
      | some b => if b ≠ bitAt st 2 then s4.setSusp l (bitAt st 2) else s4
      | none => s4
    let s6 := if was = some true ∧ ¬ bitAt st 2 then s5.readWakes l else s5
    let s7 : State := s6.linkCmdSees l link
    let known : Bool := (s7.childOf l).isSome || (s7.tree.waiting.any fun w => w.1 == l) ||
      (s7.tree.enums.any fun e => e.link == l)
    if bitAt st 0 ∧ bitAt st 1 ∧ link = 7 ∧ ¬ known ∧ ¬ s7.isOff l then
      s7.attach l (bitAt st 7) (leAt d 4 2) (leAt d 8 2)
    else s7

/-- The re-read of a hub's port for TREE_ENUMERATE has ended: a partner found there counts as known (R158). -/
def State.rescanDone (s : State) (h q : Nat) (connected : Bool) : State :=
  match s.dev h with
  | none => s
  | some hub =>
    let l : LinkSel := { port := hub.link.port, hport := q, hub := h }
    let add : Bool := connected && (s.childOf l).isNone && !s.isOff l
    let f (c : EnumCmd) : EnumCmd :=
      if c.rescan.contains (h * 16 + q) then
        { c with rescan := c.rescan.filter (· != h * 16 + q), waits := if add ∧ ¬ c.waits.contains l then c.waits ++ [l] else c.waits }
      else c
    { s with tree := { s.tree with enumCmds := s.tree.enumCmds.map f } }

/-! ### When a request of the H24's own has ended -/

/-- Response of TREE_CONTROL_XFER (R158). -/
def xferResponse (c : SysCtl) (r : Nat) : List Byte :=
  leBytes 1 (if r = 5 then 3 else r) ++ zeros 1 ++ leBytes 2 c.moved ++ (if c.dirIn then c.got else [])

/-- Response of LINK_GET_STATUS for a hub's link (R116). -/
def hubLinkStatus (d : List Byte) : List Byte :=
  slice d 6 1 ++ slice d 7 1 ++ zeros 2 ++ leBytes 1 (b2n (bitAt (leAt d 0 2) 7) * 2) ++ zeros 3 ++ slice d 4 2 ++ slice d 4 2 ++
    zeros 12

/-- A command that sent a request to a device or a hub sees it end: TREE_CONTROL_XFER, LINK_GET_STATUS and
LINK_RECALIBRATE of a hub's link, and the tree commands on one. -/
def State.commandResult (s : State) (cmd : Nat) (c : SysCtl) (r : Nat) : State :=
  match s.findCmd cmd with
  | none => s
  | some k =>
    match s.tree.hubGets.find? (fun g => g.1 == cmd), s.tree.hubRecals.find? (fun h => h.cmd == cmd),
      s.tree.linkCmds.find? (fun l => l.cmd == cmd) with
    | some g, _, _ =>
      let s1 := { s with tree := { s.tree with hubGets := s.tree.hubGets.filter fun g => g.1 != cmd } }
      if r = 0 ∧ c.got.length = 10 then
        (if leAt c.got 6 1 = 7 then s1.hubDelay g.2 (leAt c.got 4 2) (leAt c.got 8 2) else s1).okay k (hubLinkStatus c.got)
      else s1.finish k ST.fault 10 []
    | _, some h, _ =>
      let rest := s.tree.hubRecals.filter fun x => x.cmd != cmd
      let drop := { s with tree := { s.tree with hubRecals := rest } }
      if r ≠ 0 then drop.finish k ST.fault 10 (zeros 4)
      else match h.setAt with
        | none => { s with tree := { s.tree with hubRecals := rest ++ [{ h with setAt := some s.frame }] } }
        | some _ =>
          if leAt c.got 6 1 = 7 then (drop.hubDelay h.link (leAt c.got 4 2) (leAt c.got 8 2)).okay k (slice c.got 4 2 ++ slice c.got 4 2) else s
    | _, _, some l =>
      if r ≠ 0 then
        (({ s with tree := { s.tree with linkCmds := s.tree.linkCmds.filter fun x => x.cmd != cmd } }).finish k ST.fault 0 [])
      else if l.op = 0x0102 then s.setLinkCmd { l with stage := .done }
      else (s.setLinkCmd { l with stage := .wait }).readPort l.link.hub l.link.hport (.portStatus l.link.hport)
    | _, _, _ => s.okay k (xferResponse c r)

/-- The status stage of a SELECT_UPSTREAM has completed: the hub switches at the next SOF (R143, R357, R363). -/
def State.hubSelected (s : State) (h : Nat) : State :=
  { s with pair := { s.pair with
    takes := s.pair.takes.map fun t => if t.hubs.contains h then { t with sel := h :: t.sel } else t
    moves := s.pair.moves.map fun m => if m.hub = h then { m with sel := true } else m } }

/-- One request has ended: what it was for goes on. The serving port that a carried dual-homed hub reports is this controller's (R142). An enumeration's is left to ENUMERATION_REQUEST_COMPLETE. -/
def State.sysEnded (s : State) (c : SysCtl) (r : Nat) : State :=
  let s1 := s
  match c.use with
  | .enumerate => s1
  | .portStatus q => (if r = 0 then s1.portStatus c.addr q c.got else s1).rescanDone c.addr q (r = 0 && bitAt (leAt c.got 0 2) 0)
  | .hubStatus =>
    let b := leAt c.got 1 1
    let mine := r = 0 ∧ ((s1.dev c.addr).map (fun d => d.dual && !d.covered)).getD false
    let s0 : State := if mine then { s1 with pair := { s1.pair with ups := SMap.put (fun _ => 0) c.addr (leAt c.got 0 1 % 2) s1.pair.ups } } else s1
    let s2 := if r = 0 ∧ bitAt b 0 then s0.setEvent 16 Fd.TRE_EVENT_DUAL_SWITCH else s0
    if r = 0 ∧ bitAt b 1 then s2.setEvent 16 Fd.TRE_EVENT_OVER_CURRENT else s2
  | .plain => s1
  | .wake =>
    if r = 0 ∧ bitAt (leAt c.got 0 3) 2 then
      (s1.editDev c.addr fun d => { d with wake := true }).setEvent 16 Fd.TRE_EVENT_WAKE
    else s1.editDev c.addr fun d => { d with wake := false }
  | .command cmd => s1.commandResult cmd c r
  | .select => if r = 0 then s1.hubSelected c.addr else s1
  | .probe hub hport => s1.probed { port := c.port, hport := hport, hub := hub } c.addr (r = 0) c.got
  | .resetEp k => if r = 0 then { s1 with pair := { s1.pair with resets := s1.pair.resets.filter (· != k) } } else s1

/-- Take the ended requests off the list and go on with each; enumerations' stay. The fuel is the list's length. -/
def State.sysFinish (s : State) : Nat → State
  | 0 => s
  | n + 1 =>
    match s.xfer.ctls.find? fun c => c.result.isSome && c.use != SysUse.enumerate with
    | some c =>
      (({ s with xfer := { s.xfer with ctls := s.xfer.ctls.erase c } }).sysEnded c (c.result.getD 0)).sysFinish n
    | none => s

/-- The hub ports that a request has reset, whoever made it: a bus reset for what is below (R149), where something still is. -/
def State.hubPortResets (s : State) : State :=
  s.tree.resetPorts.foldl (fun t l => if t.pathFree l ∧ ¬ (t.tree.waiting.any fun w => w.1 == l) then t else t.loseLink 2 l) { s with tree := { s.tree with resetPorts := [] } }

def State.sysDone (s : State) : State :=
  let t := s.hubPortResets
  t.sysFinish t.xfer.ctls.length

/-! ### The SOF and the plan's regions (R67, R75) -/

/-- Content of the SOF of root port `p` (R75, R98): ACC_DELAY adds the delay of the root link to that at the port's pins (R76); a
follower's flags are those of R349. (DEDUCED, log entry 173.) -/
def State.sofFor (s : State) (p : Nat) : SofSent :=
  let acc := (s.accBase p + s.get (Fd.LNK_DELAY_USED p)) % 2 ^ 16
  let seq := s.frame % 2 ^ 24
  let follow := decide (s.discState = 4)
  let est := if follow ∨ s.pair.holds then s.pair.srcEst else s.on Fd.TIM_STATUS_TIME_ESTIMATED
  let hold := decide (s.discState = 3) || (follow && s.pair.srcHold)
  { port := p, frame := s.frame, accDelay := acc
    words := sofBodies [seq / 2 ^ 12, seq % 2 ^ 12, acc / 16,
      acc % 16 * 2 ^ 8 + s.period * 2 ^ 6 + b2n est * 2 ^ 5 + b2n hold * 2 ^ 4, s.strobeOffset % 2 ^ 12] }

/-- What takes effect at the tick changes the regions of the frame that begins there, and its SOFs, which are launched after it (R67, R73,
R75, R83). -/
def State.replan (s : State) : State :=
  if s.time.phase = .running then
    s.setTime { s.time with colWt := s.colStartWt, sofs := s.time.sofs.map fun x => s.sofFor x.port }
  else s

end Sys2Proof.Machine
end

