-- ==== Sys2Proof/Machine/LinkOps.lean ====
section
/-! DEFINITION. Shared operations of the root ports' link layer (04_tsucel_link.md, R96 to R116). STATE codes: 0 DISABLED,
1 DETECT, 2 POLL, 3 EQ, 4 CONFIG, 5 DELAY, 6 WAIT, 7 L0, 8 RECOVERY, 9 L1, 10 L2. -/

namespace Sys2Proof.Machine


/-- Raise a bit of the port's link event. -/
def State.linkEvent (s : State) (p : Nat) (f : Nat → Fld) : State := s.setEvent (8 + p) (f p)

/-- The port is the one in device mode. -/
def State.isDm (s : State) (p : Nat) : Bool := s.tree.dm.on && s.tree.dm.port == p

/-- The port in device mode as its link goes from state `old` to `st`. Leaving L2, for any reason, satisfies a wake signalled or ready to be
signalled (R152). A state without word lock on frames leaves it without an SOF: it takes no sample until it accepts one (R100). -/
def DevMode.linkTo (d : DevMode) (old st : Nat) : DevMode :=
  let d1 := if old = 10 ∧ st ≠ 10 then { d with signalled := false, ready := false, wake := d.wake || d.signalled || d.ready } else d
  if [0, 1, 2, 8, 9, 10].contains st then { d1 with lastSof := none, strobeAt := none, lastStrobe := none } else d1

/-- Set LNK_STATUS.STATE, and TRE_STATUS.SUSPENDED or TRE_DM_STATUS.SUSPENDED with it. -/
def State.setLink (s : State) (p st : Nat) : State :=
  let s0 := if s.isDm p then { s with tree := { s.tree with dm := s.tree.dm.linkTo (s.linkState p) st } } else s
  let s1 := s0.setLinkState p st
  if s.isDm p then s1.put Fd.TRE_DM_STATUS_SUSPENDED (b2n (st == 10)) else s1.putBit Reg.TRE_STATUS p (st == 10)

/-- The Tsucel PHYs are powered, their reference runs, and the firmware is not in recovery mode (R22, R50, R370, R380). -/
def State.phyOn (s : State) : Bool := s.get Fd.PDM_STATE_TPHY == 3 && !s.on Fd.GLB_STATUS_OSC_FALLBACK && s.mode != 1

/-- The port supplies cable power or is the power sink (R110). -/
def State.cablePower (s : State) (p : Nat) : Bool := s.bitOf Reg.PPW_STATUS p || s.bitOf Reg.PPW_STATUS (16 + p)

/-! ### States and stages (R101, R107) -/

/-- A link that leaves every state of a working link: what training, exits and exchanges held is gone. -/
def LinkPort.cleared (l : LinkPort) : LinkPort :=
  { l with kind := .full, detects := 0, absents := 0, ts1Seen := false, ts1Done := 0, adapted := false, ts2Rx := 0
           verBad := false, wordLock := false, recent := [], good := 0, exch := [], pings := 0, attempts := 0, descrOn := false, mism := 0
           pmReq := 0, pmEnter := 0, l0Next := false, dlyDue := false, rxDue := false, slot := none }

/-- The body of the TS1 the port sends: DFP, EQ_DONE, PRESET_REQ and PRESET_USED (R97, R102). -/
def State.ts1Body (s : State) (p : Nat) : Nat :=
  let l := s.lp p
  b2n (!s.isDm p) * 2 ^ 15 + b2n l.adapted * 2 ^ 14 + l.presetReq % 8 * 2 ^ 10 + s.get (Fd.LNK_STATUS_PRESET_TX p) * 2 ^ 6

/-- The body of its TS2: an H24 port is no hub's UFP (R97, R102). -/
def State.ts2Body (s : State) (p : Nat) : Nat := b2n (!s.isDm p) * 2 ^ 15 + 2 ^ 8

/-- The training words of a stage are sent: TS1 in POLL and EQ, TS2 in CONFIG (R101). -/
def State.sendTraining (s : State) (p st : Nat) : State :=
  if st = 2 ∨ st = 3 then s.say p 0x1D (s.ts1Body p) else if st = 4 then s.say p 0x1E (s.ts2Body p) else s

/-- The link enters DETECT; the input is no longer inverted (R102). -/
def State.enterDetect (s : State) (p : Nat) : State :=
  ((s.setLink p 1).put (Fd.LNK_STATUS_INVERTED p) 0).editLp p fun l => { l.cleared with inverted := false }

/-- A stage of training begins; in EQ the port asks its partner for a preset (R102). (DESIGN CHOICE, log entry 236.) -/
def State.enterStage (s : State) (p st : Nat) : State :=
  ((s.setLink p st).editLp p fun l =>
    { l with presetReq := if st = 3 then Config.presetWanted p l.failTotal % 8 else l.presetReq
             recent := if st = 2 then [] else l.recent, good := if st = 2 then 0 else l.good
             ts1Seen := if st = 2 then false else l.ts1Seen, ts1Done := 0, ts2Rx := 0, verBad := false, exch := [], pings := 0
             attempts := 0, wordLock := if st = 2 then false else l.wordLock }).sendTraining p st

/-- Training starts in POLL (R101). -/
def State.startTraining (s : State) (p : Nat) (k : TrainKind) : State :=
  (s.enterStage p 2).editLp p fun l => { l with kind := k, adapted := false, detects := 0, absents := 0 }

/-- The link enters RECOVERY, without its word lock (R109, R359): POLL with its TS1 first; a slot that runs is abandoned (Races). -/
def State.enterRecov (s : State) (p : Nat) : State :=
  (((s.noteLock p).setLink p 8).editLp p fun l =>
    { l with kind := .recovery, recent := [], good := 0, ts1Seen := false, ts2Rx := 0, l0Next := false, slot := none, exch := [], pings := 0, pmReq := 0
             pmEnter := 0, descrOn := false, mism := 0, wordLock := false }).sendTraining p 2

/-- A LINK_RECALIBRATE on root link `p` that satisfies `f` ends. -/
def State.endRecals (s : State) (p : Nat) (f : RecalCmd → Bool) (status detail : Nat) (resp : List Byte) : State :=
  let mine (r : RecalCmd) : Bool := r.port == p && f r
  let s1 := { s with links := { s.links with recals := s.links.recals.filter fun r => !mine r } }
  (s.links.recals.filter mine).foldl (fun t r => match t.findCmd r.cmd with
    | some c => t.finish c status detail resp
    | none => t) s1

/-- USED then MEASURED (R116). -/
def State.delayBytes (s : State) (p : Nat) : List Byte :=
  leBytes 2 (s.get (Fd.LNK_DELAY_USED p)) ++ leBytes 2 (s.get (Fd.LNK_DELAY_MEASURED p))

/-- A removal (R110): DETECT, DOWN, everything below gone; a recalibration that ran ends FAULT 9 (R116); the count of
failed trainings starts again (R103). (DEDUCED, log entry 74.) -/
def State.removal (s : State) (p : Nat) : State :=
  let s1 := (s.enterDetect p).put (Fd.LNK_STATUS_PRESENT p) 0
  let s2 := s1.editLp p fun l => { l with fails := 0, failSaid := false, waitUntil := none }
  ((s2.linkEvent p Fd.LNK_EVENT_DOWN).loseLink 1 (rootLink p)).endRecals p (fun _ => true) ST.fault 9 (s.delayBytes p)

/-- The partner is gone while the link was not up: the count of failures and the back-off end (R103). -/
def State.detached (s : State) (p : Nat) : State :=
  (s.put (Fd.LNK_STATUS_PRESENT p) 0).editLp p fun l => { l with fails := 0, failSaid := false, waitUntil := none }

/-- A failed training (R101, R103): counted, its code in LAST_FAIL, TRAIN_FAIL at the third in a row, then the wait in
DETECT. What was below a link that had been up is lost, and a FULL recalibration ends FAULT (R116). -/
def State.trainFail (s : State) (p code : Nat) : State :=
  let n := (s.lp p).fails + 1
  let say := decide (3 ≤ n) && !(s.lp p).failSaid
  let s1 := ((s.bump (Fd.LNK_RECOV_TRAIN_FAILS p)).put (Fd.LNK_STATUS_LAST_FAIL p) code).enterDetect p
  let wait := if 4 ≤ n then 4096 else 16
  let s2 := s1.editLp p fun l =>
    { l with fails := n, failSaid := l.failSaid || say, failTotal := l.failTotal + 1, waitUntil := some ((s.frame + wait) % 2 ^ 32) }
  let s3 := if say then s2.linkEvent p Fd.LNK_EVENT_TRAIN_FAIL else s2
  (s3.loseLink 1 (rootLink p)).endRecals p (fun r => r.kind == 2) ST.fault code (s.delayBytes p)

/-- POLL is over once each end has word lock on TS1; CONFIG follows in an exit from L2 and within RECOVERY, EQ in a full training. -/
def State.pollDone (s : State) (p : Nat) : State :=
  let l := s.lp p
  if s.linkState p = 2 ∧ l.wordLock ∧ l.ts1Seen then s.enterStage p (if l.kind = .l2exit then 4 else 3)
  else if s.linkState p = 8 ∧ l.wordLock ∧ l.ts1Seen then s.sendTraining p 4 else s

/-! ### Received words (R96) -/

/-- Word lock is gained: it ends POLL, and the exit from L1 (R107). The 64 words that gave it were good. -/
def State.gainWordLock (s : State) (p : Nat) : State :=
  let s1 := s.editLp p fun l => { l with wordLock := true, recent := [], good := 64 }
  if s1.linkState p = 9 ∧ ((s1.lp p).kind = .l1exit ∨ s1.isDm p) then s1.setLink p 6 else s1.pollDone p

/-- Word lock is lost: a link in L0 enters RECOVERY; a port in device mode takes no sample until it accepts an SOF again (R100), and keeps those
it has taken (R129). -/
def State.loseWordLock (s : State) (p : Nat) : State :=
  let s0 := if s.isDm p then
      { s with tree := { s.tree with dm := { s.tree.dm with lastSof := none, strobeAt := none, lastStrobe := none } } } else s
  let s1 := s0.editLp p fun l => { l with recent := [], good := 0 }
  if s1.linkState p = 7 then s1.enterRecov p else (s1.noteLock p).editLp p fun l => { l with wordLock := false }

/-- `n` line words arrive, `fails` of them failing R93, the last ones as far as the count goes: the descrambler steps, each failing word is
counted, 64 good words in a row gain word lock and 16 failing ones of the last 64 lose it (R96; DESIGN CHOICE, log entry 237). -/
def State.rxWords (s : State) (p n fails : Nat) : State :=
  let s1 := (s.wordTimes p n).editLp p fun l => { l with
    errTotal := min (l.errTotal + fails) (2 ^ 32 - 1)
    recent := (List.replicate (min fails 64) true ++ List.replicate (min (n - fails) 64) false ++ l.recent).take 64
    good := if fails = 0 then min (l.good + n) 64 else 0 }
  let s2 := if fails = 0 then s1 else s1.bump (Fd.LNK_ERR_WORD p) fails
  let l := s2.lp p
  if l.wordLock ∧ 16 ≤ (l.recent.filter id).length then s2.loseWordLock p
  else if ¬ l.wordLock ∧ 64 ≤ l.good then s2.gainWordLock p
  else s2

/-- The link leaves L1 or L2 (R107, R151): one exit, whoever asked. -/
def State.resumeLink (s : State) (p : Nat) : State :=
  match s.linkState p with
  | 9 => if (s.lp p).kind = .l1exit then s else s.editLp p fun l => { l with kind := .l1exit, wordLock := false, recent := [], good := 0 }
  | 10 => s.startTraining p .l2exit
  | _ => s

/-- The PM request `k` (1 L1_REQ, 3 L2_REQ) is sent while no transaction is outstanding on the link (R108). -/
def State.pmAsk (s : State) (p k : Nat) : State :=
  if s.linkState p = 7 ∧ (s.lp p).pmReq = 0 ∧ (s.lp p).pmEnter = 0 ∧ ¬ (s.xfer.opens.any fun t => t.port == p) then
    (s.editLp p fun l => { l with pmReq := k }).say p 0x2E (k * 2 ^ 12)
  else s

/-! ### Measurements (R104, R105, R113) -/

/-- The trips of a measurement of `n` exchanges; `none` if one is missing. -/
def LinkPort.trips (l : LinkPort) (n : Nat) : Option (List Int) :=
  let ts := l.exch.filterMap (·.trip)
  if l.exch.length = n ∧ ts.length = n then some ts else none

/-- Largest minus smallest. -/
def spread : List Int → Nat
  | [] => 0
  | a :: t => ((t.foldl max a) - (t.foldl min a)).toNat

/-- How a measurement of `n` exchanges is judged (R105). -/
inductive Measured where
  | again          -- an exchange is missing or the spread is too wide
  | tooLong
  | good (d : Nat)
  deriving DecidableEq, Repr

def judgeTrips (ts : Option (List Int)) : Measured :=
  match ts with
  | none => .again
  | some l =>
    let sum := l.foldl (· + ·) 0
    if spread l > 8 then .again
    else if sum > ((819 * (2 * l.length) : Nat) : Int) then .tooLong
    else .good (divRoundEven sum (2 * l.length)).toNat

/-- LNK_DELAY_INFO.SPREAD of the measurement, if it is complete. -/
def State.showSpread (s : State) (p n : Nat) : State :=
  match (s.lp p).trips n with
  | some l => s.put (Fd.LNK_DELAY_INFO_SPREAD p) (min (spread l) 0xFF)
  | none => s

/-- USED of root link `p`: the delay of every device below it moves with it (R76, R78, R113). -/
def State.setUsed (s : State) (p d : Nat) : State :=
  let old := s.get (Fd.LNK_DELAY_USED p)
  let t := s.put (Fd.LNK_DELAY_USED p) d
  let enu (e : Enum) : Enum := if e.link.port = p then { e with down := e.down + d - old } else e
  let t1 := { t with tree := { t.tree with enums := t.tree.enums.map enu } }
  foldN (fun u a => u.editDev a fun y => { y with down := y.down + d - old }) t1 ((s.portDevices p).map (·.1))

/-- The measurement of a DELAY stage is judged: accepted into MEASURED and USED, repeated up to three times, or the stage
fails (R105). -/
def State.judgeStage (s : State) (p : Nat) : State :=
  let s1 := s.showSpread p 64
  match judgeTrips ((s.lp p).trips 64) with
  | .good d =>
    let s2 := (s1.put (Fd.LNK_DELAY_MEASURED p) d).setUsed p d
    (s2.setLink p 6).editLp p fun l => { l with rejected := none, exch := [], pings := 0 }
  | .tooLong => s1.trainFail p 5
  | .again =>
    if (s.lp p).attempts + 1 ≥ 4 then s1.trainFail p 6
    else s1.editLp p fun l => { l with attempts := l.attempts + 1, exch := [], pings := 0 }

/-- Two delays within 10 units. -/
def near10 (a b : Nat) : Bool := a ≤ b + 10 && b ≤ a + 10

/-- The measurement of a DELAY slot is judged (R113). -/
def State.judgeSlot (s : State) (p : Nat) : State :=
  let s1 := s.showSpread p 8
  match judgeTrips ((s.lp p).trips 8) with
  | .good d =>
    if near10 d (s.get (Fd.LNK_DELAY_USED p)) then
      (s1.put (Fd.LNK_DELAY_MEASURED p) d).editLp p fun l => { l with rejected := none }
    else
      match (s.lp p).rejected with
      | some r =>
        if near10 d r then
          ((s1.put (Fd.LNK_DELAY_MEASURED p) d).editLp p fun l => { l with rejected := none }).linkEvent p Fd.LNK_EVENT_DELAY_STEP
        else (s1.bump (Fd.LNK_DELAY_INFO_REJECTS p)).editLp p fun l => { l with rejected := some d }
      | none => (s1.bump (Fd.LNK_DELAY_INFO_REJECTS p)).editLp p fun l => { l with rejected := some d }
  | _ => s1

/-- USED moves towards MEASURED by one unit (R113). -/
def State.slewUsed (s : State) (p : Nat) : State :=
  let m := s.get (Fd.LNK_DELAY_MEASURED p)
  let u := s.get (Fd.LNK_DELAY_USED p)
  if u < m then s.setUsed p (u + 1)
  else if m < u then s.setUsed p (u - 1)
  else s

/-! ### Recalibration slots (R111, R112) -/

def slotLen (k : Nat) : Nat := if k = 0 then 160 else 176

/-- A slot due starts at word time `w`, the start of Col or the end of an overrun on its link, if its whole length ends by the hard stop;
otherwise it is postponed, and every slot that is due is counted (R69, R111). A slot is due by its interval or by a LINK_RECALIBRATE still in progress (R116); a RECAL
word announces its kind. DELAY goes first. (DEDUCED, log entry 80.) -/
def State.startSlot (s : State) (p w : Nat) : State :=
  let l := s.lp p
  let asked (k : Nat) : Bool := s.links.recals.any fun r => r.port == p && r.kind == k && !r.ran
  let dly := l.dlyDue || asked 0
  if s.linkState p ≠ 7 ∨ l.slot.isSome ∨ ¬ (dly ∨ l.rxDue ∨ asked 1) then s
  else
    let k : Nat := if dly then 0 else 1
    if w + slotLen k ≤ s.stopWt then
      (s.editLp p fun x => { x with
        slot := some k, slotWt := w, exch := [], pings := 0
        dlyDue := x.dlyDue && k != 0, rxDue := x.rxDue && k == 0 }).say p 0x3A (k * 2 ^ 12)
    else
      let s1 := s.bump (Fd.LNK_RECAL_SKIPPED p)
      if dly ∧ (l.rxDue ∨ asked 1) then s1.bump (Fd.LNK_RECAL_SKIPPED p) else s1

/-- LAST_KIND, the frame, and the start of the next interval. -/
def State.recalDone (s : State) (p k : Nat) : State :=
  let s1 := (s.put (Fd.LNK_RECAL_LAST_KIND p) k).put (Fd.LNK_RECAL_FRAME_FRAME p) s.frame
  s1.editLp p fun l => { l with
    dlyBase := if k = 1 then l.dlyBase else s.frame
    rxBase := if k = 0 then l.rxBase else s.frame }

/-! ### L0, L1, L2 and DISABLED at a tick (R101, R108, R109, R115) -/

/-- The link enters L0 at a tick. The return from RECOVERY raises RECOVERY and not UP: the link was not down (R109, R110; DESIGN CHOICE, log
entry 238). (DESIGN CHOICE, log entry 238.) -/
def State.enterL0 (s : State) (p : Nat) : State :=
  let l := s.lp p
  let s1 := (s.setLink p 7).editLp p fun x => { x with l0Next := false, fails := 0, failSaid := false, waitUntil := none, kind := .full }
  let base (t : State) : State := t.editLp p fun x => { x with dlyBase := s.frame, rxBase := s.frame }
  let up := s1.linkEvent p Fd.LNK_EVENT_UP
  match l.kind with
  | .recovery =>
    ((s1.bump (Fd.LNK_RECOV_RECOVERIES p)).editLp p fun x => { x with recTotal := x.recTotal + 1 }).linkEvent p
      Fd.LNK_EVENT_RECOVERY
  | .recal =>
    let t := up.recalDone p 2
    t.endRecals p (fun r => r.kind == 2) ST.ok 0 (t.delayBytes p)
  | .l1exit => base up
  | .l2exit => (((base up).setSusp (rootLink p) false).readWakes (rootLink p)).linkCmdSees (rootLink p) 7
  | .full =>
    (base up).attach (rootLink p) (s.on (Fd.LNK_STATUS_PARTNER_HUB p)) (s.get (Fd.LNK_DELAY_USED p))
      (s.get (Fd.LNK_DELAY_INFO_TURN p))

/-- The link enters L1 or L2 at a tick (R108). -/
def State.enterLow (s : State) (p st : Nat) : State :=
  let s1 := (s.setLink p st).editLp p fun l => { l.cleared with lowFrame := s.frame }
  if st = 10 then (s1.setSusp (rootLink p) true).linkCmdSees (rootLink p) 10 else s1

/-- The link is held in L3 DISABLED; everything below is lost, and what ran on it ends. R116 names no status for a LINK_RECALIBRATE that
runs then: it ends FAULT with LAST_FAIL in DETAIL (DESIGN CHOICE, log entry 239). -/
def State.enterDisabled (s : State) (p : Nat) : State :=
  let s1 := ((s.setLink p 0).put (Fd.LNK_STATUS_PRESENT p) 0).put (Fd.LNK_STATUS_INVERTED p) 0
  let s2 := s1.editLp p fun l => { l.cleared with inverted := false, fails := 0, failSaid := false, waitUntil := none }
  (s2.loseLink 1 (rootLink p)).endRecals p (fun _ => true) ST.fault (s.get (Fd.LNK_STATUS_LAST_FAIL p)) (s.delayBytes p)

/-- The TX preset: the one that LNK_CTRL.TX_PRESET forces, or the negotiated one (R115). A port in EQ reports a change of it (R102). -/
def State.usePreset (s : State) (p : Nat) : State :=
  let l := s.lp p
  let forced := bits l.ctrlEff 15 12
  let n : Nat := if forced ≤ 7 then forced else l.presetNeg
  if s.get (Fd.LNK_STATUS_PRESET_TX p) = n then s
  else
    let s1 := s.put (Fd.LNK_STATUS_PRESET_TX p) n
    if s1.linkState p = 3 then s1.sendTraining p 3 else s1

/-- What a port does at a tick: LNK_CTRL takes effect, then DISABLE, RETRAIN, L0, L1 or L2 (R15, R101, R108, R109, R115). The
`refused` hold of R147 stands in LNK_CTRL.DISABLE itself. -/
def State.linkTick (s : State) (p : Nat) : State :=
  let w := s.rd (Reg.LNK_CTRL p)
  let s1 := (s.editLp p fun l => { l with ctrlEff := w, said := [] }).usePreset p
  let on := bitAt w.toNat 0 && !bitAt w.toNat 1 && s.phyOn
  let l := s1.lp p
  let st := s1.linkState p
  if ¬ on then (if st = 0 then s1 else s1.enterDisabled p)
  else if st = 0 then (if l.resetIdle then s1 else s1.enterDetect p)
  else if (st = 6 ∨ (st = 8 ∧ l.l0Next)) ∧ ¬ s1.isDm p then s1.enterL0 p
  else if st = 7 ∧ l.retrain then (s1.enterRecov p).editLp p fun x => { x with retrain := false }
  else if st = 7 ∧ l.pmEnter ≠ 0 ∧ l.pmAt + 80 ≤ s1.time.tickCyc then s1.enterLow p l.pmEnter
  else if st = 7 then (s1.slewUsed p).editLp p fun x => { x with retrain := false }
  else s1.editLp p fun x => { x with retrain := false }

/-- One receiver detect of port `p` in Col (R101, R110): four in a row that find termination start training; two in a row
that find none after a failed RECOVERY are a removal. (DEDUCED, log entry 75.) -/
def State.detectOnce (s : State) (p : Nat) (found : Bool) : State :=
  let l := s.lp p
  if s.linkState p ≠ 1 ∨ ¬ s.cablePower p ∨ s.isDm p ∨ l.resetIdle then s
  else if found then
    let s1 := (s.put (Fd.LNK_STATUS_PRESENT p) 1).editLp p fun x => { x with detects := x.detects + 1, absents := 0 }
    if l.waitUntil.isNone ∧ l.detects + 1 ≥ 4 then s1.startTraining p .full else s1
  else
    let s1 := s.editLp p fun x => { x with detects := 0, absents := min (x.absents + 1) 2 }
    if l.absents + 1 = 2 then (if l.kind = .recovery then s1.removal p else s1.detached p) else s1

/-! ### Bus reset (R148, R149) -/

/-- The electrical idle of a bus reset begins on root link `p`: everything below is removed (R149). -/
def State.busReset (s : State) (p : Nat) : State :=
  ((s.loseLink 2 (rootLink p)).enterDetect p).editLp p fun l =>
    { l with resetIdle := true, fails := 0, failSaid := false, waitUntil := none }

end Sys2Proof.Machine
end

