-- ==== Sys2Proof/Machine/Xfer.lean ====
section
/-! DEFINITION. Launching transactions and judging their answers (08, R216 to R229; 05, R121 to R131). -/

namespace Sys2Proof.Machine

/-! ### Launch of the periodic list (R219, R225) -/

/-- The service that the list of port `p` launches next: the earliest place whose transaction is not open. A retry whose path has a link in
RECOVERY is passed over: the hard stop ends it if it has not started by then (R222). -/
def State.headSvc (s : State) (p : Nat) : Option Svc :=
  s.xfer.svcs.foldl (fun (b : Option Svc) v =>
    if v.port = p ∧ ¬ v.past ∧ ¬ (s.xfer.opens.any fun t => t.kind == .periodic && t.key == v.key) ∧
        (v.attempts = 0 ∨ ¬ s.pathRecovers p v.addr) then
      match b with
      | none => some v
      | some x => if v.order < x.order then some v else some x
    else b) none

def State.touch (s : State) (key : Nat) : State := s.editCtx key fun c => { c with lastFrame := s.frame }

/-- What an attempt at service `v` occupies (R190, R219). -/
def State.svcNeed (s : State) (v : Svc) (c : Ctx) : Need :=
  s.needOf v.port v.addr v.dirIn true v.assured (v.assured && v.dirIn) (s.outWords v.key v.frame).length c.intent

/-- Launch service `v`: its token, and for OUT its packet, stamped with the frame (R129). `errs`: what the read of the bank
finds (R233). -/
def State.launchSvc (s : State) (v : Svc) (c : Ctx) (errs word : Nat) : State :=
  let s1 := if v.attempts ≠ 0 then s.bump Fd.XFR_RETRY_PERIODIC else s
  let v1 := { v with attempts := v.attempts + 1 }
  let n := s.svcNeed v c
  let at1 := s.launchAt v.port v.addr n 16
  let s2 := (s1.setSvc v1).touch v.key
  let place (t : State) : State := (t.takeWt v.port n at1 (!v.dirIn && !v.assured)).placeSent v.port at1
  let t : Txn :=
    { port := v.port, addr := v.addr, key := v.key, ep := v.ep, kind := .periodic, dirIn := v.dirIn, setup := false
      frame := v.frame, inst := v.inst, gen := v.gen, entry := v.entry, bytes := 0, hold := 0, abort := false, ready := false
      start := at1, need := n }
  if v.dirIn then (place (s2.sendToken v.port 1 v.addr v.ep 0 none [] false true)).openTxn t
  else
    let ws := s.outWords v.key v.frame
    let bad := decide (errs ≥ 2) && !ws.isEmpty
    let s3 := if ws.isEmpty then s2 else s2.eccRead 1 word errs
    let pid := if v.assured then 1 + c.toggle else 1
    let s4 := place (s3.sendToken v.port 2 v.addr v.ep 0 (some (sopBody pid 0 ws.length)) (v.frame % 2 ^ 24 :: ws) bad true)
    if bad then
      let s5 := s4.settle { v1 with cause := 0 } 2 [] false
      if v.assured then s5.openTxn { t with abort := true } else s5
    else if v.assured then s4.openTxn t
    else s4.settle { v1 with cause := 0 } 0 [] false

/-- R219: the next transaction of port `p`'s list is launched, or deferred because its path has a link in RECOVERY or its context
has not arrived (R210, R225). Nothing starts that would not end by the hard stop (R70), nor to a device with an open transaction (R127);
the list waits then. (DEDUCED, log entry 235.) -/
def execPeriodicLaunch (p errs word : Nat) (s : State) : Out :=
  match s.headSvc p with
  | none => .next s
  | some v =>
    if s.time.phase = .stopped ∨ (s.findTxn p v.addr).isSome then .next s
    else if s.pathRecovers p v.addr then .next (s.deferSvc v .link)
    else if s.linkState p ≠ 7 then .next s
    else match s.ctx v.key with
      | some c =>
        if v.attempts = 0 ∧ ¬ s.ctxReady v.key then .next (s.deferSvc v .page)
        else if ¬ s.periodicFits p v.addr (s.svcNeed v c) then .next s
        else .next (s.launchSvc v c errs word)
      | none => .next s

/-- R210: a context has not arrived 64 wt before the launch of its transaction: it is deferred with DEFERRED_PAGE. -/
def execPageLate (key : Nat) (s : State) : Out :=
  if s.ctxReady key then .next s
  else match s.liveSvc key with
    | some v => if v.attempts = 0 then .next (s.deferSvc v .page) else .next s
    | none =>
      match s.boundEntry key with
      | some (i, e) =>
        if ((s.entry i e).map (fun x => x.kind == 1 && x.desc.isSome)).getD false ∧ ¬ s.xfer.polled.contains key ∧
            ((s.ctx key).map (·.state)).getD 0 ≠ 4 then
          .next ((s.countDeferral key .page).setPolled key)
        else .next s
      | none => .next s

/-! ### The bulk region (R220, R224, R226, R229) -/

/-- The bulk region of port `p` has begun and Col has not: the port is in L0 and its periodic list is over (R70, R220), but for retries
whose path has a link in RECOVERY. (DEDUCED, log entry 113.) -/
def State.bulkOpen (s : State) (p : Nat) : Bool :=
  s.linkState p == 7 && s.time.phase == .running && s.time.ticking && !(s.xfer.svcs.any fun v => v.port == p && !v.past &&
    (v.attempts == 0 || !s.pathRecovers p v.addr || s.xfer.opens.any fun t => t.kind == .periodic && t.key == v.key))

/-- A queued bus command of port `p` is due in this frame's bulk region: it goes ahead of every item of R226 (R265). -/
def State.cmdWaits (s : State) (p : Nat) : Bool := s.red.cmds.any fun c => c.port == p && c.frame == s.frame

/-- What a HIST attempt occupies: the answer is not acknowledged (R135). -/
def State.histNeed (s : State) (p : Nat) (h : HistRec) : Need :=
  s.needOf p (h.key / 16) true true true false 0 (((s.ctx h.key).map (·.intent)).getD 0)

/-- The history fetch that goes next: the oldest service (R226) that fits the bank and the bulk region (R224). -/
def State.nextHist (s : State) (p : Nat) : Option HistRec :=
  s.xfer.hists.foldl (fun (b : Option HistRec) h =>
    let age := since32 s.frame h.sframe
    let c := s.ctx h.key
    let port := ((s.dev (h.key / 16)).map (·.link.port)).getD 8
    let fits := decide ((c.map (·.intent)).getD 0 + 1 ≤ s.bankFree) && s.bulkFits p (h.key / 16) (s.histNeed p h)
    if port = p ∧ 1 ≤ age ∧ (h.catchup ∨ age ≤ 3) ∧ h.triedAt ≠ some s.frame ∧ s.ctxReady h.key ∧ ¬ s.omitted (h.key / 16) ∧
        ¬ s.pathRecovers p (h.key / 16) ∧
        fits ∧ (s.findTxn p (h.key / 16)).isNone then
      match b with
      | none => some h
      | some x => if age > since32 s.frame x.sframe then some h else some x
    else b) none

/-- R224: one HIST attempt: HSEQ names the sample of S − 1. -/
def execHistLaunch (p : Nat) (s : State) : Out :=
  match s.nextHist p with
  | some h =>
    if s.bulkOpen p ∧ ¬ s.cmdWaits p then
      let a := h.key / 16
      let ep := h.key % 16
      let n := s.histNeed p h
      let at1 := s.launchAt p a n (s.lane p).tail
      let h1 := { h with tries := h.tries + 1, triedAt := some s.frame }
      let s1 := { s with xfer := { s.xfer with hists := s.xfer.hists.map fun x => if x = h then h1 else x } }
      let t : Txn :=
        { port := p, addr := a, key := h.key, ep := ep, kind := .hist, dirIn := true, setup := false, frame := h.sframe
          inst := h.inst, gen := h.gen, entry := h.entry, bytes := 0, hold := ((s.ctx h.key).map (·.intent)).getD 0 + 1
          abort := false, ready := false, start := at1, need := n }
      let s2 := (s1.touch h.key).sendToken p 4 a ep ((h.sframe + 2 ^ 32 - 1) % 128) none [] false false
      .next (((s2.takeWt p n at1 false).placeSent p at1).openTxn t)
    else .next s
  | none => .next s

/-- What stands at the front of EP0 of device `a`: a request of the H24's own, or the CONTROL descriptor in progress. A
control transfer under way is not broken into (R131). -/
inductive Ep0Work where
  | sys (c : SysCtl)
  | desc (i e : Nat) (x : Entry) (d : Desc)
  deriving DecidableEq, Repr

/-- After PFI_N no descriptor starts and no OUT one goes on; an IN one that has started does (R365). -/
def State.descGoes (s : State) (x : Entry) (d : Desc) : Bool := !s.pfiStops || d.dataIn x

def State.ep0Work (s : State) (p a : Nat) : Option Ep0Work :=
  let own : Option Ep0Work := match s.boundEntry (a * 16) with
    | some (i, e) =>
      match s.entry i e with
      | some x =>
        match x.desc with
        | some d => if x.kind = 1 ∧ x.live ∧ x.closing.isNone ∧ d.stop.isNone ∧ a ≠ 0 ∧ ¬ s.pair.resets.contains (a * 16) ∧ s.descGoes x d then some (.desc i e x d) else none
        | none => none
      | none => none
    | none => none
  match own, s.sysAt p a with
  | some (.desc i e x d), some c => if d.stage = .setup then some (.sys c) else some (.desc i e x d)
  | some w, none => some w
  | _, some c => some (.sys c)
  | none, none => none

/-- SELECT_UPSTREAM is what hub `a` is asked next (R357): it reaches a hub that the plan omits. -/
def State.selecting (s : State) (p a : Nat) : Bool := ((s.sysAt p a).map (fun c => c.use == SysUse.select)).getD false

/-- EP0 of device `a` may have a transaction now: no link of its path is in RECOVERY (R225). -/
def State.ep0Free (s : State) (p a : Nat) : Bool :=
  (s.findTxn p a).isNone && !s.xfer.polled.contains (a * 16) && !s.pathRecovers p a &&
  (a == 0 || (s.dev a).isNone || !s.omitted a || s.selecting p a)

/-- Insert an address into an ascending list that may hold it. -/
def insertAddr (a : Nat) : List Nat → List Nat
  | [] => [a]
  | b :: l => if a < b then a :: b :: l else if a = b then b :: l else b :: insertAddr a l

/-- Devices with work on EP0, ascending: those of the port, and the one that an enumeration addresses. -/
def State.ep0Devs (s : State) (p : Nat) : List Nat :=
  ((s.xfer.ctls.filter fun c => c.port == p && c.result.isNone).map (·.addr)).foldl (fun l a => insertAddr a l)
    ((s.portDevices p).map (·.1))

/-- A bulk or control packet of `n` words for the bank. -/
def State.fits (s : State) (n : Nat) : Bool := decide (n ≤ s.bankFree)

/-- Bytes of the next OUT packet of a descriptor, once they are fetched; a zero-length packet needs no fetch (R178). -/
def State.outPacket (s : State) (x : Entry) (d : Desc) : Option (List Byte) :=
  if d.moved ≥ d.len then some []
  else (s.xfer.bulkOut.find? fun o => o.key == seaKey x.sea && o.index == d.index && o.off == d.moved && o.frame == s.frame).map
    (·.bytes)

/-- What a transaction of a control stage occupies: a setup packet of 3 words, up to 64 words of data, a zero-length status packet. -/
def State.stageNeed (s : State) (p a : Nat) (stage : CtlStage) (dirIn : Bool) (len outLen : Nat) : Need :=
  match stage with
  | .setup => s.needOf p a false false true false 3 0
  | .data => s.needOf p a dirIn false true dirIn outLen 64
  | .status => if len ≠ 0 ∧ dirIn then s.needOf p a false false true false 0 0 else s.needOf p a true false true true 0 0

/-- Can the work on EP0 launch its next transaction? -/
def State.ep0Can (s : State) (p a : Nat) : Ep0Work → Bool
  | .sys c =>
    s.fits (if c.stage = .data then 64 else 0) &&
    s.bulkFits p a (s.stageNeed p a c.stage c.dirIn c.len ((((c.out.drop c.moved).take 192).length + 2) / 3))
  | .desc _ _ x d =>
    ((s.ctx (a * 16)).map (·.state)).getD 0 == 2 && s.ctxReady (a * 16) &&
    s.bulkFits p a (s.stageNeed p a d.stage (d.dataIn x) d.len ((((s.outPacket x d).getD []).length + 2) / 3)) &&
    (match d.stage with
      | .data => if d.dataIn x then s.fits 64 else (s.outPacket x d).isSome
      | _ => true)

/-- The device whose control transfer goes next, ascending (R226); SELECT_UPSTREAM is ahead of every other (R357, R363). -/
def State.nextEp0 (s : State) (p : Nat) : Option (Nat × Ep0Work) :=
  ((s.ep0Devs p).filter (s.selecting p) ++ s.ep0Devs p).findSome? fun a =>
    if s.ep0Free p a then
      match s.ep0Work p a with
      | some w => if s.ep0Can p a w then some (a, w) else none
      | none => none
    else none

/-- The token of a control stage and what follows it. `outData`: bytes of an OUT data packet. -/
def State.sendStage (s : State) (p a : Nat) (stage : CtlStage) (dirIn : Bool) (len toggle : Nat) (setup : List Nat)
    (outData : List Byte) (abort : Bool) : State :=
  match stage with
  | .setup => s.sendToken p 3 a 0 0 (some (sopBody 1 0 3)) setup abort false
  | .data =>
    if dirIn then s.sendToken p 1 a 0 0 none [] false false
    else
      let (ws, pad) := wordsOfBytes outData
      s.sendToken p 2 a 0 0 (some (sopBody (1 + toggle) pad ws.length)) ws abort false
  | .status =>
    if len ≠ 0 ∧ dirIn then s.sendToken p 2 a 0 0 (some (sopBody 2 0 0)) [] abort false
    else s.sendToken p 1 a 0 0 none [] false false

/-- The transaction of a control stage. -/
def stageTxn (p a : Nat) (kind : TxnKind) (stage : CtlStage) (dirIn : Bool) (len frame inst gen entry bytes : Nat) : Txn :=
  let isIn : Bool := match stage with
    | .setup => false
    | .data => dirIn
    | .status => !(len != 0 && dirIn)
  { port := p, addr := a, key := a * 16, ep := 0, kind := kind, dirIn := isIn, setup := decide (stage = .setup), frame := frame
    inst := inst, gen := gen, entry := entry, bytes := bytes, hold := if isIn ∧ stage = .data then 64 else 0, abort := false
    ready := false }

/-- Open a transaction of the bulk region, launched as early as it can be (R219, R226). -/
def State.openBulk (s : State) (t : Txn) (n : Need) : State :=
  let at1 := s.launchAt t.port t.addr n (s.lane t.port).tail
  ((s.takeWt t.port n at1 false).placeSent t.port at1).openTxn { t with start := at1, need := n }

/-- Launch the next transaction of a request of the H24's own. -/
def State.launchSys (s : State) (p a : Nat) (c : SysCtl) : State :=
  let out := (c.out.drop c.moved).take 192
  let fresh := { s with xfer := { s.xfer with readied := if c.begun.isNone then s.xfer.readied.filter (· != a * 16) else s.xfer.readied } }
  let s1 := fresh.editSys p a fun y => { y with begun := some (y.begun.getD s.frame) }
  let s2 := (s1.touch (a * 16)).sendStage p a c.stage c.dirIn c.len c.toggle c.setup out false
  s2.openBulk (stageTxn p a .system c.stage c.dirIn c.len s.frame 0 0 0 out.length) (s.stageNeed p a c.stage c.dirIn c.len ((out.length + 2) / 3))

/-- A descriptor's first transaction starts its TIMEOUT (R230); a ready indication for what endpoint `key` served before is not one for it
(R221). -/
def State.startDesc (s : State) (key i e : Nat) (d0 : Desc) : State :=
  let s1 := s.editDesc i e fun d => { d with started := some (d.started.getD s.frame) }
  if d0.started.isNone then { s1 with xfer := { s1.xfer with readied := s1.xfer.readied.filter (· != key) } } else s1

/-- Close an OUT packet with EOP ABORT: its descriptor ends with a code, and its answer is only awaited (R178, R233). -/
def State.abortOut (s : State) (t : Txn) (n : Need) (code : Nat) : State :=
  let s1 := s.openBulk { t with abort := true } n
  let s2 := if code = 10 then s1.bump Fd.XFR_CHECK_E2E else s1
  s2.finishDesc t.inst t.entry code 0

/-- Launch the next transaction of a CONTROL descriptor. -/
def State.launchCtl (s : State) (p a i e : Nat) (x : Entry) (d : Desc) (errs word : Nat) : State :=
  let dirIn := d.dataIn x
  let out := if d.stage = CtlStage.data ∧ ¬ dirIn then (s.outPacket x d).getD [] else []
  let bad := decide (errs ≥ 2) && !out.isEmpty
  let s0 := if out.isEmpty then s else s.eccRead 1 word errs
  let toggle := ((s.ctx (a * 16)).map (·.toggle)).getD 0
  let s1 := ((s0.startDesc (a * 16) i e d).touch (a * 16)).sendStage p a d.stage dirIn d.len toggle [d.setup 0, d.setup 1, d.setup 2] out bad
  let t := stageTxn p a .control d.stage dirIn d.len s.frame i x.gen e out.length
  let n := s.stageNeed p a d.stage dirIn d.len ((out.length + 2) / 3)
  if bad then s1.abortOut t n 14 else s1.openBulk t n

/-- What a packet of a bulk endpoint occupies. -/
def State.bulkNeed (s : State) (p a : Nat) (dirIn : Bool) (c : Ctx) (outLen : Nat) : Need :=
  s.needOf p a dirIn false true dirIn outLen c.maxWords

/-- The bulk endpoints of port `p` that can send or ask for a packet now, ascending. -/
def State.bulkKeys (s : State) (p : Nat) : List Nat :=
  (SMap.keys s.pager.ctxs).filter fun k =>
    k % 16 != 0 && ((s.dev (k / 16)).map (fun d => d.link.port == p)).getD false && !s.omitted (k / 16) &&
    (s.findTxn p (k / 16)).isNone && !s.xfer.polled.contains k && !s.pathRecovers p (k / 16) && s.ctxReady k && !s.pair.resets.contains k &&
    (match s.ctx k, s.boundEntry k with
      | some c, some (i, e) =>
        match s.entry i e with
        | some x =>
          match x.desc with
          | some d =>
            x.kind == 1 && x.live && x.closing.isNone && d.stop.isNone && c.state == 2 && s.descGoes x d &&
            s.bulkFits p (k / 16) (s.bulkNeed p (k / 16) (seaDir x.sea) c ((((s.outPacket x d).getD []).length + 2) / 3)) &&
            (if seaDir x.sea then s.fits c.maxWords else (s.outPacket x d).isSome)
          | none => false
        | none => false
      | _, _ => false)

/-- The endpoint whose turn it is: the first after the one served last, round about (R226). -/
def State.nextBulk (s : State) (p : Nat) : Option Nat :=
  let l := s.bulkKeys p
  let last := SMap.get (fun _ => 0) s.xfer.last p
  match l.find? fun k => decide (k + 1 > last) with
  | some k => some k
  | none => l.head?

/-- Launch one packet of a bulk endpoint. With E2E, the CRC-32C up to the last byte is compared with OUT_CRC first
(R178, R229). -/
def State.launchBulk (s : State) (p key i e : Nat) (x : Entry) (c : Ctx) (d : Desc) (errs word : Nat) : State :=
  let a := key / 16
  let ep := key % 16
  let s0 := { s with xfer := { s.xfer with last := SMap.put (fun _ => 0) p (key + 1) s.xfer.last } }
  let s1 := (s0.startDesc key i e d).touch key
  let t : Txn :=
    { port := p, addr := a, key := key, ep := ep, kind := .bulk, dirIn := seaDir x.sea, setup := false, frame := s.frame, inst := i
      gen := x.gen, entry := e, bytes := 0, hold := if seaDir x.sea then c.maxWords else 0, abort := false, ready := false }
  let n := s.bulkNeed p a (seaDir x.sea) c ((((s.outPacket x d).getD []).length + 2) / 3)
  if seaDir x.sea then (s1.sendToken p 1 a ep 0 none [] false false).openBulk t n
  else
    let b := (s.outPacket x d).getD []
    let (ws, pad) := wordsOfBytes b
    let s2 := if b.isEmpty then s1 else s1.eccRead 1 word errs
    let bad := decide (errs ≥ 2) && !b.isEmpty
    let mism := d.e2e && decide (d.moved + b.length ≥ d.len) && !bad &&
      crcOut (crc32cFrom d.crcRun b) != leAt d.bytes 0x10 4
    let s3 := s2.sendToken p 2 a ep 0 (some (sopBody (1 + c.toggle) pad ws.length)) ws (bad || mism) false
    let t1 := { t with bytes := b.length }
    if bad then s3.abortOut t1 n 14
    else if mism then s3.abortOut t1 n 10
    else s3.openBulk t1 n

/-- R226: the bulk region serves history fetches first, then control transfers by ascending device address, then the bulk
endpoints in turn. After PFI_N the IN descriptors in progress and the H24's own requests go on (R365). (DEDUCED, log entry 150.) -/
def execBulkLaunch (p errs word : Nat) (s : State) : Out :=
  if ¬ s.bulkOpen p ∨ s.cmdWaits p ∨ (s.nextHist p).isSome then .next s
  else match s.nextEp0 p with
    | some (a, .sys c) => .next (s.launchSys p a c)
    | some (a, .desc i e x d) => .next (s.launchCtl p a i e x d errs word)
    | none =>
      match s.nextBulk p with
      | some k =>
        match s.boundEntry k, s.ctx k with
        | some (i, e), some c =>
          match s.entry i e with
          | some x =>
            match x.desc with
            | some d => .next (s.launchBulk p k i e x c d errs word)
            | none => .next s
          | none => .next s
        | _, _ => .next s
      | none => .next s

/-! ### Answers (R121, R122, R126, R221, R222, R227) -/

/-- The word of a hub's EP1 that a periodic answer brings (R140). -/
def State.hubWord (s : State) (t : Txn) (a : Answer) : Option Nat :=
  match a, s.liveSvc t.key with
  | .data ws _ _, some v => if v.entry = 0 then ws.head? else none
  | _, _ => none

/-- The answer takes effect: the outcome, a hub's change report, and what a finished request leads to. -/
def State.takeAnswer (s : State) (t : Txn) (a : Answer) : State :=
  let words : Nat := match a with
    | .data ws _ _ => ws.length + 3 + b2n t.stamped
    | _ => 1
  let acked := t.need.ack && (match a with
    | .data _ _ _ => true
    | _ => false)
  let s0 := s.laneEnd t (a == .none) acked (t.kind == .periodic) words
  let s1 := s0.answered t a
  let s2 := match (if t.kind = .periodic then s.hubWord t a else none) with
    | some w => s1.hubChange t.addr w
    | none => s1
  s2.sysDone

/-- R221: a data packet reaches port `p` in the window of device `addr`'s transaction, or of an IN transaction whose window overlaps that
one (R219). `sop`: its SOP BODY; `words`: the data
words up to EOP; `bad`: a word failed R93; `ended`, `abort`: its EOP. NRDY_STORM may replace it (R402). (DESIGN CHOICE, log entry 87.) -/
def execPacketReceive (p addr sop : Nat) (words : List Nat) (bad ended abort : Bool) (s : State) : Out :=
  match s.sopTxn p addr with
  | some t =>
    if s.nrdyStorm p t.addr t.ep then .next ((s.takeAnswer t (.nrdy 0)).rxWords p (words.length + 1 + b2n ended) (b2n bad))
    else
      let (hit, s1) := if t.kind = .periodic then s.linkErr p 0 words.length else (0, s)
      let bad1 := bad || decide (hit ≠ 0)
      let s3 := if wireDamaged t sop words bad1 ended abort then s1.bump Fd.XFR_CHECK_CRC24 else s1
      .next ((s3.takeAnswer t (s3.judgePacket t sop words bad1 ended abort)).rxWords p (words.length + 1 + b2n ended) (max hit (b2n bad)))
  | none => .next s

/-- R122, R123: an upstream handshake in that window, matched by EP and ADDR_LO where windows overlap (R219). -/
def execHandshake (p addr body : Nat) (s : State) : Out :=
  match s.hskTxn p addr body with
  | some t =>
    if s.nrdyStorm p t.addr t.ep then .next ((s.takeAnswer t (.nrdy 0)).rxWords p 1 0)
    else .next ((s.takeAnswer t (hskAnswer t body)).rxWords p 1 0)
  | none => .next s

/-- R126: the window closes without an answer. -/
def execResponseWindowClose (p addr : Nat) (s : State) : Out :=
  match s.findTxn p addr with
  | some t => .next (s.takeAnswer t .none)
  | none => .next s

/-! ### Fetching OUT packets (R216, R229) -/

/-- What an OUT endpoint has fetched next: `n` bytes of the data of descriptor `index` at offset `off` (from `buf`), or that descriptor. -/
inductive OutFetch where
  | data (index buf off n : Nat)
  | desc (index : Nat)
  deriving DecidableEq, Repr

/-- A descriptor of entry `i`, `e` that has been read ahead: none where its read failed. -/
def State.aheadOf (s : State) (i e gen index : Nat) : Option (Option (List Byte)) :=
  (s.xfer.ahead.find? fun a => a.inst == i && a.entry == e && a.gen == gen && a.index == index).map (·.desc)

/-- The first packet not yet fetched for frame `f`, of the data descriptors from `d` onward in ring order up to index `stop`; fuel bounds
the ring. `moved`: bytes of `d` sent before. -/
def State.outWalk (s : State) (i e key f : Nat) (x : Entry) (c : Ctx) (stop : Nat) : Nat → Desc → Option OutFetch
  | 0, _ => none
  | k + 1, d =>
    let mine := s.xfer.bulkOut.filter fun o => o.key == key && o.index == d.index && o.frame == f
    let got := mine.foldl (fun (n : Nat) (o : BulkOut) => max n (o.off + o.bytes.length)) d.moved
    let nxt := (d.index + 1) % 65536
    if got < d.len then some (.data d.index d.buf got (min (packetBytes c) (d.len - got)))
    else if d.dtype ≠ 0 ∨ nxt = stop then none
    else match s.aheadOf i e x.gen nxt with
      | none => some (.desc nxt)
      | some none => none
      | some (some b) =>
        let d1 : Desc := { blankDesc i e nxt with bytes := b }
        if descError d1 false = 0 then s.outWalk i e key f x c stop k d1 else none

/-- What BULK_OUT_FETCH reads next for endpoint `key` (R229): packets of the descriptors from DEQ onward, within BULK_OUT_PKTS and the free
words of the bank; one read of an endpoint at a time. (DEDUCED, log entry 114.) (DESIGN CHOICE, log entry 247.) -/
def State.outNext (s : State) (key : Nat) : Option (Nat × Nat × Entry × OutFetch) :=
  let f := (s.frame + 1) % 2 ^ 32
  match s.boundEntry key, s.ctx key with
  | some (i, e), some c =>
    match s.entry i e with
    | some x =>
      match x.desc with
      | some d =>
        let pkts := (s.xfer.bulkOut.filter fun o => o.key == key && o.frame == f).length
        let busy := s.host.reads.any fun r => (r.use == .out && r.key == key) || (r.use == .ahead && r.inst == i && r.key == e)
        let free := 131072 - s.load bufMap (f % 64) - s.fetchedWords f
        if x.kind = 1 ∧ x.live ∧ x.closing.isNone ∧ ¬ d.dataIn x ∧ (d.dtype = 0 ∨ d.stage = .data) ∧ d.stop.isNone ∧ ¬ busy ∧
            pkts < s.get Fd.XFR_CTRL_BULK_OUT_PKTS then
          match s.outWalk i e key f x c (x.eligible s.frame) x.size d with
          | some (.data index buf off n) => if (n + 2) / 3 ≤ free then some (i, e, x, .data index buf off n) else none
          | r => r.map fun y => (i, e, x, y)
        else none
      | none => none
    | none => none
  | _, _ => none

/-- R229: the next packet of an OUT endpoint is fetched for frame n + 1. -/
def execBulkOutFetch (key : Nat) (s : State) : Out :=
  match s.outNext key with
  | some (i, e, x, .data index buf off n) =>
    if s.mayDrain (s.instOf i).port then
      let (s1, ok) := s.instRead i (pasidOf x.pasid) (buf + off) n .out key ((s.frame + 1) % 2 ^ 32) (index * 2 ^ 24 + off)
      .next (if ok ∨ (x.desc.map (·.index)) ≠ some index then s1 else s1.finishDesc i e 9 1)
    else .next s
  | some (i, e, x, .desc index) =>
    if s.mayDrain (s.instOf i).port then
      let (s1, ok) := s.instRead i (pasidOf x.pasid) (x.base + (index % x.size) * 32) 32 .ahead e s.frame index
      let miss : AheadD := { inst := i, gen := x.gen, entry := e, index := index, desc := none }
      .next (if ok then s1 else { s1 with xfer := { s1.xfer with ahead := s1.xfer.ahead ++ [miss] } })
    else .next s
  | none => .next s

/-- The read of a descriptor ahead has completed; what it was read for in an earlier frame is over. -/
def State.aheadDone (s : State) (r : HostRead) (ok : Bool) (data : List Byte) : State :=
  let a : AheadD := { inst := r.inst, gen := r.gen, entry := r.key, index := r.off, desc := if ok then some data else none }
  if r.frame = s.frame then { s with xfer := { s.xfer with ahead := s.xfer.ahead ++ [a] } } else s

/-- The read of an OUT packet has completed; a failed one ends the descriptor in progress that it is of, after the transaction in
progress (R160). -/
def State.outDone (s : State) (r : HostRead) (ok : Bool) (data : List Byte) : State :=
  let index := r.off / 2 ^ 24
  match s.boundEntry r.key with
  | some (i, e) =>
    match s.entry i e with
    | some x =>
      if x.gen ≠ r.gen then s
      else if ok then
        let o : BulkOut :=
          { inst := i, gen := x.gen, entry := e, key := r.key, index := index, off := r.off % 2 ^ 24, bytes := data.take r.len, frame := r.frame }
        if since32 r.frame s.frame < 2 then { s with xfer := { s.xfer with bulkOut := s.xfer.bulkOut ++ [o] } } else s
      else if x.desc.map (·.index) ≠ some index then s
      else if s.entryBusy i e then s.editDesc i e fun y => { y with stop := some (9, 1) }
      else s.finishDesc i e 9 1
    | none => s
  | none => s

/-! ### Writing IN data (R217, R228, R233) -/

/-- Bytes [o, o + n) of a record, with new contents. -/
def patch (b : List Byte) (o : Nat) (v : List Byte) : List Byte := b.take o ++ v ++ b.drop (o + v.length)

/-- The descriptor that bytes belonged to ends with a code: in progress, or in its record that waits for the bytes. `cut`:
the bytes written so far and the CRC state over them. -/
def State.amendDesc (s : State) (w : BulkW) (code detail : Nat) (cut : Option (Nat × Nat)) : State :=
  let others := s.xfer.bulkIn.filter fun x => !(x.inst == w.inst && x.entry == w.entry && x.index == w.index)
  let rest := { s with xfer := { s.xfer with bulkIn := if cut.isSome then others else s.xfer.bulkIn } }
  let live := ((rest.entry w.inst w.entry).bind (·.desc)).any fun d => d.index == w.index
  if live then
    let s1 := match cut with
      | some (n, crc) => (rest.editDesc w.inst w.entry fun d => { d with moved := n, crcRun := crc }).editCtx w.key fun c =>
          { c with done := n, runCrc := crcOut crc }
      | none => rest
    if s1.entryBusy w.inst w.entry then s1.editDesc w.inst w.entry fun d => { d with stop := some (code, detail) }
    else s1.finishDesc w.inst w.entry code detail
  else
    let f (r : CRec) : CRec :=
      if r.inst = w.inst ∧ r.entry = w.entry ∧ leAt r.bytes 4 2 = w.index ∧ leAt r.bytes 1 1 < 16 then
        let b1 := patch r.bytes 0 (leBytes 1 detail ++ leBytes 1 code)
        let b2 := match cut with
          | some (n, crc) => patch (patch b1 8 (leBytes 3 n)) 16 (leBytes 4 (if n = 0 then 0 else crcOut crc))
          | none => b1
        { r with bytes := b2, notify := true }
      else r
    ({ rest with rings := { rest.rings with recs := rest.rings.recs.map f } }).finishClose w.inst w.entry

/-- What is left of a descriptor of an older generation is discarded, and the descriptor counted once (R281). -/
def State.discardBulk (s : State) (w : BulkW) : State :=
  let same (x : BulkW) : Bool := x.inst == w.inst && x.gen == w.gen && x.entry == w.entry && x.index == w.index
  ({ s with xfer := { s.xfer with bulkIn := s.xfer.bulkIn.filter fun x => !same x } }).countDiscard w.inst

/-- R228: the bytes of one good packet of the previous bank are written. Older generations are discarded (R281); a write
that cannot be issued ends the descriptor with HOST_ERROR 2 (R160); an uncorrectable word is sent poisoned (R233). -/
def execBulkInWrite (ok : Bool) (errs word : Nat) (s : State) : Out :=
  match s.xfer.bulkIn.find? fun w => since32 s.frame w.bank == 1 with
  | none => .next s
  | some w =>
    let port := (s.instOf w.inst).port
    let s1 := { s with xfer := { s.xfer with bulkIn := s.xfer.bulkIn.erase w } }
    if ¬ s.mayDrain port then .next s
    else if w.gen ≠ (s.instOf w.inst).gen then .next (s.discardBulk w)
    else match s1.entry w.inst w.entry with
      | none => .next s1
      | some x =>
        let p := pasidOf x.pasid
        if s1.isoKind w.inst p ≠ 0 then .next ((s1.countIso w.inst p).amendDesc w 9 2 (some (w.off, w.crc)))
        else if ¬ (ok ∧ s1.portUp port) then .next (s1.amendDesc w 9 2 (some (w.off, w.crc)))
        else
          let s2 := ((s1.eccRead 1 word errs).instWrite w.inst p w.addr w.bytes true (decide (errs ≥ 2))).finishClose w.inst w.entry
          if errs ≥ 2 then
            .next (((s2.bump Fd.XFR_CHECK_POISONED).setEvent 18 Fd.XFR_EVENT_POISONED).amendDesc w 14 0 none)
          else .next s2

/-- XFR_DRAIN.LATE and its event (R217). -/
def State.countLate (s : State) : State := (s.bump Fd.XFR_DRAIN_LATE).setEvent 18 Fd.XFR_EVENT_DRAIN_LATE

/-- R217: at the tick of frame n + 2 the writes of bank n that are not issued are abandoned: each periodic slot is written
FAILED with CAUSE 0, each bulk IN descriptor ends HOST_ERROR with DETAIL 2. A history delivery leaves its slot as it
was (DEDUCED, log entry 45). -/
def execDrainDeadline (s : State) : Out :=
  let old (b : Nat) : Bool := decide (since32 s.frame b ≥ 2)
  let slots := s.xfer.slots.filter fun w => old w.bank
  let bulk := s.xfer.bulkIn.filter fun w => old w.bank
  let s1 := { s with xfer := { s.xfer with slots := s.xfer.slots.filter fun w => !old w.bank } }
  let s2 := slots.foldl (fun t w =>
    if w.gen ≠ (t.instOf w.inst).gen then (t.dropColl w).countDiscard w.inst
    else if w.hist then t.countLate
    else (t.lateRecovery w).countLate.slotOut { w with result := 2, cause := 0, words := [], fly := false } true 0 0) s1
  let s3 := bulk.foldl (fun t w =>
    if ¬ t.xfer.bulkIn.contains w then t
    else if w.gen ≠ (t.instOf w.inst).gen then t.discardBulk w
    else (t.amendDesc w 9 2 (some (w.off, w.crc))).countLate) s2
  .next s3

end Sys2Proof.Machine
end

