-- ==== Sys2Proof/Machine/PortOrder.lean ====
section
/-! DEFINITION. The order of requests on a host port (08, R234), and the records of its class 3 (06, R182, R183; 11, R299). -/

namespace Sys2Proof.Machine

/-- Class 2 has a request ready on a port: a write of the previous bank or a result slot (R217, R262), or an OUT fetch for the next bank
(R216). -/
def State.drainWaits (s : State) (port : Side) : Bool :=
  s.drainReady port || (SMap.keys s.pager.ctxs).any fun k =>
    ((s.slotDue k).any fun x => (s.instOf x.1).port == port) || ((s.outNext k).any fun x => (s.instOf x.1).port == port)

/-- A request of class 3 may be issued on a port: nothing of classes 1 and 2 is ready. -/
def State.mayRecord (s : State) (port : Side) : Bool := s.mayDrain port && !s.drainWaits port

/-- The port of record `r` takes it now: class 3 of R234. -/
def State.recGoes (s : State) (r : CRec) : Bool :=
  s.recReady r && s.mayRecord (s.instOf r.inst).port

/-- The record that is written next: the first in order that goes, behind no descriptor's record of the same completion ring, since these
appear in the order in which the descriptors ended (R182). `late`: rings of which such a record waits. -/
def State.nextRec (s : State) : List CRec → List (Nat × Nat) → Option CRec
  | [], _ => none
  | r :: l, late =>
    if r.gen ≠ (s.instOf r.inst).gen ∨ (s.recGoes r ∧ ¬ late.contains (r.inst, r.cring)) then some r
    else s.nextRec l (if r.resv then (r.inst, r.cring) :: late else late)

/-- R183: the first record in order whose data is written. One of an older generation is discarded (R281); one that cannot
be issued is lost (R424). -/
def execCompletionRecordWrite (ok : Bool) (s : State) : Out :=
  match s.nextRec s.rings.recs [] with
  | none => .next s
  | some r =>
    let s1 := { s with rings := { s.rings with recs := s.rings.recs.erase r } }
    if r.gen ≠ (s.instOf r.inst).gen then .next (s1.countDiscard r.inst)
    else
      let s2 := if r.resv then s1.unreserve r.inst r.cring else s1
      match s2.entry r.inst r.cring with
      | none => .next s2
      | some x =>
        let p := pasidOf x.pasid
        if s2.isoKind r.inst p ≠ 0 then .next ((s2.countIso r.inst p).countLost r.inst)
        else if ok ∧ s2.portUp (s2.instOf r.inst).port then .next (s2.writeCRec r x)
        else .next (s2.countLost r.inst)

/-! ### Event records (R299, R424) -/

/-- The event record that is written next: the oldest whose port takes it. -/
def State.nextEvent (s : State) : Option EventRec := s.evq.records.find? fun r => s.mayRecord (s.instOf r.inst).port

/-- Class 3 has a request ready on a port. -/
def State.recordWaits (s : State) (port : Side) : Bool :=
  (s.rings.recs.any fun r => (s.instOf r.inst).port == port && s.recReady r) ||
  (s.evq.records.any fun r => (s.instOf r.inst).port == port) ||
  s.dma.any fun x => x.2.recs.any fun r => (s.instOf r.inst).port == port

/-- A request of class 4 may be issued on a port: nothing of classes 1 to 3 is ready. -/
def State.mayDma (s : State) (port : Side) : Bool := s.mayRecord port && !s.recordWaits port

end Sys2Proof.Machine
end

