-- ==== Sys2Proof/Machine/Events.lean ====
section
/-! DEFINITION. The event controller's commands (11_event_queues.md, R289 to R308). -/

namespace Sys2Proof.Machine

/-- R296: the deliverable source first in order commits, in one core cycle; with none the command changes nothing. -/
def execEventCommit (s : State) : Out :=
  match s.nextSource with
  | some n => .next (s.commitSource n)
  | none => .next s

/-- A record of a commit has landed or is lost. Once all of them have, a commit lost in every queue returns its source to
PENDING with OCC and ARG as before, and one lost in some counts as missed there (R424). -/
def State.commitOutcome (s : State) (id : Nat) (lostIn : Option Nat) : State :=
  match s.evq.outs.find? (fun o => o.id == id) with
  | none => s
  | some o =>
    let o1 := match lostIn with
      | some q => { o with left := o.left - 1, lost := o.lost ++ [q] }
      | none => { o with left := o.left - 1, landed := o.landed + 1 }
    let rest := s.evq.outs.filter fun x => x.id != id
    if o1.left ≠ 0 then { s with evq := { s.evq with outs := o1 :: rest } }
    else
      let s1 := { s with evq := { s.evq with outs := rest } }
      if o1.landed = 0 then
        let x := s1.src o.source
        let b := o.before
        (s1.putSrc o.source { x with
          st := .pending, inQueues := [], server := none, commitAt := b.commitAt
          occ := min (b.occ + x.occ) 255
          arg := if srcOr o.source then b.arg ||| x.arg else if x.occ = 0 then b.arg else x.arg
          sw := b.sw || x.sw, held := b.held || x.held, first := b.first }).markHeld o.source
      else o1.lost.foldl (fun t q => t.bump (Fd.EVQ_Q_STATUS_FULL q)) s1

/-- A record lost in queue `q` takes no producer index: the records after it in the queue move up by one (R424). One committed before the
queue was enabled anew has none in the queue as it is now (R297). -/
def State.dropIndex (s : State) (r : EventRec) : State :=
  let q := r.queue
  let sz := s.qSize q
  let up (x : EventRec) : EventRec :=
    if x.queue = q ∧ ¬ x.old ∧ (x.index + 65536 - r.index) % 65536 < 32768 then
      let i := (x.index + 65535) % 65536
      { x with index := i, phase := 1 - (i / sz) % 2 }
    else x
  if r.old then s
  else
    let s1 := s.put (Fd.EVQ_Q_PROD_PROD q) (s.qProd q + 65535)
    { s1 with evq := { s1.evq with records := s1.evq.records.map up } }

/-- The source of record `r` has no record in its queue any more, unless a later commit put one there: a claim at that queue does not find
it (R300). -/
def State.unqueue (s : State) (r : EventRec) : State :=
  let n := r.word0 / 2 ^ 22
  if s.evq.records.any fun x => x.queue == r.queue && x.word0 / 2 ^ 22 == n && decide (x.commit > r.commit) then s
  else s.putSrc n { s.src n with inQueues := (s.src n).inQueues.filter (· != r.queue) }

/-- A record that cannot be issued (R424). -/
def State.loseRecord (s : State) (r : EventRec) : State :=
  (((s.dropIndex r).unqueue r).countLost r.inst).commitOutcome r.commit (some r.queue)

/-- Write a committed record as two posted writes, then its message if the queue is ARMED (R299). (DEDUCED, log entry 128.) -/
def State.writeRecord (s : State) (r : EventRec) : State :=
  let q := r.queue
  let base := s.get (Fd.EVQ_Q_BASE_LO_BASE_LO q) * 64 + s.get (Fd.EVQ_Q_BASE_HI_BASE_HI q) * 2 ^ 32
  let addr := base + (r.index % s.qSize q) * 16
  let pasid := pasidOf (s.rd (Reg.EVQ_Q_PASID q)).toNat
  if s.isoKind r.inst pasid = 0 then
    let s1 := s.instWrite r.inst pasid addr (leBytes 4 r.word0 ++ leBytes 4 r.arg ++ leBytes 4 r.frame) false false
    let s2 := s1.instWrite r.inst pasid (addr + 12) (leBytes 4 (r.phase * 2 ^ 31 + r.ns)) false false
    let s3 := s2.commitOutcome r.commit none
    if s3.on (Fd.EVQ_Q_STATUS_ARMED q) then (s3.put (Fd.EVQ_Q_STATUS_ARMED q) 0).queueMessage q else s3
  else (s.countIso r.inst pasid).loseRecord r

/-- R299: the oldest committed record whose port takes it is written (R234). One of an older generation is discarded (R281); one that cannot be
issued (its port's link is down, or `ok` is false) is lost and counted (R424). -/
def execEventRecordWrite (ok : Bool) (s : State) : Out :=
  match s.nextEvent with
  | none => .next s
  | some r =>
    let s1 := { s with evq := { s.evq with records := s.evq.records.erase r } }
    if r.gen ≠ (s.instOf r.inst).gen ∨ ¬ (s.instOf r.inst).exist then
      .next ((s1.countDiscard r.inst).commitOutcome r.commit none)
    else if ok ∧ s1.portUp (s1.instOf r.inst).port then .next (s1.writeRecord r)
    else .next (s1.loseRecord r)

/-- R294: the vector is unmasked, and a message held in its Pending Bit is sent. -/
def execMsixUnmask (port : Side) (vec : Nat) (s : State) : Out :=
  let held := s.host.msixPend.contains (port, vec)
  let h := { s.host with
    msixMask := s.host.msixMask.filter (· != (port, vec)), msixPend := s.host.msixPend.filter (· != (port, vec)) }
  let s1 := { s with host := h }
  .next (if held then s1.emitMsix port vec else s1)

/-- R293: the hold-off of a source has run out, and it may commit again. -/
def execHoldoffExpiry (src : Nat) (s : State) : Out :=
  let x := s.src src
  if x.commitAt.isSome ∧ ¬ s.heldOff src then .next (s.putSrc src { x with commitAt := none }) else .next s

/-- R302: a level source whose RUN would have reached 4,096 at the tick is quarantined. -/
def execQuarantine (src : Nat) (s : State) : Out :=
  let x := s.src src
  if x.quarDue ∧ ¬ x.quar then
    let s1 := (s.putSrc src { x with quar := true, quarDue := false }).markHeld src
    .next ((s1.occur 6 src).raiseCairn 5 1 src)
  else .next s

/-- The source an access names: the register's own in BAR0, the selected one in a page, and only while the instance owns
it (R308). -/
def State.srcVia (s : State) (via : Via) (src : Nat) : Option Nat :=
  match via with
  | .manager => if srcExists src then some src else none
  | .page i =>
    let n := s.get (Fd.EVQ_SRC_SEL_SOURCE i)
    if srcExists n ∧ (s.src n).owner = i then some n else none

/-- The physical queue an access names (R306, R308). -/
def State.queueVia (s : State) (via : Via) (q : Nat) : Option Nat :=
  match via with
  | .manager => if q < 256 then some q else none
  | .page i => s.localQueue i q

/-- The source a claim at queue `Q` takes (R300). -/
def State.claimable (s : State) (Q : Nat) : Option Nat :=
  (SMap.keys s.evq.srcs).foldl
    (fun a n => if (s.src n).st = .offered ∧ (s.src n).inQueues.contains Q then betterSrc s a n else a) none

/-- What a claim of source `n` returns (R300). -/
def State.claimWord (s : State) (n : Nat) : Nat :=
  b2n (!srcLevel n || decide (s.levelArg n ≠ 0)) * 2 ^ 31 + b2n (srcLevel n) * 2 ^ 30 + (s.src n).occ * 2 ^ 22 + n

/-- Claim at physical queue `Q` (R300). -/
def State.claimAt (s : State) (Q : Nat) : State :=
  match s.claimable Q with
  | some n =>
    (s.answer (s.claimWord n)).putSrc n { s.src n with st := .inService, occ := 0, inQueues := [], server := some Q }
  | none => s.answer 0x3FF

/-- R300: a read of CLAIM. A queue register above the instance's count reads 0 (R308). -/
def execEvqClaim (port : Side) (via : Via) (q : Nat) (s : State) : Out :=
  .next (s.hostReadVia port via (match s.queueVia via q with
    | some Q => s.claimAt Q
    | none => s.answer 0))

/-- A source leaves service: PENDING if it fired again or its level is asserted, otherwise INACTIVE (R301). -/
def State.endService (s : State) (n : Nat) : State :=
  let x := s.src n
  let again := decide (x.occ ≠ 0) || (srcLevel n && decide (s.levelArg n ≠ 0))
  (s.putSrc n { x with st := if again then .pending else .inactive, server := none }).markHeld n

/-- Complete source `n` at physical queue `Q` (R301). -/
def State.completeAt (s : State) (Q n : Nat) : State :=
  if (s.src n).st = .inService ∧ (s.src n).server = some Q then s.endService n
  else s.bump (Fd.EVQ_Q_STATUS_ERRORS Q)

/-- R301: a write to COMPLETE; the source number is bits [9:0]. -/
def execEvqComplete (port : Side) (via : Via) (q val : Nat) (s : State) : Out :=
  .next (s.hostWriteVia port via (match s.queueVia via q with
    | some Q => s.completeAt Q (val % 1024)
    | none => s))

/-- CONS of physical queue `Q` becomes `v`, if it lies in [CONS, PROD] (R299). (DEDUCED, log entry 129.) -/
def State.consAt (s : State) (Q v : Nat) : State :=
  if (v + 65536 - s.qCons Q) % 65536 ≤ s.qUsed Q then
    let s1 := s.put (Fd.EVQ_Q_CONS_CONS Q) v
    if s1.qProd Q ≠ v then (s1.put (Fd.EVQ_Q_STATUS_ARMED Q) 0).queueMessage Q
    else s1.put (Fd.EVQ_Q_STATUS_ARMED Q) 1
  else s.bump (Fd.EVQ_Q_STATUS_ERRORS Q)

/-- R299: a write to CONS; the index is bits [15:0]. -/
def execEvqCons (port : Side) (via : Via) (q val : Nat) (s : State) : Out :=
  .next (s.hostWriteVia port via (match s.queueVia via q with
    | some Q => s.consAt Q (val % 65536)
    | none => s))

/-- R292: a write of 1 to SET is one occurrence with argument 0 that sets the SW flag. -/
def execEvqSet (port : Side) (via : Via) (src : Nat) (s : State) : Out :=
  .next (s.hostWriteVia port via (match s.srcVia via src with
    | some n => s.occurAt n 0 s.frame s.nowNs true
    | none => s))

/-- R302: a write of 1 to QUAR releases the source and resets RUN. -/
def execEvqQuarClear (port : Side) (via : Via) (src : Nat) (s : State) : Out :=
  .next (s.hostWriteVia port via (match s.srcVia via src with
    | some n => s.putSrc n { s.src n with quar := false, run := 0, quarDue := false }
    | none => s))

/-- Sources in service through queue `Q` become PENDING (Races: queue EN written 0). -/
def State.releaseServed (s : State) (Q : Nat) : State :=
  foldN (fun t n =>
    if (t.src n).st = .inService ∧ (t.src n).server = some Q then
      (t.putSrc n { t.src n with st := .pending, server := none }).markHeld n
    else t) s (SMap.keys s.evq.srcs)

/-- Write the CFG word of physical queue `Q` (R297, R307): a reserved LOG2 makes the write ineffective (R9), and LOG2
does not change while EN is 1. -/
def State.queueCfg (s : State) (Q val : Nat) : State :=
  let lg := (val / 2 ^ 12) % 16
  if lg < 6 then s
  else if s.qEn Q then
    (if bitAt val 31 then s else (s.put (Fd.EVQ_Q_CFG_EN Q) 0).releaseServed Q)
  else
    let s1 := s.put (Fd.EVQ_Q_CFG_LOG2 Q) lg
    if bitAt val 31 then
      let aged (x : EventRec) : EventRec := if x.queue = Q then { x with old := true } else x
      let s2 := { s1 with evq := { s1.evq with records := s1.evq.records.map aged } }
      (((s2.put (Fd.EVQ_Q_CFG_EN Q) 1).put (Fd.EVQ_Q_PROD_PROD Q) 0).put (Fd.EVQ_Q_CONS_CONS Q) 0).put
        (Fd.EVQ_Q_STATUS_ARMED Q) 1
    else s1

/-- R297: a write to a queue's CFG register sets or clears EN. -/
def execEvqQueueEnable (port : Side) (via : Via) (q val : Nat) (s : State) : Out :=
  .next (s.hostWriteVia port via (match s.queueVia via q with
    | some Q => s.queueCfg Q val
    | none => s))

/-- The logic die runs: its clocks are up and it is not asleep (R303). -/
def State.dieRuns (s : State) : Bool :=
  s.boot.stage == .running || s.boot.stage == .recovery || s.boot.stage == .rom || s.boot.stage == .loaded

/-- The edge of a WAKE pin from `old` to `new` qualifies under MODE `m` (EVQ_WAKE_CFG). -/
def wakeEdge (m : Nat) (old new : Bool) : Bool :=
  match m with
  | 1 => !old && new
  | 2 => old && !new
  | 3 => old != new
  | _ => false

/-- R303: pin WAKE`n` goes to `level`. A qualifying edge sets the latch, asks for the capture of the RTC count at the
next RTC edge, and, while the logic die runs, is one occurrence of source 32 + n with the RTC count at the latch. -/
def execWakeLatchSet (n : Nat) (level : Bool) (dt rtc : Nat) (s : State) : Out :=
  let s0 := s.advance dt
  if n < 4 ∧ s0.boot.vaoOk then
    let old := bitAt s0.evq.wakeIn n
    let s1 := { s0 with evq := { s0.evq with wakeIn := (setBits (BitVec.ofNat 32 s0.evq.wakeIn) n n (b2n level)).toNat } }
    let m := bits (s1.rd Reg.EVQ_WAKE_CFG) (2 * n + 1) (2 * n)
    if wakeEdge m old level then
      let s2 := s1.putBit Reg.EVQ_WAKE_LATCH n true
      let s3 := { s2 with evq := { s2.evq with wakeCap := (setBits (BitVec.ofNat 32 s2.evq.wakeCap) n n 1).toNat } }
      if s3.dieRuns then .next (s3.occur (32 + n) (rtc % 2 ^ 32)) else .next s3
    else .next s1
  else .next s0

/-- R303: at an RTC edge the RTC count is captured into EVQ_WAKE_STAMPn of every latch set since the edge before. -/
def execWakeStampCapture (rtc : Nat) (s : State) : Out :=
  let cap := s.evq.wakeCap
  let s1 := foldN (fun t n => if bitAt cap n then t.put (Fd.EVQ_WAKE_STAMP_RTC n) (rtc % 2 ^ 32) else t) s [0, 1, 2, 3]
  .next { s1 with evq := { s1.evq with wakeCap := 0 }, time := { s1.time with rtc := rtc % 2 ^ 48 } }

/-! ### The control pairs' claim port (R305, R36, R426) -/

def cpPriority : CpReq → Nat
  | .tick => Config.cpPriorityTick
  | .doorbell => Config.cpPriorityDoorbell

def cpNumber : CpReq → Nat
  | .tick => Config.cpNumberTick
  | .doorbell => Config.cpNumberDoorbell

/-- DEPTH and TOP of EVQ_CP_STATUS. -/
def State.cpStatus (s : State) : State :=
  (s.put Fd.EVQ_CP_STATUS_DEPTH s.mbx.cpStack.length).put Fd.EVQ_CP_STATUS_TOP
    (match s.mbx.cpStack with
      | [] => 0
      | (p, _) :: _ => p)

/-- The request a claim takes: the highest priority above that at the top of the stack; nothing at depth 8 (R305). -/
def State.cpNext (s : State) : Option CpReq :=
  if s.mbx.cpStack.length ≥ 8 then none
  else
    let above (r : CpReq) : Bool := match s.mbx.cpStack with
      | [] => true
      | (p, _) :: _ => decide (cpPriority r > p)
    (s.mbx.cpReqs.filter above).foldl
      (fun a r => match a with
        | none => some r
        | some x => if cpPriority r > cpPriority x then some r else some x) none

/-- The slot taken next: mailbox 0 first, then ascending, in arrival order within a mailbox (R36). -/
def nextRung (l : List (Nat × Nat)) : Option (Nat × Nat) :=
  l.foldl (fun a x => match a with
    | none => some x
    | some y => if x.1 < y.1 then some x else some y) none

/-- Remove the first occurrence of a rung slot. -/
def eraseRung : List (Nat × Nat) → Nat × Nat → List (Nat × Nat)
  | [], _ => []
  | x :: t, y => if x = y then t else x :: eraseRung t y

/-- The command in slot `sl` of mailbox `m` as taken now. -/
def State.readCmd (s : State) (m sl : Nat) : Cmd :=
  let tmo := s.slotNum m sl 8 2
  { id := s.mbx.nextId, mbx := m, slot := sl, tag := s.slotNum m sl 2 2, gen := s.slotNum m sl 10 1
    opcode := s.slotNum m sl 0 2, req := s.slotBytes m sl 16 (s.slotNum m sl 6 2)
    target := if s.slotNum m sl 4 1 % 2 = 1 then some (s.slotNum m sl 12 4) else none
    takeFrame := s.frame, timeout := if tmo = 0 then 64 else tmo, pend := false, begun := false, ended := none
    ring := (s.cairn.lastSeq, s.cairn.next, s.cairn.wrapped) }

/-- The pair takes a slot: its journal entry replaces that of the slot's last command, once that one is over; it judges items 1 to 8 of R426 and completes a command that breaks one; otherwise it
journals the command (R54), and a target frame that TIMEOUT cannot reach completes PENDING (R38). -/
def State.takeSlot (s : State) (m sl : Nat) : State :=
  let c := s.readCmd m sl
  let j : Journal := { id := c.id, mbx := m, slot := sl, tag := c.tag, gen := c.gen, status := none }
  let s1 := { s with
    mbx := { s.mbx with rung := eraseRung s.mbx.rung (m, sl), nextId := s.mbx.nextId + 1, taken := s.mbx.taken ++ [c] }
    journal := (s.journal.filter fun x => !(x.mbx == m && x.slot == sl && !(s.mbx.taken.any fun y => y.id == x.id))) ++ [j] }
  match s.judgeHeader m sl with
  | some (st, d) => s1.finish c st d []
  | none =>
    match c.target with
    | some f =>
      if (opInfo c.opcode).isSome ∧ since32 f s.frame > c.timeout then
        (s1.goPending c f).setCmd { c with pend := true }
      else s1
    | none => s1

/-- What the active pair does with a claimed request: it restarts its watchdog at the tick (R53), or takes a slot. The standby's
firmware restarts its own at every tick. -/
def State.serveReq (s : State) (r : CpReq) : State :=
  match r with
  | .tick =>
    if s.on Fd.GLB_STATUS_ACTIVE_PAIR then { s with fw := { s.fw with pairB := { s.fw.pairB with wd := 0 } } }
    else { s with fw := { s.fw with pairA := { s.fw.pairA with wd := 0 } } }
  | .doorbell =>
    if s.fwServes then
      match nextRung s.mbx.rung with
      | some (m, sl) =>
        let s1 := s.takeSlot m sl
        if s1.mbx.rung.isEmpty then s1 else s1.cpAsk .doorbell
      | none => s
    else s

/-- R305, R36: the active pair claims its highest internal request above the stack top, pushes it and serves it. -/
def execCpClaim (s : State) : Out :=
  match s.cpNext with
  | none => .next { s with mbx := { s.mbx with cpAnswer := 0x3FF } }
  | some r =>
    let s1 := { s with mbx := { s.mbx with
      cpReqs := s.mbx.cpReqs.filter (· != r)
      cpStack := (cpPriority r, r) :: s.mbx.cpStack
      cpAnswer := cpNumber r } }
    .next (s1.cpStatus.serveReq r)

/-- R305: a completion of the request at the top pops it; any other is counted, recorded and raises STACK_FAULT. -/
def execCpComplete (req : CpReq) (s : State) : Out :=
  match s.mbx.cpStack with
  | (_, r) :: rest =>
    if r = req then .next { s with mbx := { s.mbx with cpStack := rest } }.cpStatus
    else
      let pair := s.get Fd.GLB_STATUS_ACTIVE_PAIR
      .next (((s.bump Fd.EVQ_CP_STATUS_FAULTS).raiseCairn 1 6 pair).occur 7 pair)
  | [] =>
    let pair := s.get Fd.GLB_STATUS_ACTIVE_PAIR
    .next (((s.bump Fd.EVQ_CP_STATUS_FAULTS).raiseCairn 1 6 pair).occur 7 pair)

end Sys2Proof.Machine
end

