-- ==== Sys2Proof/Machine/Firmware.lean ====
section
/-! DEFINITION. Mailboxes, system commands, firmware commands, pair faults and live update (02_mailbox_and_firmware.md). -/

namespace Sys2Proof.Machine

/-- R64: a taken command whose opcode is not in the index completes UNSUPPORTED. -/
def execUnknownOpcode (id : Nat) (s : State) : Out :=
  match s.findCmd id with
  | some c =>
    if (opInfo c.opcode).isNone ∧ s.fwServes then .next (s.finish c ST.unsupported (if c.mbx = 0 then 0 else 0xF2) [])
    else .next s
  | none => .next s

/-! ### System commands (R62) -/

/-- SYS_NOP returns the request bytes. -/
def execSysNop (id : Nat) (s : State) : Out := .next (s.run id 0x0000 fun c => s.okay c c.req)

/-- The response of SYS_GET_INFO. -/
def State.infoBytes (s : State) (m : Nat) : List Byte :=
  leBytes 4 (s.rd Reg.MBX_FW_VER).toNat ++ leBytes 1 s.runSlot ++ leBytes 1 s.mode ++
    leBytes 1 (s.get Fd.MBX_FW_STATE_SEC_COUNT) ++ leBytes 1 (s.get Fd.MBX_BOOT_INFO_REASON) ++ leBytes 8 Config.uid ++
    leBytes 4 (s.rd Reg.GLB_CAP).toNat ++ leBytes 1 m ++ leBytes 1 (s.instOf m).gen ++ zeros 2

def execSysGetInfo (id : Nat) (s : State) : Out := .next (s.run id 0x0001 fun c => s.okay c (s.infoBytes c.mbx))

/-- SYS_GET_NONCE: the old nonce ends; a new one is outstanding from this frame (R61). Its value is free. -/
def execSysGetNonce (id : Nat) (s : State) : Out :=
  .next (s.run id 0x0002 fun c =>
    let n := Config.nonce s.fw.fresh % 2 ^ 64
    let s1 := { s with fw := { s.fw with nonce := some (n, s.frame), fresh := s.fw.fresh + 1 } }
    s1.okay c (leBytes 8 n ++ leBytes 4 ((s.frame + 65536) % 2 ^ 32)))

/-- The newest outcome of mailbox `m` under a TAG (R39). -/
def State.outcomeOf (s : State) (m tag : Nat) : Option PendOutcome :=
  (s.mbx.outcomes.filter fun o => o.mbx == m && o.tag == tag).getLast?

/-- The response of SYS_QUERY_PENDING: STATE, STATUS, DETAIL, 0, EFFECT_FRAME. -/
def outcomeBytes : Option PendOutcome → List Byte
  | some o => leBytes 1 (if o.done then 2 else 1) ++ leBytes 1 o.status ++ leBytes 1 o.detail ++ zeros 1 ++ leBytes 4 o.frame
  | none => zeros 8

def execSysQueryPending (id : Nat) (s : State) : Out :=
  .next (s.run id 0x0003 fun c => s.okay c (outcomeBytes (s.outcomeOf c.mbx (c.u 0 2))))

/-- SYS_SET_MGR_PORT writes MGR_PORT into the boot header (R27, R44). -/
def execSysSetMgrPort (id : Nat) (s : State) : Out :=
  .next (s.run id 0x0004 fun c =>
    s.judged c [(decide (c.u 0 1 > 1), ST.invalid, 0)] ((s.updateHdr none (some (c.u 0 1))).okay c []))

/-- SYS_WARM_RESET: in the frame before the reset's tick, which is that of EFFECT_FRAME or the second after the take,
the reset is scheduled and the slot completes OK. -/
def execSysWarmReset (id : Nat) (s : State) : Out :=
  .next (s.runNow id 0x0005 fun c =>
    let f := c.target.getD ((c.takeFrame + 2) % 2 ^ 32)
    if since32 f s.frame = 1 then
      ({ s with boot := { s.boot with warm := some { frame := f, reason := 4 } } }).finishAt c ST.ok 0 f []
    else s)

/-- SYS_KEY_PROVISION (R59, R62): key slot 0 once; key slot 1 up to 8 times, with a token of purpose 0x03 signed with
integrator key 0. A token check ends the nonce, whatever its outcome (R61). -/
def execSysKeyProvision (id : Nat) (s : State) : Out :=
  .next (s.run id 0x0006 fun c =>
    let k := c.u 0 1
    let key := slice c.req 4 64
    let tok := slice c.req 68 92
    let f := s.fw.fuses
    if k > 1 then s.finish c ST.invalid 0 []
    else if k = 0 then
      (if f.key0.isSome then s.finish c ST.denied 0 []
       else ({ s with fw := { s.fw with fuses := { f with key0 := some key } } }).okay c [])
    else if f.key1Uses ≥ 8 ∨ f.key0.isNone then s.finish c ST.denied 0 []
    else if s.tokenOk tok 3 (some 0) then
      ({ s with fw := { s.fw with fuses := { f with key1 := some key, key1Uses := f.key1Uses + 1 }, nonce := none } }).okay c []
    else s.endNonce.finish c ST.denied 0 [])

/-- Standby state of SYS_GET_PAIR_STATUS. -/
def standbyCode : PairMode → Nat
  | .loading => 1
  | .ready => 2
  | .halted => 3
  | _ => 0

def execSysGetPairStatus (id : Nat) (s : State) : Out :=
  .next (s.run id 0x0007 fun c => s.okay c
    (leBytes 1 (s.get Fd.GLB_STATUS_ACTIVE_PAIR) ++ leBytes 1 (standbyCode s.otherPair.mode) ++
      leBytes 1 (s.get Fd.MBX_FW_STATE_PAIR_FAULTS) ++ leBytes 1 s.fw.lastCause ++ leBytes 4 s.fw.lastFrame))

/-- R61: the outstanding nonce ends 65,536 frames after its issue. -/
def execNonceExpiry (s : State) : Out :=
  match s.fw.nonce with
  | some (_, f) => if since32 s.frame f ≥ 65536 then .next s.endNonce else .next s
  | none => .next s

/-! ### Firmware commands (R63) -/

/-- State, SEC_VER and VERSION of one flash area. R63 does not say what empty is, nor what an empty area's SEC_VER and VERSION read:
the model calls an area empty whose MAGIC is erased flash, 0xFFFF_FFFF, and reports 0 for both (DESIGN CHOICE, log entry 225). -/
def State.slotRecord (s : State) (t : Nat) : List Byte :=
  if s.flashNum (imageBase t) 4 = 0xFFFFFFFF then zeros 6
  else leBytes 1 (if s.accepted t then 1 else 2) ++ leBytes 1 (s.imageSec t) ++ leBytes 4 (s.imageVersion t)

def execFwGetSlots (id : Nat) (s : State) : Out :=
  .next (s.run id 0x0F00 fun c => s.okay c
    (s.slotRecord 0 ++ s.slotRecord 1 ++ s.slotRecord 2 ++ leBytes 1 s.preferred ++ leBytes 1 s.fw.fuses.sec))

/-- FW_STAGE completes PENDING and the firmware reads the image through the manager's port; PENDING_OUTCOME carries what the read
returned. (DEDUCED, log entry 54.) -/
def execFwStage (id : Nat) (s : State) : Out :=
  .next (s.run id 0x0F01 fun c =>
    s.judged c [(decide (c.u 0 8 % 4 ≠ 0 ∨ c.u 8 4 > 0x100000 ∨ c.u 12 1 > 2), ST.invalid, 0)]
      (((s.fwReadsEnd c.id).fwRead c.id (if bitAt (c.u 13 1) 0 then some (c.u 16 4 % 2 ^ 20) else none) (c.u 0 8) (c.u 8 4) 0).goPending c
        s.frame))

/-- Image slot `t` runs, or the standby pair holds it. In recovery no slot runs (R50). -/
def State.slotInUse (s : State) (t : Nat) : Bool :=
  decide (t < 2) && ((s.mode != 1 && t == s.runSlot) || (s.on Fd.GLB_STATUS_STANDBY_READY && t == s.otherPair.slot))

/-- The final status of FW_STAGE (R46, R63): `img` is what the manager's host returned, `code` 1 a failed flash verify. The image is
written, read back and then judged by R46: a refused image stands in the flash, as the rejected image that FW_GET_SLOTS reports
(DEDUCED, log entry 226). A slot in use is never written. R63 names no status for a failed host read (`ok` false): the model ends it
FAULT with DETAIL 0 (DESIGN CHOICE, log entry 227). -/
def State.outcomeFwStage (s : State) (c : Cmd) (ok : Bool) (code : Nat) (img : List Byte) : State :=
  let t := c.u 12 1
  let new := img.take (c.u 8 4)
  if ¬ ok then s.finish c ST.fault 0 []
  else if s.slotInUse t then
    (match s.imageRules false new with
      | some d => s.finish c ST.invalid d []
      | none => s.finish c ST.denied 0 [])
  else if code = 1 then s.finish c ST.fault 7 []
  else
    let s1 := s.flashWrite (imageBase t) new
    match s1.imageRules (t == 2) (s1.flashBytes (imageBase t) new.length) with
    | some d => s1.finish c ST.invalid d []
    | none => s1.okay c []

/-- FW_LOAD_STANDBY: the standby pair, whose domain is ON, loads the slot; the command completes PENDING. -/
def execFwLoadStandby (id : Nat) (s : State) : Out :=
  .next (s.run id 0x0F02 fun c =>
    s.judged c [(decide (c.u 0 1 > 1), ST.invalid, 0),
        (s.otherPair.mode == .halted || s.fw.switch.isSome, ST.denied, 0)]
      (let p := s.otherPair
       let t := if s.standbyOn then
           (s.putOther { p with mode := .loading, slot := c.u 0 1, back := some (p.mode, p.slot) }).put Fd.GLB_STATUS_STANDBY_READY 0
         else s
       t.goPending c s.frame))

/-- The final status of FW_LOAD_STANDBY: OK when STANDBY_READY becomes 1; UNSUPPORTED where the image cannot accept the
running image's state; DENIED where the standby pair has halted since. An image that R46 refuses, a load or check that fails (`ok` false)
and a standby domain that is not ON end it FAULT with DETAIL 0 (DESIGN CHOICE, log entry 8). A load that fails has no effect: the pair
is again what it was (R40). -/
def State.outcomeFwLoad (s : State) (c : Cmd) (ok : Bool) : State :=
  let t := c.u 0 1
  if s.otherPair.mode = .halted then s.finish c ST.denied 0 []
  else if ¬ s.standbyOn ∨ ¬ ok ∨ ¬ s.accepted t then s.endLoad.finish c ST.fault 0 []
  else if s.imageStateVer s.runSlot < s.imageMinState t then s.endLoad.finish c ST.unsupported 0 []
  else
    (((s.putOther { s.otherPair with mode := .ready, slot := t, back := none }).put Fd.GLB_STATUS_STANDBY_READY 1).put
      Fd.MBX_FW_STATE_STBY_SLOT t).okay c []

/-- FW_SWITCH (R57): target F = EFFECT_FRAME with AT_FRAME, else take + 4. -/
def execFwSwitch (id : Nat) (s : State) : Out :=
  .next (s.runNow id 0x0F03 fun c =>
    let f := c.target.getD ((c.takeFrame + 4) % 2 ^ 32)
    s.judged c [(decide (since32 f c.takeFrame < 4), ST.invalid, 0xF0),
        (!s.on Fd.GLB_STATUS_STANDBY_READY, ST.denied, 0)]
      (let w : FwSwitch := { cmd := c.id, target := f, stopped := false, written := none, accepted := none }
       ({ s with fw := { s.fw with switch := some w } }).goPending c f))

/-- FW_COMMIT: the header names the running slot, the fuse counter rises to its SEC_VER, TRIAL clears; nothing changes if
the running slot is already preferred in a valid header. -/
def execFwCommit (id : Nat) (s : State) : Out :=
  .next (s.run id 0x0F04 fun c =>
    if s.newestHdr.isSome ∧ s.preferred = s.runSlot then s.okay c []
    else
      let s1 := s.updateHdr (some s.runSlot) none
      let sec := max s.fw.fuses.sec (s.imageSec s.runSlot)
      let s2 := { s1 with fw := { s1.fw with fuses := { s1.fw.fuses with sec := sec } } }
      ((s2.put Fd.MBX_FW_STATE_SEC_COUNT sec).put Fd.MBX_FW_STATE_TRIAL 0).okay c [])

/-! ### Pair faults, takeover and live update -/

/-- R53: the cores of a pair disagree; in SINGLE the comparison is suspended (R371). -/
def execLockstepMismatch (pair : PairId) (s : State) : Out :=
  if s.get (if pairNum pair = 0 then Fd.PDM_STATE_PAIRA else Fd.PDM_STATE_PAIRB) = 2 then .next s else .next (s.pairFault pair 1)

/-- R53: the watchdog of a pair expires after 16 frames without a restart. For a standby pair, whose restarts nothing in the state
shows, the row itself reports them missing. (DESIGN CHOICE, log entry 224.) -/
def execPairWatchdogExpiry (pair : PairId) (s : State) : Out :=
  let p := match pair with
    | .a => s.fw.pairA
    | .b => s.fw.pairB
  if p.wd ≥ 16 ∨ p.mode = .ready then .next (s.pairFault pair 3) else .next s

/-- The registers that describe the image of the active pair (MBX_FW_VER, MBX_FW_STATE). -/
def State.showRunning (s : State) (slot : Nat) : State :=
  ((s.wr Reg.MBX_FW_VER (BitVec.ofNat 32 (s.imageVersion slot))).put Fd.MBX_FW_STATE_RUN_SLOT slot).put
    Fd.MBX_FW_STATE_TRIAL (b2n (slot != s.preferred))

/-- The other pair becomes active, with an empty priority stack (R55, R57, R305). `old` is what the old pair becomes. -/
def State.swapPairs (s : State) (old : PairMode) : State :=
  let a := s.activePair
  let o := s.otherPair
  let s1 := (s.putActive { a with mode := old, wd := 0 }).putOther { o with mode := .active, wd := 0 }
  let s2 := s1.put Fd.GLB_STATUS_ACTIVE_PAIR (1 - s.get Fd.GLB_STATUS_ACTIVE_PAIR)
  ({ s2 with mbx := { s2.mbx with cpStack := [] } }).cpStatus.showRunning o.slot

/-- The journalled commands complete (R55): those that have committed with their status, those that had not FAULT with no effect: what
they had under way is dropped. One whose effect the hardware goes on with completes with it. -/
def State.failTaken (s : State) : State :=
  let one (t : State) (c : Cmd) : State := match c.ended with
    | some (status, detail, ef, resp) => t.complete c status detail ef resp
    | none => if t.goesOn c then t else t.finish c ST.fault 0 []
  s.mbx.taken.foldl one s.dropWork

/-- R55: at the second tick after the fault the standby pair becomes active, ends an outstanding FW_SWITCH with OK and
DETAIL 1 (R58), and completes the journalled commands; the faulted pair is reloaded. Where the standby is not ready any more, no pair is
left (R56). -/
def execStandbyTakeover (s : State) : Out :=
  match s.fw.takeoverAt with
  | some f =>
    if since32 s.frame f < 2 ^ 31 then
      if s.otherPair.mode ≠ .ready then .next s.haltFw
      else
      let s1 := (({ s with fw := { s.fw with takeoverAt := none } }).swapPairs .loading).put Fd.GLB_STATUS_STANDBY_READY 0
      .next (((((s1.put Fd.MBX_FW_STATE_MODE 0).put Fd.GLB_STATUS_FW_RUNNING 1).endSwitch ST.ok 1).failTaken).resumeTaking)
    else .next s
  | none => .next s

/-- R55: the reloaded pair's self-test: it becomes standby, or stays halted. A pair whose domain is not ON is not ready (R371). -/
def execFaultedPairSelftest (pass : Bool) (s : State) : Out :=
  if s.otherPair.mode = .loading ∧ s.otherPair.back.isNone ∧ s.standbyOn ∧ ¬ s.bistStandby then
    (if pass then
      .next (((s.putOther { s.otherPair with mode := .ready, slot := s.runSlot }).put Fd.GLB_STATUS_STANDBY_READY 1).put
        Fd.MBX_FW_STATE_STBY_SLOT s.runSlot)
     else .next ((s.putOther { s.otherPair with mode := .halted }).put Fd.GLB_STATUS_STANDBY_READY 0))
  else .next s

/-- Where the handover state stands in the firmware area of Tarn (R19, R57). -/
def handoverBase : Nat := 0xC000

/-- The handover state as the model writes it: STATE_VER, then a CRC-32C over it. Its body, whose format is the firmware's own, is not
held (DESIGN CHOICE, log entry 53). -/
def handoverBytes (v : Nat) : List Byte := leBytes 1 v ++ leBytes 4 (crc32c (leBytes 1 v))

/-- Uncommitted commands are abandoned for re-execution by the new pair (R57): what they had under way is dropped, but for what the
hardware goes on with by itself (a clear of Cairn, a self-test, a DVFS change made), whose command completes. -/
def State.abandonTaken (s : State) (switch : Nat) : State :=
  let t := s.dropWork
  let again (c : Cmd) : Cmd := if c.id = switch ∨ t.goesOn c then c else { c with begun := false }
  { t with mbx := { t.mbx with taken := t.mbx.taken.map again } }

/-- R57, two frames before the target: the active pair stops taking slots, MODE is 2, and it writes its handover state. -/
def execSwitchStopTaking (s : State) : Out :=
  match s.fw.switch with
  | some w =>
    if since32 w.target s.frame ≤ 2 ∧ ¬ w.stopped ∧ s.activePair.mode = .active then
      let v := s.imageStateVer s.runSlot
      let s0 := s.abandonTaken w.cmd
      let s1 := { s0 with
        tarn := Memory.write zeroByte s.tarn handoverBase (handoverBytes v)
        fw := { s0.fw with switch := some { w with stopped := true, written := some v } } }
      .next (s1.put Fd.MBX_FW_STATE_MODE 2)
    else .next s
  | none => .next s

/-- The state in Tarn is whole and of a format the standby's image accepts (R57). -/
def State.handoverGood (s : State) : Bool :=
  let v := (Memory.read zeroByte s.tarn handoverBase 1)
  leNat (Memory.read zeroByte s.tarn (handoverBase + 1) 4) == crc32c v && decide (s.imageMinState s.otherPair.slot ≤ leNat v)

/-- R57, one frame before the target: the standby pair checks the handover state. -/
def execHandoverStateCheck (s : State) : Out :=
  match s.fw.switch with
  | some w =>
    if since32 w.target s.frame ≤ 1 ∧ w.written.isSome ∧ w.accepted.isNone then
      .next { s with fw := { s.fw with switch := some { w with accepted := some s.handoverGood } } }
    else .next s
  | none => .next s

/-- R57, R58 at the target tick: ACTIVE_PAIR changes, or, the state rejected, the old pair resumes and FW_SWITCH ends
FAULT. Where the active pair has faulted since, there is no handover: the takeover of R55 follows and ends FW_SWITCH. -/
def execSwitchHandover (s : State) : Out :=
  match s.fw.switch with
  | some w =>
    if since32 s.frame w.target < 2 ^ 31 ∧ w.accepted.isSome ∧ s.activePair.mode = .active then
      (if w.accepted = some true ∧ s.on Fd.GLB_STATUS_STANDBY_READY then
        let s1 := (s.swapPairs .ready).put Fd.MBX_FW_STATE_STBY_SLOT s.activePair.slot
        let s2 := (s1.put Fd.MBX_FW_STATE_MODE 0).raiseCairn 1 5 (s.imageVersion s.otherPair.slot)
        .next (((s2.endSwitch ST.ok 0).retake).resumeTaking)
       else .next ((((s.put Fd.MBX_FW_STATE_MODE 0).endSwitch ST.fault 0).retake).resumeTaking))
    else .next s
  | none => .next s

end Sys2Proof.Machine
end

