-- ==== Sys2Proof/Machine/Mains.lean ====
section
/-! DEFINITION. The mains observer (13_mains_observer.md, R334 to R343). The front end is taken as ideal: MAINS_SAMPLE carries
the microvolts at the pins, and the instants of the zero crossings come with their commands. -/

namespace Sys2Proof.Machine

def State.setMains (s : State) (m : Mains) : State := { s with mains := m }

def Mains.ch (m : Mains) (c : Nat) : MainsCh := SMap.get MainsCh.reset m.chs c

def Mains.putCh (m : Mains) (c : Nat) (x : MainsCh) : Mains := { m with chs := SMap.put MainsCh.reset c x m.chs }

def Mains.eachCh (m : Mains) (f : MainsCh → MainsCh) : Mains := foldN (fun (x : Mains) c => x.putCh c (f (x.ch c))) m [0, 1, 2, 3]

def State.mnsEn (s : State) (c : Nat) : Bool := bitAt (s.get Fd.MNS_CTRL_EN) c
def State.mnsRef (s : State) : Nat := s.get Fd.MNS_CTRL_REF_CH
def State.mnsLocked (s : State) : Bool := s.on Fd.MNS_STATUS_FREQ_LOCK
/-- F_NOM in Hz. -/
def State.mnsNom (s : State) : Nat := if s.on Fd.MNS_CTRL_F_NOM then 60 else 50

/-- Channels that the polyphase rules judge: the enabled ones, in single-phase wiring channel 0 alone (R338). (DEDUCED, log entry 179.) -/
def State.mnsJudged (s : State) : List Nat := [0, 1, 2, 3].filter fun c => s.mnsEn c && (s.mains.wiring != 0 || c == 0)

/-! ### Magnitudes (R336) -/

/-- num / den in whole units; the rounding of a value that is not whole is free. -/
def quotFree (num den : Nat) : Nat :=
  if den = 0 then 0 else if num % den = 0 then num / den else num / den + b2n (Config.mainsUp num den)

/-- The square root of num / den in whole units, rounded the same way. -/
def rootFree (num den : Nat) : Nat :=
  let r := isqrtQ num den 32 0
  if r * r * den = num then r else r + b2n (Config.mainsUp num den)

/-- Root mean square of a channel in 0.01 % of its UDIN, from the sum of the squares in µV² over `n` samples. -/
def MainsCh.mag (x : MainsCh) (sumSq n : Nat) : Nat :=
  if n = 0 ∨ x.udin = 0 then 0
  else
    let g := (1000000 + x.ppm).toNat
    min (rootFree (sumSq * (x.fsv * x.fsv) * (g * g) * 10 ^ 8) (n * 10 ^ 24 * (x.udin * x.udin))) 0xFFFFFF

/-- Sum of squares and number of the samples of channel `c` in [a, b). -/
def Mains.squares (m : Mains) (c a b : Nat) : Nat × Nat :=
  m.samples.foldl (fun r x =>
    if a ≤ x.1 ∧ x.1 < b then (r.1 + (x.2.getD c 0).natAbs * (x.2.getD c 0).natAbs, r.2 + 1) else r) (0, 0)

/-! ### Events (R338, R342) -/

/-- A polyphase event ends: the last-event record takes its stamp, duration, channels and extreme. (DEDUCED, log entry 180.) -/
def State.mnsEnd (s : State) (kind cause now : Nat) (e : MainsEvent) : State :=
  let l : MainsLast :=
    { info := kind * 2 ^ 28 + cause * 2 ^ 26 + e.chans % 16 * 2 ^ 20 + e.ext % 2 ^ 20, sec := e.start / 1000000000
      ns := e.start % 1000000000, dur := min ((now - e.start) / 1000) 0xFFFFFFFF }
  let s1 := s.setMains { s.mains with last := l }
  s1.wr Reg.MNS_EVT_INFO (BitVec.ofNat 32 l.info)

def State.dipEnd (s : State) (cause now : Nat) : State := match s.mains.dip with
  | some e => ((s.mnsEnd 1 cause now e).setEvent 22 Fd.MNS_EVENT_DIP_END).setMains { (s.mnsEnd 1 cause now e).mains with dip := none }
  | none => s

def State.swellEnd (s : State) (cause now : Nat) : State := match s.mains.swell with
  | some e =>
    ((s.mnsEnd 2 cause now e).setEvent 22 Fd.MNS_EVENT_SWELL_END).setMains { (s.mnsEnd 2 cause now e).mains with swell := none }
  | none => s

def State.intEnd (s : State) (cause now : Nat) : State := match s.mains.int with
  | some e => ((s.mnsEnd 3 cause now e).setEvent 22 Fd.MNS_EVENT_INT_END).setMains { (s.mnsEnd 3 cause now e).mains with int := none }
  | none => s

def State.excEnd (s : State) (cause now : Nat) : State := match s.mains.exc with
  | some e =>
    ((s.mnsEnd 4 cause now e).setEvent 22 Fd.MNS_EVENT_FREQ_EXC).setMains
      { (s.mnsEnd 4 cause now e).mains with exc := none, excRun := 0 }
  | none => s

/-- Dips, swells and interruptions end, the polyphase ones and those of each channel (R339, Races). -/
def State.mnsEndAll (s : State) (cause now : Nat) : State :=
  let s1 := ((s.intEnd cause now).dipEnd cause now).swellEnd cause now
  s1.setMains (s1.mains.eachCh fun x => { x with dip := false, swell := false, int := false })

def maskIf (l : List Nat) (f : Nat → Bool) : Nat := l.foldl (fun v c => v + 2 ^ c * b2n (f c)) 0

/-- The polyphase dip under the latest values (R338). -/
def State.judgeDip (s : State) (l : List Nat) (now : Nat) : State :=
  let m := s.mains
  let u (c : Nat) : Nat := (m.ch c).half
  let low := l.foldl (fun n c => min n (u c)) 0xFFFFFF
  let part := maskIf l fun c => decide (u c < m.dipAt)
  match m.dip with
  | none =>
    if part ≠ 0 then
      let s1 := s.setMains { m with dip := some { start := now, chans := part, ext := low }, dips := min (m.dips + 1) 0xFFFF }
      (s1.bump Fd.MNS_COUNT_DIPS).setEvent 22 Fd.MNS_EVENT_DIP_START
    else s
  | some e =>
    let s1 := s.setMains { m with dip := some { e with chans := e.chans ||| part, ext := min e.ext low } }
    if l.all fun c => decide (u c ≥ m.dipAt + m.hyst) then s1.dipEnd 0 now else s1

def State.judgeSwell (s : State) (l : List Nat) (now : Nat) : State :=
  let m := s.mains
  let u (c : Nat) : Nat := (m.ch c).half
  let high := l.foldl (fun n c => max n (u c)) 0
  let part := maskIf l fun c => decide (u c > m.swellAt)
  match m.swell with
  | none =>
    if part ≠ 0 then
      let s1 := s.setMains { m with swell := some { start := now, chans := part, ext := high }, swells := min (m.swells + 1) 0xFFFF }
      (s1.bump Fd.MNS_COUNT_SWELLS).setEvent 22 Fd.MNS_EVENT_SWELL_START
    else s
  | some e =>
    let s1 := s.setMains { m with swell := some { e with chans := e.chans ||| part, ext := max e.ext high } }
    if l.all fun c => decide (u c + m.hyst ≤ m.swellAt) then s1.swellEnd 0 now else s1

def State.judgeInt (s : State) (l : List Nat) (now : Nat) : State :=
  let m := s.mains
  let u (c : Nat) : Nat := (m.ch c).half
  let low := l.foldl (fun n c => min n (u c)) 0xFFFFFF
  match m.int with
  | none =>
    if l ≠ [] ∧ (l.all fun c => decide (u c < m.intAt)) then
      let e : MainsEvent := { start := now, chans := maskIf l fun _ => true, ext := low }
      let s1 := s.setMains { m with int := some e, ints := min (m.ints + 1) 0xFFFF }
      (s1.bump Fd.MNS_COUNT_INTS).setEvent 22 Fd.MNS_EVENT_INT_START
    else s
  | some e =>
    let s1 := s.setMains { m with int := some { e with ext := min e.ext low } }
    if l.any fun c => decide (u c ≥ m.intAt + m.hyst) then s1.intEnd 0 now else s1

/-- The single-channel states of R338. -/
def Mains.judgeCh (m : Mains) (x : MainsCh) : MainsCh :=
  let u := x.half
  { x with
    dip := if x.dip then decide (u < m.dipAt + m.hyst) else decide (u < m.dipAt)
    swell := if x.swell then decide (u + m.hyst > m.swellAt) else decide (u > m.swellAt)
    int := if x.int then decide (u < m.intAt + m.hyst) else decide (u < m.intAt) }

def Mains.busy (m : Mains) : Bool := m.dip.isSome || m.swell.isSome || m.int.isSome

/-- R338: a half-cycle instant, at which the window of the cycle before it ends and is judged; without lock no window
ends (R339). (DEDUCED, log entry 176.) -/
def State.windowEnd (s : State) : State :=
  let now := s.nowNsAll
  let m := s.mains
  if s.mnsLocked then
    let s1 := match m.marks[1]? with
      | some a =>
        let m1 := foldN (fun (x : Mains) c =>
          if s.mnsEn c then
            let q := x.squares c a now
            x.putCh c (x.judgeCh { x.ch c with half := (x.ch c).mag q.1 q.2 })
          else x) m [0, 1, 2, 3]
        let l := s.mnsJudged
        let t := (((s.setMains m1).judgeDip l now).judgeSwell l now).judgeInt l now
        t.setMains { t.mains with tenFlag := t.mains.tenFlag || t.mains.busy }
      | none => s
    s1.setMains { s1.mains with marks := (now :: m.marks).take 2 }
  else s

def execUrmsWindowEnd (dt : Nat) (s : State) : Out := .next (s.advance dt).windowEnd

/-! ### Cycles of the reference channel (R337, R339) -/

/-- Lock is lost (R339): events in progress end with cause LOCK, and the 10/12-cycle interval under way is dropped with its sums. (DEDUCED,
log entry 177.) -/
def State.loseLock (s : State) (now : Nat) : State :=
  let s1 := if s.mnsLocked then s.mnsEndAll 2 now else s
  (s1.put Fd.MNS_STATUS_FREQ_LOCK 0).setMains { s1.mains.eachCh (fun x => { x with sumSq := 0, count := 0 }) with
    good := 0, freq := 0, marks := [], tenCyc := 0, tenFlag := false, excRun := 0 }

/-- Longer than the longest cycle that R339 locks to: the reference channel had no signal. -/
def cycleGap (nom len : Nat) : Bool := decide (85 * nom * len > 100000000000)

/-- The cycle lies within ±15 % of F_NOM. -/
def cycleGood (nom len : Nat) : Bool := 85 * nom * len ≤ 100000000000 && 100000000000 ≤ 115 * nom * len

/-- The one-cycle frequency lies within the band. -/
def State.inBand (s : State) (freq : Nat) : Bool :=
  decide (s.mnsNom * 1000 ≤ freq + s.mains.fLow ∧ freq ≤ s.mnsNom * 1000 + s.mains.fHigh)

/-- The frequency-excursion rule of R338 over one more cycle. (DEDUCED, log entry 181.) -/
def State.judgeExc (s : State) (now : Nat) : State :=
  let m := s.mains
  let against := s.inBand m.freq == m.exc.isSome
  let run := if against then m.excRun + 1 else 0
  if run < 3 then s.setMains { m with excRun := run }
  else match m.exc with
    | some _ => s.excEnd 0 now
    | none =>
      let e : MainsEvent := { start := now, chans := 2 ^ s.mnsRef, ext := 0 }
      let s1 := s.setMains { m with exc := some e, excRun := 0, excs := min (m.excs + 1) 0xFFFF }
      (s1.bump Fd.MNS_COUNT_EXCURSIONS).setEvent 22 Fd.MNS_EVENT_FREQ_EXC

/-- The cycle [a, b) joins the 10/12-cycle interval; one that a whole 10 minutes of SYSTIME ends in starts a new interval
at its end (R337). (DEDUCED, log entry 178.) -/
def State.addCycle (s : State) (a b : Nat) : State :=
  let m := s.mains
  if a / 600000000000 ≠ b / 600000000000 then
    s.setMains { m.eachCh (fun x => { x with sumSq := 0, count := 0 }) with tenCyc := 0, tenFlag := m.busy }
  else
    let m1 := foldN (fun (x : Mains) c =>
      let q := x.squares c a b
      x.putCh c { x.ch c with sumSq := (x.ch c).sumSq + q.1, count := (x.ch c).count + q.2 }) m [0, 1, 2, 3]
    s.setMains { m1 with tenCyc := m.tenCyc + 1 }

/-- The cycle joins a calibration that runs (R341): a new group every 10 cycles. (DEDUCED, log entry 182.) -/
def Mains.calCycle (m : Mains) (a b : Nat) : Mains :=
  match m.cal with
  | some k =>
    let q := m.squares k.ch a b
    let gs := match k.groups with
      | g :: l => if k.cycles % 10 = 0 then q :: g :: l else (g.1 + q.1, g.2 + q.2) :: l
      | [] => [q]
    if k.cycles < 50 then { m with cal := some { k with cycles := k.cycles + 1, groups := gs } } else m
  | none => m

/-- A positive-going zero crossing of the reference channel ends a cycle (R337, R339); a gap in its signal is no cycle of the 10 s interval, and
its time is left out of it (DEDUCED, log entry 178). -/
def State.zeroCross (s : State) : State :=
  let now := s.nowNsAll
  match s.mains.rise with
  | none => s.setMains { s.mains with rise := some now }
  | some a =>
    let len := now - a
    let ok := cycleGood s.mnsNom len
    let m := s.mains
    let m1 := { m with rise := some now, cycle := len, good := if ok then m.good + 1 else 0 }
    let s1 := s.setMains (match m.secA with
      | some b => if cycleGap s.mnsNom len then { m1 with secA := some (b + len), secB := now } else { m1 with secB := now, secN := m.secN + 1 }
      | none => { m1 with secA := some now, secB := now, secN := 0 })
    let s2 :=
      if s.mnsLocked then
        (if ok then
          let t := (s1.setMains { s1.mains with freq := quotFree 1000000000000 len }).judgeExc now
          let u := t.addCycle a now
          u.setMains (u.mains.calCycle a now)
         else s1.loseLock now)
      else if m1.good ≥ 4 then
        (s1.put Fd.MNS_STATUS_FREQ_LOCK 1).setMains { s1.mains with marks := [now], freq := quotFree 1000000000000 len }
      else s1
    s2.setMains { s2.mains with samples := s2.mains.samples.filter fun x => decide (a ≤ x.1) }

def execZeroCrossing (dt : Nat) (s : State) : Out := .next (s.advance dt).zeroCross

/-- R337: 10 cycles at 50 Hz or 12 at 60 Hz have ended. -/
def execTenCycleEnd (s : State) : Out :=
  let m := s.mains
  if m.tenCyc ≥ (if s.mnsNom = 60 then 12 else 10) then
    let m1 := foldN (fun (x : Mains) c =>
      let y := x.ch c
      x.putCh c { y with ten := if s.mnsEn c then y.mag y.sumSq y.count else 0, sumSq := 0, count := 0 }) m [0, 1, 2, 3]
    .next (s.setMains { m1 with tenCyc := 0, tenLast := m.tenFlag || m.busy, tenFlag := m.busy })
  else .next s

/-- R337: a 10 s interval ends; a whole-period correction within it discards its value (Races). -/
def execTenSecondEnd (s : State) : Out :=
  let m := s.mains
  let f : Nat :=
    if m.secJump ≠ s.time.jumps then m.freq10
    else match m.secA with
      | some a => if m.secN = 0 then (Config.noCycles s.nowSec).toNat else min (quotFree (m.secN * 1000000000000) (m.secB - a)) 0xFFFFFF
      | none => (Config.noCycles s.nowSec).toNat
  .next (s.setMains { m with freq10 := f, secA := none, secB := 0, secN := 0, secJump := s.time.jumps })

/-! ### Samples (R334, R335) -/

/-- Over-range of each channel, enabled or not (R334). -/
def State.overRange (s : State) (vs : List Int) : State :=
  foldN (fun t c =>
    if (vs.getD c 0).natAbs ≥ 980000 then
      (t.setMains (t.mains.putCh c { t.mains.ch c with overRng := true })).setEvent 22 Fd.MNS_EVENT_OVER_RANGE
    else t) s [0, 1, 2, 3]

/-- R335: a sampling instant. A reference channel without a crossing for longer than the longest cycle has lost lock
(DEDUCED from R339). (DESIGN CHOICE, log entry 174.) -/
def execMainsSample (dt : Nat) (v0 v1 v2 v3 : Int) (s : State) : Out :=
  let s1 := s.advance dt
  let at_ := s1.nowNsAll / 62500 * 62500
  let vs := [v0, v1, v2, v3]
  let s2 := (s1.setMains { s1.mains with samples := ((at_, vs) :: s1.mains.samples).take 1024 }).overRange vs
  let late : Bool := match s2.mains.rise with
    | some a => cycleGap s2.mnsNom (at_ - a)
    | none => false
  .next (if s2.mnsLocked ∧ late then s2.loseLock at_ else s2)

/-! ### The status word (R340) -/

/-- Element 5: the phase at the tick, in 0.01°, in (−18,000, 18,000]. -/
def State.mnsPhase (s : State) : Nat :=
  let m := s.mains
  match m.rise with
  | some a =>
    if s.mnsLocked ∧ m.cycle ≠ 0 then
      let v := quotFree (36000 * (s.time.boundary - a)) m.cycle % 36000
      if v > 18000 then ofSigned 24 ((v : Int) - 36000) else v
    else 0
  | none => 0

/-- Element 6. -/
def State.mnsState (s : State) : Nat :=
  let m := s.mains
  maskIf [0, 1, 2, 3] (fun c => (m.ch c).dip) + 2 ^ 4 * maskIf [0, 1, 2, 3] (fun c => (m.ch c).swell) +
    2 ^ 8 * maskIf [0, 1, 2, 3] (fun c => (m.ch c).int) + 2 ^ 12 * b2n m.dip.isSome + 2 ^ 13 * b2n m.swell.isSome +
    2 ^ 14 * b2n m.int.isSome + 2 ^ 15 * b2n m.exc.isSome

/-- The polyphase event that elements 7 and 8 describe: an interruption before a dip; a swell or an excursion where
neither is in progress (DEDUCED, log entry 183). -/
def Mains.shownEvent (m : Mains) : Option MainsEvent :=
  if m.int.isSome then m.int else if m.dip.isSome then m.dip else if m.swell.isSome then m.swell else m.exc

/-- The 16 elements at the tick. (DEDUCED, log entry 183.) -/
def State.mnsWord (s : State) : List Nat :=
  let m := s.mains
  let on (c : Nat) (v : Nat) : Nat := if s.mnsEn c then v else 0
  let half := [0, 1, 2, 3].map fun c => on c (m.ch c).half
  let ten := [0, 1, 2, 3].map fun c => on c (m.ch c).ten
  let ev := m.shownEvent
  let age := match ev with
    | some e => min ((s.time.boundary - e.start) / periodNs s.period) 0xFFFFFF
    | none => 0
  let flags := maskIf [0, 1, 2, 3] (fun c => (m.ch c).overRng) + 2 ^ 4 * s.get Fd.MNS_CTRL_EN + 2 ^ 8 * b2n s.mnsLocked +
    2 ^ 9 * s.get Fd.TIM_STATUS_TIME_ESTIMATED + 2 ^ 10 * b2n (s.get Fd.TIM_STATUS_STATE == 3) + 2 ^ 11 * b2n m.cal.isSome +
    2 ^ 12 * b2n m.tenLast
  half ++ [if s.mnsLocked then m.freq else 0, s.mnsPhase, s.mnsState, (ev.map (·.ext)).getD 0, age, flags] ++ ten ++
    [m.freq10, s.frame % 2 ^ 24]

/-- A word is committed: the graph of the frame reads it (R18). -/
def State.commitWord (s : State) (w : List Nat) : State :=
  let t := s.setMains { s.mains with word := w }
  (t.put (Fd.MNS_WORD_ELEMENT 0) (w.getD 0 0)).put Fd.MNS_STATUS_STATE (w.getD 6 0 % 2 ^ 12)

/-- At the tick the word is committed; `late`: a sample's processing is delayed past the tick, the word of the frame before stays (R340,
R18), and the late word is committed at the following tick (Races of 01). What is committed there is the late word; the frame's own is
passed over, and its over-range flags stand in the next word (DESIGN CHOICE, log entry 266). Trims that wait take effect (R341). -/
def State.mainsTick (s : State) (late : Bool) : State :=
  let s0 := s.setMains (s.mains.eachCh fun x => match x.nextPpm with
    | some v => { x with ppm := v, nextPpm := none }
    | none => x)
  let w := s0.mnsWord
  let s1 := match s0.mains.late with
    | some v => s0.commitWord v
    | none => if late then s0 else s0.commitWord w
  let s2 := if late then (s1.bump Fd.MNS_LATE_COUNT).setEvent 22 Fd.MNS_EVENT_LATE_WORD else s1
  let m := if late ∨ s0.mains.late.isNone then s2.mains.eachCh fun x => { x with overRng := false } else s2.mains
  s2.setMains { m with late := if late then some w else none }

/-! ### Register reads (R342) -/

/-- A read of MNS_WORD0 latches elements 1 to 15 of the same word. -/
def execMnsWordLatchRead (port : Side) (s : State) : Out :=
  let w := s.mains.word
  .next (s.hostReadVia port .manager
    ((foldN (fun t e => t.put (Fd.MNS_WORD_ELEMENT e) (w.getD e 0)) s ((List.range 15).map (· + 1))).answer (w.getD 0 0)))

/-- A read of MNS_EVT_INFO latches the stamp and the duration of the same event. -/
def execMnsEvtLatchRead (port : Side) (s : State) : Out :=
  let l := s.mains.last
  .next (s.hostReadVia port .manager
    ((((s.put Fd.MNS_EVT_SEC_SEC l.sec).put Fd.MNS_EVT_NS_NS l.ns).put Fd.MNS_EVT_DUR_DUR l.dur).answer l.info))

/-! ### Commands (R343) -/

/-- A calibration that a MAINS_CONFIGURE ends: FAULT with DETAIL 3. -/
def State.endCal (s : State) (status detail : Nat) (resp : List Byte) : State :=
  match s.mains.cal with
  | some k =>
    let s1 := (s.setMains { s.mains with cal := none }).put Fd.MNS_STATUS_CAL 0
    match s1.findCmd k.cmd with
    | some c => s1.finish c status detail resp
    | none => s1
  | none => s

def Cmd.udin (c : Cmd) (n : Nat) : Nat := c.u (4 + 4 * n) 2
def Cmd.fsv (c : Cmd) (n : Nat) : Nat := c.u (6 + 4 * n) 2

/-- The settings of MAINS_CONFIGURE take effect: every event ends, windows and lock begin again (Races). -/
def State.mainsSet (s : State) (c : Cmd) : State :=
  let now := s.nowNsAll
  let s1 := (((s.mnsEndAll 1 now).excEnd 1 now).endCal ST.fault 3 []).loseLock now
  let m := foldN (fun (x : Mains) n => x.putCh n { x.ch n with
    udin := c.udin n, fsv := c.fsv n, half := 0, ten := 0, sumSq := 0, count := 0 }) s1.mains [0, 1, 2, 3]
  let s2 := s1.setMains { m with
    wiring := c.u 0 1, samples := [], rise := none, cycle := 0, tenFlag := false, tenLast := false, secA := none, secB := 0, secN := 0 }
  (((s2.put Fd.MNS_CTRL_EN (c.u 3 1)).put Fd.MNS_CTRL_REF_CH (c.u 2 1)).put Fd.MNS_CTRL_F_NOM (c.u 1 1)).put
    Fd.MNS_STATUS_WIRING (c.u 0 1)

/-- (DESIGN CHOICE, log entry 255.) -/
def execMainsConfigure (id : Nat) (s : State) : Out :=
  .next (s.run id 0x0600 fun c =>
    let en (n : Nat) : Bool := bitAt (c.u 3 1) n
    let on := [0, 1, 2, 3].filter en
    s.judged c
      [(decide (c.u 0 1 > 3 ∨ c.u 1 1 > 1 ∨ c.u 2 1 > 3 ∨ c.u 3 1 > 15) ||
          (on.any fun n => decide (c.udin n < 100 ∨ c.udin n > 10000)), ST.invalid, 0),
       (on.any fun n => decide (c.fsv n * c.fsv n < 8 * (c.udin n * c.udin n)), ST.invalid, 1),
       (!en (c.u 2 1), ST.invalid, 2),
       (match c.u 0 1 with
        | 0 => !en 0
        | 3 => false
        | _ => !(en 0 && en 1 && en 2), ST.invalid, 3)]
      ((s.mainsSet c).okay c []))

def execMainsGetStatus (id : Nat) (s : State) : Out :=
  .next (s.run id 0x0601 fun c =>
    let m := s.mains
    s.okay c (m.word.flatMap (leBytes 3) ++ leBytes 4 m.last.info ++ leBytes 4 m.last.sec ++ leBytes 4 m.last.ns ++
      leBytes 4 m.last.dur ++ zeros 4 ++ leBytes 2 m.dips ++ leBytes 2 m.swells ++ leBytes 2 m.ints ++ leBytes 2 m.excs))

def execMainsSetThresholds (id : Nat) (s : State) : Out :=
  .next (s.run id 0x0602 fun c =>
    let (d, w, i, h) := (c.u 0 2, c.u 2 2, c.u 4 2, c.u 6 2)
    s.judged c
      [(decide (d < 5000 ∨ d > 9900 ∨ w < 10100 ∨ w > 20000 ∨ i < 100 ∨ i > 1000 ∨ h < 10 ∨ h > 500 ∨ c.u 8 2 < 100 ∨
          c.u 8 2 > 5000 ∨ c.u 10 2 < 100 ∨ c.u 10 2 > 5000), ST.invalid, 0),
       (decide (i + h ≥ d ∨ d + h + h ≥ w), ST.invalid, 1)]
      ((s.setMains { s.mains with
          dipAt := d, swellAt := w, intAt := i, hyst := h, fLow := c.u 8 2, fHigh := c.u 10 2 }).okay c []))

def execMainsCalibrate (id : Nat) (s : State) : Out :=
  .next (s.run id 0x0603 fun c =>
    let n := c.u 0 1
    let v := c.u 2 2
    let u := (s.mains.ch n).udin
    let m := s.mains
    s.judged c
      [(decide (n > 3) || (s.mnsEn n && decide (2 * v < u ∨ 5 * v > 6 * u)), ST.invalid, 0),
       (!s.mnsEn n || !s.mnsLocked, ST.denied, 1), (m.busy || m.exc.isSome, ST.denied, 2)]
      (let k : MainsCal := { cmd := c.id, ch := n, vref := v, cycles := 0, groups := [] }
       ((s.setMains { m with cal := some k }).put Fd.MNS_STATUS_CAL 1).goPending c s.frame))

/-- R341: 50 cycles have been measured. The trim is V_REF over the measured rms; the 10-cycle values must lie within
0.2 % of UDIN of each other. -/
def execCalibrationComplete (s : State) : Out :=
  match s.mains.cal with
  | some k =>
    if k.cycles < 50 then .next s
    else
      let x := { s.mains.ch k.ch with ppm := 0 }
      let all := k.groups.foldl (fun r g => (r.1 + g.1, r.2 + g.2)) (0, 0)
      let vals : List Nat := k.groups.map fun g => x.mag g.1 g.2
      let spread : Nat := vals.foldl max 0 - vals.foldl min 0xFFFFFF
      -- V_REF ÷ rms in millionths: rms = √(mean square) µV × FS_V ÷ 10^6
      let ratio : Nat := if all.1 = 0 then 0xFFFFFFFF else
        rootFree (k.vref * k.vref * 10 ^ 24 * all.2) (all.1 * (x.fsv * x.fsv))
      let trim : Int := (ratio : Int) - 1000000
      if trim.natAbs > 50000 then .next (s.endCal ST.fault 1 [])
      else if spread > 20 then .next (s.endCal ST.fault 2 [])
      else
        let s1 := s.setMains (s.mains.putCh k.ch { s.mains.ch k.ch with nextPpm := some trim })
        .next (s1.endCal ST.ok 0 (leBytes 4 (ofSigned 32 trim)))
  | none => .next s

end Sys2Proof.Machine
end

