-- ==== Sys2Proof/Machine/PowerOps.lean ====
section
/-! DEFINITION. Shared operations of port power (12_port_power.md, R309 to R333): events, messages, roles, contracts, swaps,
protection and hard reset. STATE codes as R322 numbers them. -/

namespace Sys2Proof.Machine

def State.pp (s : State) (p : Nat) : PortPow := SMap.get PortPow.reset s.power.tab p

def State.editPp (s : State) (p : Nat) (f : PortPow → PortPow) : State :=
  { s with power := { s.power with tab := SMap.put PortPow.reset p (f (s.pp p)) s.power.tab } }

def State.pState (s : State) (p : Nat) : Nat := s.get (Fd.PPW_P_STATUS_STATE p)
def State.setPState (s : State) (p n : Nat) : State := s.put (Fd.PPW_P_STATUS_STATE p) n
def State.isSource (s : State) (p : Nat) : Bool := s.on (Fd.PPW_P_STATUS_PROLE p)
def State.roleCap (s : State) (p : Nat) : Nat := s.get (Fd.PPW_P_CFG_ROLE_CAP p)

/-- PPW_STATUS.SOURCING and SINKING follow the gates and the role. -/
def State.showGates (s : State) (p : Nat) : State :=
  let g := (s.pp p).gates
  (s.putBit Reg.PPW_STATUS p (g && s.isSource p)).putBit Reg.PPW_STATUS (16 + p) (g && !s.isSource p)

/-- An event of the port: set now, or held until the logic die runs again (R331). `bit`: its place in PPW_Pp_EVENT. -/
def State.powEvent (s : State) (p bit : Nat) : State :=
  if s.dieRuns then s.setEvent 21 ⟨Reg.PPW_P_EVENT p, bit, bit⟩
  else s.editPp p fun x => { x with held := x.held ||| 2 ^ bit }

/-- Finish the port-power commands with opcode `op` that wait on the port. -/
def State.endPow (s : State) (p op status detail : Nat) : State :=
  let one (t : State) (id : Nat) : State := match t.findCmd id with
    | some c => if c.opcode = op then (t.finish c status detail []).editPp p fun x => { x with cmds := x.cmds.filter (· != id) } else t
    | none => t
  foldN one s (s.pp p).cmds

/-! ### Messages (R314 to R318) -/

/-- HEADER (R315), with REV 1. -/
def SnsMsg.header (m : SnsMsg) : Nat :=
  m.typ * 2 ^ 12 + m.id % 8 * 2 ^ 9 + m.objs.length * 2 ^ 6 + b2n m.prole * 2 ^ 5 + b2n m.drole * 2 ^ 4 + 4

/-- The bytes that CHECK covers: HEADER and the objects, little-endian (R314). -/
def snsBody (hdr : Nat) (objs : List Nat) : List Byte := leBytes 2 hdr ++ objs.flatMap (leBytes 4)

/-- The bytes on the line, each sent least significant bit first: preamble, SYNC, HEADER, objects and CHECK; a hard reset ends after its
SYNC (R314). -/
def SnsMsg.line (m : SnsMsg) : List Byte :=
  if m.typ = 16 then leBytes 5 0x3CAAAAAAAA
  else leBytes 5 0xA7AAAAAAAA ++ snsBody m.header m.objs ++ leBytes 4 (crc32c (snsBody m.header m.objs))

/-- The half-cells of a line, Manchester-coded: high then low for 0, low then high for 1, and at the end one half-cell low (R314). -/
def SnsMsg.cells (m : SnsMsg) : List Bool :=
  (m.line.flatMap fun b => (List.range 8).flatMap fun k => [!(b.getLsbD k), b.getLsbD k]) ++ [false]

/-- A received message is good: its CHECK holds and COUNT is the number of its objects (R314, R315). -/
def snsGood (hdr : SnsHead) (objs : List Nat) : Bool :=
  hdr.check == crc32c (snsBody hdr.bits objs) && hdr.bits / 2 ^ 6 % 8 == objs.length

/-- TYPE and MSG_ID of a received HEADER. -/
def snsType (hdr : SnsHead) : Nat := hdr.bits / 2 ^ 12 % 16
def snsId (hdr : SnsHead) : Nat := hdr.bits / 2 ^ 9 % 8

/-- Put a message on the line, awaiting GOOD_RX; nothing goes out while the SNS driver is disconnected (R324). -/
def State.transmit (s : State) (p typ : Nat) (objs : List Nat) : State :=
  let m : SnsMsg := { typ := typ, id := (s.pp p).txId, prole := s.isSource p, drole := !s.isDm p, objs := objs }
  if (s.pp p).cut then s
  else s.editPp p fun x => { x with tx := some m, tries := 0, backoff := false, sent := x.sent ++ [m] }

/-- Send a message, after the one that still awaits its GOOD_RX; nothing goes out while the SNS driver is disconnected (R324). While the
logic die does not run the power die sends nothing of its own but GOOD_RX and WAIT (R331): the message waits for the die. -/
def State.sendMsg (s : State) (p typ : Nat) (objs : List Nat) : State :=
  if (s.pp p).cut then s
  else if (s.pp p).tx.isSome ∨ ¬ s.dieRuns then s.editPp p fun x => { x with waiting := x.waiting ++ [(typ, objs)] }
  else s.transmit p typ objs

/-- The power die answers WAIT while the logic die does not run (R331): before whatever message waits for the die. -/
def State.dieWait (s : State) (p : Nat) : State :=
  match (s.pp p).tx with
  | none => s.transmit p 3 []
  | some m =>
    if m.typ = 3 then s.editPp p fun x => { x with waiting := (3, []) :: x.waiting }
    else (s.editPp p fun x => { x with waiting := (m.typ, m.objs) :: x.waiting }).transmit p 3 []

/-- The power die sends a message of this TYPE: any while the logic die runs, else WAIT alone (R331). -/
def State.maySend (s : State) (typ : Nat) : Bool := s.dieRuns || typ == 3

/-- GOOD_RX to a message, sent at once (R318). -/
def State.goodRx (s : State) (p id : Nat) : State :=
  let m : SnsMsg := { typ := 0, id := id, prole := s.isSource p, drole := !s.isDm p, objs := [] }
  if (s.pp p).cut then s else s.editPp p fun x => { x with sent := x.sent ++ [m] }

/-- The message layer starts again (R316). -/
def PortPow.msgReset (x : PortPow) : PortPow :=
  { x with txId := 0, rxId := none, tx := none, tries := 0, backoff := false, waiting := [], negLeft := 0 }

/-- A PDO as it is sent (R317): VOLT and CURRENT of the policy, DRP while the port is dual-role, the rest 0. -/
def State.pdoOut (s : State) (p o : Nat) : Nat := o / 2 ^ 20 * 2 ^ 20 + b2n (s.roleCap p == 2) * 2 ^ 19

def State.sendCaps (s : State) (p : Nat) : State :=
  (s.sendMsg p 10 ((s.pp p).srcPdos.map (s.pdoOut p))).editPp p fun x =>
    { x with capsSent := x.capsSent + 1, capsOpen := x.capsOpen + 1, capsDue := false }

/-! ### Roles and default power (R312, R320) -/

/-- Termination of an unattached port: Rp for a source, Rd for a sink; a dual-role port begins with Rp (DEDUCED, log entry 134). -/
def capTerm (cap : Nat) : SnsTerm := if cap = 1 then .rd else .rp

/-- Contract values and registers of a port without a contract: default power, 12 V 0.5 A. -/
def State.noContract (s : State) (p : Nat) : State :=
  let s1 := (((s.put (Fd.PPW_P_STATUS_CONTRACT p) 50).put (Fd.PPW_P_STATUS_VOLT p) 0).put (Fd.PPW_P_STATUS_FRS_RELY p) 0).put
    (Fd.PPW_P_STATUS_FRS_ARMED p) 0
  s1.editPp p fun x => { x with frs := 0, request := 0, again := none, dropped := false }

/-- Gates off; VP is discharged. -/
def State.gatesOff (s : State) (p : Nat) : State :=
  (s.editPp p fun x => { x with gates := false, dis := true, vsel := 3, ramp := false }).showGates p

/-- Take the source's side at default power: VP ramps to it (R320). -/
def State.beSource (s : State) (p : Nat) : State :=
  let s1 := (s.put (Fd.PPW_P_STATUS_PROLE p) 1).editPp p fun x =>
    { x with term := .rp, vsel := 0, gates := true, dis := false, ramp := true, capsSent := 0, capsOpen := 0, capsDue := false }
  ((s1.noContract p).setPState p 3).showGates p

/-- Take the sink's side at default power. The board supply stays off (R309). -/
def State.beSink (s : State) (p : Nat) : State :=
  let s1 := (s.put (Fd.PPW_P_STATUS_PROLE p) 0).editPp p fun x => { x with term := .rd, vsel := 3, gates := true, dis := false, ramp := false }
  ((s1.noContract p).setPState p 7).showGates p

/-- The port forgets its partner: no contract, no exchange, no swap. -/
def State.unpartner (s : State) (p : Nat) : State :=
  let s1 := (s.put (Fd.PPW_P_STATUS_CONTRACT p) 0).put (Fd.PPW_P_STATUS_VOLT p) 0
  let s2 := (s1.put (Fd.PPW_P_STATUS_FRS_RELY p) 0).put (Fd.PPW_P_STATUS_FRS_ARMED p) 0
  s2.editPp p fun x =>
    { x.msgReset with attached := false, caps := [], capsSent := 0, capsOpen := 0, partnerDrp := false, request := 0, again := none, frs := 0
                      swap := .none, fast := false, frsSig := false, frsVp := false, frsAck := false, softDue := false
                      dropped := false, capsDue := false, swapDue := false }

/-- The port enters UNATTACHED with the termination of its role (R322); an SNS driver that a trip disconnected is connected again (R324).
(DEDUCED, log entry 134.) (DESIGN CHOICE, log entry 269.) -/
def State.unattached (s : State) (p : Nat) : State :=
  (s.setPState p 1).editPp p fun x => { x with term := capTerm (s.roleCap p), cut := false }

/-- The link loses its cable power. Where a sink had been reported on SNS that is a removal at once, in DETECT too; where none had, only a
link beyond DETECT has anything to remove (R110, R312). -/
def State.sinkLost (s : State) (p : Nat) (sink : Bool) : State :=
  match s.linkState p with
  | 0 => s
  | 1 => if sink then s.removal p else s.detached p
  | _ => s.removal p

/-- State OFF: gates off, SNS open (R322). -/
def State.powerOff (s : State) (p : Nat) : State :=
  let s0 := (s.endPow p 0x0502 ST.denied 3).endPow p 0x0503 ST.denied 4
  let s1 := ((s0.gatesOff p).unpartner p).setPState p 0
  (s1.editPp p fun x => { x with term := .openLine, cut := false, lowAt := none }).sinkLost p (s.pp p).attached

/-- The port detaches (R312). -/
def State.detachPort (s : State) (p : Nat) : State :=
  let s1 := (s.endPow p 0x0502 ST.denied 3).endPow p 0x0503 ST.denied 4
  let s2 := (s1.gatesOff p).unpartner p
  let s3 := if s.pState p = 14 ∨ s.pState p = 15 then s2 else s2.unattached p
  (s3.powEvent p 1).sinkLost p true

/-! ### Contracts (R317, R321) -/

def pdoVolt (o : Nat) : Nat := o / 2 ^ 30
def pdoCurrent (o : Nat) : Nat := (o / 2 ^ 20) % 1024
def reqPos (o : Nat) : Nat := o / 2 ^ 29
def reqMax (o : Nat) : Nat := (o / 2 ^ 9) % 1024
def reqFrs (o : Nat) : Nat := o % 512

/-- A request object for PDO number `pos` (from 1) at `cur` (10 mA), but no more than that PDO's CURRENT, with the FRS_CURRENT offered. -/
def State.requestObj (s : State) (p pos cur0 : Nat) : Nat :=
  let cur := match (s.pp p).caps[pos - 1]? with
    | some o => min cur0 (pdoCurrent o)
    | none => cur0
  let frs := if s.on (Fd.PPW_P_CFG_FRS_OFFER p) then (s.pp p).frsOffer % 512 else 0
  pos * 2 ^ 29 + cur * 2 ^ 19 + cur * 2 ^ 9 + frs

/-- The choice of R321: the highest voltage among the source's PDOs that one of the sink PDOs has, at the smaller current;
otherwise POS 1 at no more than 0.5 A. -/
def State.choosePdo (s : State) (p : Nat) : Nat × Nat :=
  let x := s.pp p
  let best := (List.range x.caps.length).foldl (fun (b : Option (Nat × Nat × Nat)) i =>
    let o := x.caps.getD i 0
    match x.snkPdos.find? (fun k => pdoVolt k == pdoVolt o) with
    | some k =>
      (match b with
      | some (v, _, _) => if pdoVolt o > v then some (pdoVolt o, i + 1, min (pdoCurrent o) (pdoCurrent k)) else b
      | none => some (pdoVolt o, i + 1, min (pdoCurrent o) (pdoCurrent k)))
    | none => b) none
  match best with
  | some (_, pos, cur) => (pos, cur)
  | none => (1, min (pdoCurrent (x.caps.getD 0 0)) 50)

/-- The sink sends REQUEST (R321, R322). -/
def State.sendRequest (s : State) (p obj : Nat) : State :=
  let st := s.pState p
  let s1 := (s.sendMsg p 12 [obj]).editPp p fun x => { x with request := obj, prior := if st = 8 then x.prior else st }
  s1.setPState p 8

/-- The port enters state `st`; each entry into SRC_CONTRACT or SNK_CONTRACT raises CONTRACT, and completes the requests for one (R322,
R333). -/
def State.enterPState (s : State) (p st : Nat) : State :=
  let s1 := s.setPState p st
  if st = 6 ∨ st = 10 then (s1.powEvent p 2).endPow p 0x0502 ST.ok 0 else s1

/-- A refused negotiation returns to the state before it (R322). -/
def State.backToPrior (s : State) (p : Nat) : State :=
  if s.pState p = 4 ∨ s.pState p = 8 then (s.editPp p fun x => { x with negLeft := 0 }).enterPState p (s.pp p).prior else s

/-- The voltage of the contract that `obj` asks for: of the source's own PDOs, or of the partner's caps. -/
def State.reqVolt (s : State) (p obj : Nat) : Nat :=
  let l := if s.isSource p then (s.pp p).srcPdos else (s.pp p).caps
  pdoVolt (l.getD (reqPos obj - 1) 0)

/-- A contract is complete: its registers, fast-swap standby, CONTRACT, and the commands that wait for it (R322, R327). -/
def State.makeContract (s : State) (p st : Nat) : State :=
  let o := (s.pp p).request
  let s1 := (s.put (Fd.PPW_P_STATUS_CONTRACT p) (reqMax o)).put (Fd.PPW_P_STATUS_VOLT p) (s.pp p).accVolt
  let armed := b2n (decide (reqFrs o ≠ 0))
  let s2 := if st = 6 then (s1.put (Fd.PPW_P_STATUS_FRS_RELY p) armed).put (Fd.PPW_P_STATUS_FRS_ARMED p) 0
    else (s1.put (Fd.PPW_P_STATUS_FRS_ARMED p) armed).put (Fd.PPW_P_STATUS_FRS_RELY p) 0
  let s3 := s2.editPp p fun x => { x with frs := reqFrs o, swap := .none, fast := false, dropped := false }
  s3.enterPState p st

/-- ACCEPT suits the PDO at POS (R321). -/
def State.acceptable (s : State) (p obj : Nat) : Bool :=
  let l := (s.pp p).srcPdos
  decide (1 ≤ reqPos obj ∧ reqPos obj ≤ l.length) && decide (reqMax obj ≤ pdoCurrent (l.getD (reqPos obj - 1) 0))

/-! ### Swaps (R325 to R328) -/

/-- The port is negotiating or swapping (R325). -/
def State.busyNeg (s : State) (p : Nat) : Bool :=
  let st := s.pState p
  st == 4 || st == 5 || st == 8 || st == 9 || st == 11 || st == 12

/-- Both ends hold a contract and both declared DRP, the partner in PDOs that this port has seen (R325). -/
def State.maySwap (s : State) (p : Nat) : Bool :=
  let x := s.pp p
  (s.pState p == 6 || s.pState p == 10) && s.roleCap p == 2 && x.partnerDrp

/-- PR_SWAP has been accepted: ROLE_SWAP begins (R326). The old source turns its gates off, presents Rd and sends PS_READY. -/
def State.beginSwap (s : State) (p : Nat) : State :=
  let src := s.isSource p
  let s1 := (s.setPState p 11).editPp p fun x =>
    { x with wasSource := src, fast := false, swap := if src then .oldSource else .waitOld }
  if src then
    let s2 := s1.editPp p fun x => { x with vsel := 3, gates := false, term := .rd }
    (s2.showGates p).sendMsg p 4 []
  else s1

/-- The new source conducts: Rp, the contract voltage, gates on (R326, R328). It is no armed sink any more (R327). -/
def State.turnOn (s : State) (p : Nat) : State :=
  let s1 := ((s.put (Fd.PPW_P_STATUS_PROLE p) 1).put (Fd.PPW_P_STATUS_FRS_ARMED p) 0).editPp p fun x =>
    { x with term := .rp, vsel := s.get (Fd.PPW_P_STATUS_VOLT p), gates := true, swap := .turnOn }
  s1.showGates p

/-- A swap is over, and with it the masks of R324 begin to run out. -/
def State.swapOver (s : State) (p : Nat) : State := s.editPp p fun x => { x with calm := some s.time.cyc, swapAt := some s.time.cyc }

/-- A swap has ended for this port: counted, its event raised, PWR_ROLE_SWAP completes. -/
def State.swapDone (s : State) (p bit : Nat) : State :=
  ((s.bump (Fd.PPW_P_COUNT_SWAPS p)).powEvent p bit).endPow p 0x0503 ST.ok 0

/-! ### Hard reset (R330) -/

/-- A hard reset, sent or received: every exchange is abandoned, the roles of a swap revert, the source discharges VP. A port
in FAULT stays there; one hard reset while another discharges is the same (Races). -/
def State.hardReset (s : State) (p : Nat) : State :=
  if s.pState p = 13 then s
  else
    let x := s.pp p
    let swapping := s.pState p = 11 ∨ s.pState p = 12
    let src := if swapping then x.wasSource else s.isSource p
    let s0 := if swapping then s.swapOver p else s
    let s1 := ((s0.bump (Fd.PPW_P_COUNT_HARD_RESETS p)).powEvent p 5).endPow p 0x0503 ST.fault 5
    let s2 := (s1.editPp p fun y => { y.msgReset with
      swap := .none, fast := false, frsSig := false, frsVp := false, frsAck := false, capsDue := false, swapDue := false }).noContract p
    if s.pState p = 14 ∨ s.pState p = 15 ∨ ¬ x.attached then s2
    else
      let s3 := (s2.put (Fd.PPW_P_STATUS_PROLE p) (b2n src)).setPState p 13
      if src then (s3.editPp p fun y => { y with term := .rp }).gatesOff p
      else (s3.editPp p fun y => { y with term := .rd, vsel := 3, gates := false }).showGates p

/-- The hard-reset signal is sent (R314) and acted on. -/
def State.sendHardReset (s : State) (p : Nat) : State :=
  let m : SnsMsg := { typ := 16, id := 0, prole := s.isSource p, drole := !s.isDm p, objs := [] }
  (s.editPp p fun x => { x with sent := x.sent ++ [m] }).hardReset p

/-- Cable power below 5 V for longer than 200 ms is a removal (R330). -/
def twoTenths : Nat := 80000000

def State.lowRemoval (s : State) (p : Nat) : State :=
  match (s.pp p).lowAt with
  | some t =>
    if t + twoTenths < s.time.cyc then (s.editPp p fun x => { x with lowAt := none }).sinkLost p (s.pp p).attached else s
  | none => s

/-- VP is in a window again. -/
def State.vpBack (s : State) (p : Nat) : State := (s.lowRemoval p).editPp p fun x => { x with lowAt := none }

/-- VP has fallen below 5 V: PPp_DIS closes, a hard reset ends in default power for this end (R330), and PWR_PORT_OFF may
complete. -/
def State.discharged (s : State) (p : Nat) : State :=
  let s1 := s.editPp p fun x => { x with dis := false, offDone := s.pState p == 0, lowAt := some (x.lowAt.getD s.time.cyc) }
  if s.pState p = 13 then
    if s1.isSource p then s1.beSource p else s1.beSink p
  else s1

/-! ### Protection (R324) -/

/-- ALERT object of a trip (R316). -/
def alertObj (cause : Nat) : Nat := match cause with
  | 1 => 1
  | 2 => 1
  | 3 => 8
  | 4 => 2
  | 5 => 2
  | 6 => 4
  | _ => 0

/-- A trip is masked in the present state (R324): under-voltage of a source during ramps and swaps and for 20 ms after them, reverse current
during a swap and for 5 ms after it. -/
def State.tripMasked (s : State) (p cause : Nat) : Bool :=
  let st := s.pState p
  let within (n : Nat) : Bool := ((s.pp p).calm.map fun t => decide (s.time.cyc < t + n)).getD false
  (cause == 3 && (!s.isSource p || (s.pp p).ramp || st == 5 || st == 11 || st == 12 || within 8000000)) ||
  (cause == 6 && (st == 11 || st == 12 || ((s.pp p).swapAt.map fun t => decide (s.time.cyc < t + 2000000)).getD false))

/-- 60 s in core cycles. -/
def sixty : Nat := 24000000000

/-- SNS is shorted: its driver disconnects, and every exchange and swap is over, without a contract. -/
def State.cutOff (s : State) (p : Nat) : State :=
  (s.editPp p fun y => { y.msgReset with
    swap := .none, fast := false, frsSig := false, frsVp := false, frsAck := false, capsDue := false, swapDue := false
    cut := true }).noContract p

/-- A protection trips: gates off, discharge, ALERT and a hard reset if SNS is usable, FAULT or FAULT_LATCHED, a Cairn
record (R322, R324), which waits for the logic die where that does not run (DESIGN CHOICE, log entry 270). -/
def State.trip (s : State) (p cause : Nat) : State :=
  let x := s.pp p
  let near := match x.faultAt with
    | some t => decide (s.time.cyc < t + sixty)
    | none => false
  let run := if near then x.faultRun + 1 else 1
  let latch := decide (run ≥ s.get (Fd.PPW_P_LIMITS_FAULT_RETRIES p) + 1)
  let alert : SnsMsg := { typ := 13, id := x.txId, prole := s.isSource p, drole := !s.isDm p, objs := [alertObj cause] }
  let s1 := s.gatesOff p
  let s2 := (s1.setPState p 14).editPp p fun y =>
    { y with faultRun := run, faultAt := some s.time.cyc, sent := if cause = 7 then y.sent else y.sent ++ [alert] }
  let s3 := if cause = 7 then (s2.endPow p 0x0503 ST.fault 5).cutOff p else s2.sendHardReset p
  let s4 := (((s3.put (Fd.PPW_P_FAULT_CAUSE p) cause).put (Fd.PPW_P_FAULT_FRAME_FRAME p) s.frame).bump
    (Fd.PPW_P_COUNT_FAULTS p)).powEvent p 6
  let s5 := if s4.dieRuns then s4.raiseCairn 6 1 (p * 2 ^ 8 + cause) else s4.editPp p fun y => { y with trips := y.trips ++ [p * 2 ^ 8 + cause] }
  if latch then (s5.setPState p 15).powEvent p 7 else s5

/-- The request is accepted: the fast-swap standby of R327 follows its FRS_CURRENT. (DEDUCED, log entry 139.) -/
def State.armFrs (s : State) (p obj : Nat) : State :=
  let on := b2n (decide (reqFrs obj ≠ 0))
  let s1 := s.editPp p fun x => { x with frs := reqFrs obj }
  if s.isSource p then s1.put (Fd.PPW_P_STATUS_FRS_RELY p) on else s1.put (Fd.PPW_P_STATUS_FRS_ARMED p) on

/-- The answer to REQUEST, of TYPE `typ`, has started: ACCEPT sets VSEL and enters SRC_TRANSITION, any other returns to the prior state
(R321, R322). -/
def State.reqAnswered (s : State) (p typ : Nat) : State :=
  if s.pState p ≠ 4 then s
  else if typ = 1 then
    let o := (s.pp p).request
    let v := s.reqVolt p o
    ((s.editPp p fun x => { x with vsel := v, accVolt := v, negLeft := 0 }).armFrs p o).setPState p 5
  else s.backToPrior p

/-- The next waiting message starts, if the power die may send it (R331). -/
def State.sendNext (s : State) (p : Nat) : State :=
  match (s.pp p).tx, (s.pp p).waiting with
  | none, (t, objs) :: rest =>
    if s.maySend t then
      let n := (s.pp p).negLeft
      let s1 := (s.editPp p fun x => { x with waiting := rest, negLeft := x.negLeft - 1 }).transmit p t objs
      if n = 1 then s1.reqAnswered p t else s1
    else s
  | _, _ => s

/-- Events of the time without the logic die are set at the first tick at which it runs (R331), and a negotiation that was
under way is followed by SOFT_RESET (Races). -/
def State.flushPow (s : State) (p : Nat) : State :=
  let h := (s.pp p).held
  let s0 := (s.pp p).trips.foldl (fun t a => t.raiseCairn 6 1 a) s
  let s1 := s0.editPp p fun x => { x with held := 0, trips := [] }
  let s2 := foldN (fun t b => if bitAt h b then t.setEvent 21 ⟨Reg.PPW_P_EVENT p, b, b⟩ else t) s1 (List.range 9)
  if (s2.pp p).softDue then ((s2.editPp p fun x => { x.msgReset with softDue := false }).backToPrior p).transmit p 8 []
  else s2.sendNext p

/-- The logic die stops: the negotiations under way are noted (Races). -/
def State.notePow (s : State) : State :=
  foldN (fun t p => if t.busyNeg p then t.editPp p fun x => { x with softDue := true } else t) s s.portList

/-- New source PDOs go out as SRC_CAPS, once no negotiation is under way; where they drop the PDO in use, tREQUEST runs (R333, Races). -/
def State.newCaps (s : State) (p : Nat) : State :=
  let st := s.pState p
  let inUse := s.get (Fd.PPW_P_STATUS_VOLT p)
  let cur := s.get (Fd.PPW_P_STATUS_CONTRACT p)
  let gone := st = 6 ∧ ¬ (s.pp p).srcPdos.any fun o => pdoVolt o == inUse && decide (cur ≤ pdoCurrent o)
  (s.sendCaps p).editPp p fun y => { y with dropped := gone }

/-- The contract that a negotiation under way would replace stands until it ends (R322). -/
def State.holdsContract (s : State) (p : Nat) : Bool :=
  let st := s.pState p
  let old := (s.pp p).prior
  st == 6 || st == 10 || st == 11 || ((st == 4 || st == 5 || st == 8 || st == 9) && (old == 6 || old == 10))

/-- PR_SWAP for PWR_ROLE_SWAP (R325, R333): DENIED without a contract, or where the partner has not declared DRP (DESIGN CHOICE, log entry
138); a negotiation or a swap under way ends first. -/
def State.askSwap (s : State) (p : Nat) : State :=
  let st := s.pState p
  if ¬ s.holdsContract p then (s.editPp p fun x => { x with swapDue := false }).endPow p 0x0503 ST.denied 4
  else if ¬ (s.pp p).partnerDrp then (s.editPp p fun x => { x with swapDue := false }).endPow p 0x0503 ST.denied 1
  else if st = 6 ∨ st = 10 then (s.sendMsg p 7 []).editPp p fun x => { x with swap := .asked, swapDue := false }
  else s.editPp p fun x => { x with swapDue := st != 11 }

/-- What waited for the end of a negotiation is done at the tick. -/
def State.owedPow (s : State) (p : Nat) : State :=
  let st := s.pState p
  let s1 := if (s.pp p).capsDue ∧ s.isSource p ∧ (st = 3 ∨ st = 6) then s.newCaps p else s
  if (s1.pp p).swapDue ∧ ¬ s1.busyNeg p then s1.askSwap p else s1

/-- At a tick: the first after a cold reset enables the ports of the policy (R322, R323, R47); PWR_PORT_OFF whose VP is below
5 V completes (R333). -/
def State.powerTick (s : State) : State :=
  let go (t : State) (p : Nat) : State :=
    let t1 := ((t.flushPow p).lowRemoval p).owedPow p
    let t2 := if ¬ t.power.begun ∧ t1.pState p = 0 then
        (if t1.on (Fd.PPW_P_CFG_EN p) ∧ ¬ t1.on (Fd.PPW_P_STATUS_DB p) then t1.unattached p
         else t1.editPp p fun x => { x with term := .openLine })
      else t1
    if (t2.pp p).offDone then (t2.endPow p 0x0506 ST.ok 0).editPp p fun x => { x with offDone := false } else t2
  let s1 := foldN go s s.portList
  { s1 with power := { s1.power with begun := true } }

end Sys2Proof.Machine
end

