-- ==== Sys2Proof/Machine/PowerMsg.lean ====
section
/-! DEFINITION. Port power on the line: attachment, the messages of R316, their acknowledgement and timers, protection and
fast role swap (12_port_power.md, R311 to R331; rows SNS_WINDOW_ENTER to DEAD_BATTERY_START). A message row carries the
received HEADER, objects and CHECK (R314). -/

namespace Sys2Proof.Machine

/-- The row's port exists. -/
def State.onPort (s : State) (p : Nat) (go : State) : Out := .next (if p < s.ports then go else s)

/-! ### Attachment (R312, R320, R322) -/

/-- R312: SNS enters the attach window. -/
def execSnsWindowEnter (p : Nat) (s : State) : Out :=
  let s1 := s.put (Fd.PPW_P_STATUS_SNS p) 1
  s.onPort p (if s.pState p = 1 then s1.setPState p 2 else s1)

/-- R322: SNS leaves the window, to the level `sns` codes. -/
def execSnsWindowLeave (p sns : Nat) (s : State) : Out :=
  let s1 := s.put (Fd.PPW_P_STATUS_SNS p) sns
  s.onPort p (if s.pState p = 2 then s1.unattached p else s1)

/-- R312, R320: SNS has been in the window for tATTACH, with VP at `vp` (10 mV). A sink also needs 10.8 V. The power
die attaches without the logic die too: ATTACH wakes it (R378). (DEDUCED, log entry 135.) -/
def execSnsAttach (p vp : Nat) (s : State) : Out :=
  let x := s.pp p
  let done (t : State) : State := (t.editPp p fun y => { y with attached := true }).powEvent p 0
  s.onPort p
    (if s.pState p = 2 then
      match x.term with
      | .rp => done (s.beSource p)
      | .rd => if vp ≥ 1080 then done (s.beSink p) else s
      | .openLine => s
    else s)

/-- R312: SNS has been out of the window, or a sink's VP below 8 V, for tATTACH. Not during the FRS signal; a sink's VP does
not count in a hard reset or a swap. -/
def execSnsDetach (p sns : Nat) (s : State) : Out :=
  let x := s.pp p
  let spared := sns = 1 ∧ (s.isSource p ∨ 11 ≤ s.pState p ∧ s.pState p ≤ 13)
  let s1 := s.put (Fd.PPW_P_STATUS_SNS p) sns
  s.onPort p (if x.attached ∧ ¬ x.frsSig ∧ ¬ spared then s1.detachPort p else s1)

/-- R312: an unattached dual-role port switches between Rp and Rd. -/
def execDrpToggle (p : Nat) (s : State) : Out :=
  s.onPort p
    (if s.pState p = 1 ∧ s.roleCap p = 2 then
      s.editPp p fun x => { x with term := if x.term = .rp then .rd else .rp }
    else s)

/-- R323: VIN_PD has come up from port 0's VP with DBEN high and SNS in the window for tATTACH. -/
def execDeadBatteryStart (s : State) : Out :=
  .next (if s.pState 0 = 0 ∧ ¬ s.power.begun then
    let s1 := (s.beSink 0).put (Fd.PPW_P_STATUS_DB 0) 1
    let s2 := ((s1.put Fd.PPW_STATUS_DB 1).put Fd.PPW_STATUS_DBEN 1).put (Fd.PPW_P_STATUS_SNS 0) 1
    (s2.editPp 0 fun x => { x with attached := true }).powEvent 0 0
  else s)

/-! ### Sending (R318, R319, R321) -/

/-- Put the message under way on the line once more. -/
def State.resend (s : State) (p : Nat) : State :=
  match (s.pp p).tx with
  | some m => s.editPp p fun x => { x with sent := x.sent ++ [m], backoff := false }
  | none => s

/-- Answer REQUEST with a message of TYPE `typ`: SRC_NEGOTIATE until it starts (R322). -/
def State.answerReq (s : State) (p typ : Nat) : State :=
  let busy := (s.pp p).tx.isSome
  let s1 := (s.editPp p fun x => { x with prior := s.pState p, negLeft := if busy then x.waiting.length + 1 else 0 }).setPState p 4
  let s2 := s1.sendMsg p typ []
  if busy then s2 else s2.reqAnswered p typ

/-- A source without a contract of its own makes offers: at default power, or after a swap (R320, R326). -/
def State.offering (s : State) (p : Nat) : Bool :=
  s.isSource p && s.dieRuns && (s.pState p == 3 || (s.pState p == 6 && (s.pp p).swap == .newContract))

/-- R321, R319: the first SRC_CAPS. -/
def execCapsSend (p : Nat) (s : State) : Out :=
  s.onPort p (if s.offering p ∧ (s.pp p).capsSent = 0 then s.sendCaps p else s)

/-- R319: SRC_CAPS that are not acknowledged are sent again; after 30 sends they are given up (DEDUCED, log entry 136). -/
def execCapsRepeat (p : Nat) (s : State) : Out :=
  let x := s.pp p
  let caps : Bool := match x.tx with
    | some m => m.typ == 10
    | none => false
  s.onPort p
    (if s.offering p ∧ caps then
      if x.capsOpen < 30 then (s.resend p).editPp p fun y => { y with capsSent := y.capsSent + 1, capsOpen := y.capsOpen + 1 }
      else (s.editPp p fun y => { y with tx := none, tries := 0, backoff := false }).sendNext p
    else s)

/-- R318: GOOD_RX with the MSG_ID of the last message sent. After an acknowledged SOFT_RESET the source sends SRC_CAPS. -/
def execGoodRx (p : Nat) (hdr : SnsHead) (s : State) : Out :=
  s.onPort p
    (match (s.pp p).tx with
    | some m =>
      if snsGood hdr [] ∧ snsType hdr = 0 ∧ m.id = snsId hdr then
        let s1 := s.editPp p fun x => { x with
          tx := none, tries := 0, backoff := false, txId := (x.txId + 1) % 8, capsOpen := if m.typ = 10 then 0 else x.capsOpen }
        let s2 := if m.typ = 8 ∧ s1.isSource p ∧ s1.dieRuns then s1.sendCaps p else s1
        s2.sendNext p
      else s
    | none => s)

/-- The message layer resets from this end (R316, R318). (DEDUCED, log entry 140.) -/
def State.softReset (s : State) (p : Nat) : State :=
  let s1 := s.editPp p fun x => { x.msgReset with swap := if x.swap = .asked then .none else x.swap }
  (s1.backToPrior p).transmit p 8 []

/-- R318: no GOOD_RX within tRETRY. Two resends, then SOFT_RESET, then a hard reset. SRC_CAPS of a source without a contract
are repeated by tCAPS_REPEAT instead (R319, R320); while the logic die does not run only WAIT is sent again, the others wait for the die (R331). (DEDUCED, log entry 136.) -/
def execMessageRetry (p : Nat) (s : State) : Out :=
  let x := s.pp p
  s.onPort p
    (match x.tx with
    | some m =>
      if x.backoff ∨ ¬ s.maySend m.typ ∨ (m.typ = 10 ∧ s.offering p) then s
      else if x.tries < 2 then (s.resend p).editPp p fun y => { y with tries := y.tries + 1 }
      else
        let s1 := s.bump (Fd.PPW_P_COUNT_MSG_FAIL p)
        if ¬ s.dieRuns then (s1.editPp p fun y => { y with tx := none, tries := 0 }).sendNext p
        else if m.typ = 8 then s1.sendHardReset p
        else s1.softReset p
    | none => s)

/-- R318: the transmitter hears a differing half-cell, stops and backs off. -/
def execSnsCollision (p : Nat) (s : State) : Out :=
  s.onPort p (if (s.pp p).tx.isSome then s.editPp p fun x => { x with backoff := true } else s)

/-- R318: the back-off is over; the resend is not counted as a retry. -/
def execBackoffExpiry (p : Nat) (s : State) : Out :=
  s.onPort p (if (s.pp p).backoff ∧ s.maySend (((s.pp p).tx.map (·.typ)).getD 0) then s.resend p else s)

/-! ### Receiving (R316, R318, R331) -/

/-- A received message of the row's TYPE `typ`: acknowledged, a repeat discarded, a COUNT outside its range or the reserved TYPE 15 answered
NOT_SUPPORTED. A message whose CHECK fails is not received: no GOOD_RX goes out (R314, R318; DEDUCED, log entry 254). While the logic die
does not run, those in `ask` are answered WAIT and the others are ignored (R331). -/
def State.onMsg (s : State) (p typ : Nat) (hdr : SnsHead) (objs : List Nat) (lo hi : Nat) (ask : Bool) (go : State → State) : Out :=
  let id := snsId hdr
  let other := snsType hdr = 15
  let s1 := s.goodRx p id
  let s2 := s1.editPp p fun x => { x with rxId := some id }
  s.onPort p
    (if ¬ (s.pp p).attached ∨ ¬ snsGood hdr objs ∨ ¬ (snsType hdr = typ ∨ other) then s
    else if (s.pp p).rxId = some id then s1
    else if ¬ s.dieRuns then (if ask ∧ ¬ other then s2.dieWait p else s2)
    else if other ∨ ¬ (lo ≤ objs.length ∧ objs.length ≤ hi) then s2.sendMsg p 9 []
    else go s2)

/-- Record the partner's PDOs (R333). -/
def State.partnerCaps (s : State) (p : Nat) (objs : List Nat) : State :=
  s.editPp p fun x => { x with caps := objs, partnerDrp := objs.any fun o => bitAt o 19 }

/-- The sink asks for the contract of R321. -/
def State.requestBest (s : State) (p : Nat) : State :=
  let c := s.choosePdo p
  s.sendRequest p (s.requestObj p c.1 c.2)

/-- R321: SRC_CAPS. A sink that is not in a transition answers with REQUEST; a source does not understand it. -/
def execSrcCaps (p : Nat) (hdr : SnsHead) (objs : List Nat) (s : State) : Out :=
  s.onMsg p 10 hdr objs 1 4 false fun t =>
    if t.isSource p then t.sendMsg p 9 []
    else
      let t1 := (t.partnerCaps p objs).editPp p fun x => { x with again := none }
      let st := t1.pState p
      if st = 7 ∨ st = 8 ∨ st = 10 then t1.requestBest p else t1

/-- R316: SNK_CAPS are recorded. -/
def execSnkCaps (p : Nat) (hdr : SnsHead) (objs : List Nat) (s : State) : Out :=
  s.onMsg p 11 hdr objs 1 4 false fun t => t.partnerCaps p objs

/-- New SRC_CAPS have not been acknowledged yet (Races). -/
def State.capsPending (s : State) (p : Nat) : Bool :=
  let x := s.pp p
  (match x.tx with
    | some m => m.typ == 10
    | none => false) || x.waiting.any fun w => w.1 == 10

/-- R321: REQUEST. ACCEPT sets VSEL; WAIT while negotiating, swapping or with caps unacknowledged; otherwise REJECT. (DEDUCED, log entry 137.) -/
def execSnsRequest (p : Nat) (hdr : SnsHead) (objs : List Nat) (s : State) : Out :=
  s.onMsg p 12 hdr objs 1 1 true fun t =>
    let o := objs.getD 0 0
    let st := t.pState p
    if ¬ t.isSource p then t.sendMsg p 9 []
    else if t.busyNeg p ∨ ¬ (st = 3 ∨ st = 6) then t.sendMsg p 3 []
    else
      let t1 := t.editPp p fun x => { x with dropped := false }
      if t.capsPending p then t1.answerReq p 3
      else if ¬ t.acceptable p o then t1.answerReq p 2
      else (t1.editPp p fun x => { x with request := o }).answerReq p 1

/-- R321, R326: ACCEPT. -/
def execSnsAccept (p : Nat) (hdr : SnsHead) (objs : List Nat) (s : State) : Out :=
  s.onMsg p 1 hdr objs 0 0 false fun t =>
    if t.pState p = 8 then
      let o := (t.pp p).request
      ((t.armFrs p o).editPp p fun x => { x with accVolt := t.reqVolt p o }).setPState p 9
    else if (t.pp p).swap = .asked ∧ t.maySwap p then t.beginSwap p
    else t

/-- A request of this end is refused with DETAIL `d` of its command: REJECT or NOT_SUPPORTED 1, WAIT 2. -/
def State.refused (s : State) (p d : Nat) : State :=
  if s.pState p = 8 then (s.endPow p 0x0502 ST.denied d).backToPrior p
  else if (s.pp p).swap = .asked then (s.editPp p fun x => { x with swap := .none }).endPow p 0x0503 ST.denied d
  else s

/-- R322: REJECT. -/
def execSnsReject (p : Nat) (hdr : SnsHead) (objs : List Nat) (s : State) : Out :=
  s.onMsg p 2 hdr objs 0 0 false fun t => t.refused p 1

/-- R316: NOT_SUPPORTED ends the exchange it answers. (DEDUCED, log entry 133.) -/
def execNotSupported (p : Nat) (hdr : SnsHead) (objs : List Nat) (s : State) : Out :=
  s.onMsg p 9 hdr objs 0 0 false fun t => t.refused p 1

/-- R325: WAIT. The request is repeated after tWAIT_AGAIN. -/
def execSnsWait (p : Nat) (hdr : SnsHead) (objs : List Nat) (s : State) : Out :=
  s.onMsg p 3 hdr objs 0 0 false fun t =>
    let x := t.pp p
    let t1 := if t.pState p = 8 then t.editPp p fun y => { y with again := some (12, [x.request]) }
      else if x.swap = .asked then t.editPp p fun y => { y with again := some (7, []) }
      else t
    t1.refused p 2

/-- R319: tWAIT_AGAIN has passed. -/
def execWaitAgainExpiry (p : Nat) (s : State) : Out :=
  let s1 := s.editPp p fun x => { x with again := none }
  let st := s.pState p
  s.onPort p
    (if ¬ s.dieRuns then s
    else match (s.pp p).again with
    | some (12, [o]) => if st = 7 ∨ st = 10 then s1.sendRequest p o else s1
    | some (7, _) => if st = 6 ∨ st = 10 then (s1.sendMsg p 7 []).editPp p fun x => { x with swap := .asked } else s1
    | _ => s1)

/-- The new source's supply step is complete: PS_READY, and its state after the swap (R322, R326, R328). -/
def State.newSourceReady (s : State) (p : Nat) : State :=
  let fast := (s.pp p).fast
  let s1 := (s.sendMsg p 4 []).editPp p fun x =>
    { x with swap := .newContract, capsSent := 0, capsOpen := 0, frsVp := false, frsAck := false }
  let s2 := s1.swapOver p
  if fast then (s2.setPState p 3).swapDone p 4
  else (s2.enterPState p 6).swapDone p 3

/-- The old source ends the swap as sink (R322, R326, R328). -/
def State.oldSourceDone (s : State) (p : Nat) : State :=
  let fast := (s.pp p).fast
  let s1 := ((s.put (Fd.PPW_P_STATUS_PROLE p) 0).put (Fd.PPW_P_STATUS_FRS_RELY p) 0).editPp p fun x =>
    { x with swap := .none, fast := false, gates := true }
  let s2 := (s1.swapOver p).showGates p
  if fast then ((s2.put (Fd.PPW_P_STATUS_CONTRACT p) ((s.pp p).frs * 2)).setPState p 7).swapDone p 4
  else (s2.enterPState p 10).swapDone p 3

/-- R321, R326, R328: PS_READY. -/
def execPsReady (p : Nat) (hdr : SnsHead) (objs : List Nat) (s : State) : Out :=
  s.onMsg p 4 hdr objs 0 0 false fun t =>
    if t.pState p = 9 then t.makeContract p 10
    else match t.pState p, (t.pp p).swap with
    | 11, .waitOld => t.turnOn p
    | 11, .oldSource => t.oldSourceDone p
    | 12, .oldSource => t.oldSourceDone p
    | _, _ => t

/-- A source's ramp is over (R324). -/
def State.rampEnd (s : State) (p : Nat) : State := s.editPp p fun x => { x with calm := some s.time.cyc, ramp := false }

/-- R321, R326, R328: VP has reached the window of the contract, or the default window. (DEDUCED, log entry 141.) -/
def execVpInWindow (p : Nat) (s : State) : Out :=
  let x := s.pp p
  let t := s.vpBack p
  s.onPort p
    (match s.pState p with
    | 3 => (t.rampEnd p).endPow p 0x0504 ST.ok 0
    | 7 => t.endPow p 0x0504 ST.ok 0
    | 5 => if s.dieRuns then ((t.rampEnd p).sendMsg p 4 []).makeContract p 6 else t.rampEnd p
    | 11 => if x.swap = .turnOn ∧ s.dieRuns then t.newSourceReady p else t
    | 12 =>
      if x.swap = .turnOn then
        (if x.frsAck ∧ s.dieRuns then t.newSourceReady p else t.editPp p fun y => { y with frsVp := true })
      else t
    | _ => t)

/-- R316: GET_SRC_CAPS. A port that offers none does not understand it. -/
def execGetSrcCaps (p : Nat) (hdr : SnsHead) (objs : List Nat) (s : State) : Out :=
  s.onMsg p 5 hdr objs 0 0 true fun t =>
    match (t.pp p).srcPdos with
    | [] => t.sendMsg p 9 []
    | l => t.sendMsg p 10 (l.map (t.pdoOut p))

/-- R316: GET_SNK_CAPS. -/
def execGetSnkCaps (p : Nat) (hdr : SnsHead) (objs : List Nat) (s : State) : Out :=
  s.onMsg p 6 hdr objs 0 0 true fun t =>
    match (t.pp p).snkPdos with
    | [] => t.sendMsg p 9 []
    | l => t.sendMsg p 11 (l.map (t.pdoOut p))

/-- R325 and Races: PR_SWAP. (DESIGN CHOICE, log entry 138.) -/
def execPrSwap (p : Nat) (hdr : SnsHead) (objs : List Nat) (s : State) : Out :=
  s.onMsg p 7 hdr objs 0 0 true fun t =>
    let asked := (t.pp p).swap = .asked
    if ¬ t.on (Fd.PPW_P_CFG_ACCEPT_SWAP p) then t.sendMsg p 2 []
    else if t.busyNeg p ∨ (asked ∧ t.isSource p) then t.sendMsg p 3 []
    else if ¬ t.maySwap p then t.sendMsg p 2 []
    else
      let t1 := if asked then t.refused p 2 else t
      (t1.sendMsg p 1 []).beginSwap p

/-- R316: SOFT_RESET resets the message layer; the contract stands, and the source sends SRC_CAPS. Its own MSG_ID stays the last accepted,
so that a repeat of it is discarded (R318). -/
def execSoftReset (p : Nat) (hdr : SnsHead) (objs : List Nat) (s : State) : Out :=
  s.onMsg p 8 hdr objs 0 0 false fun t =>
    let t1 := t.editPp p fun x => { x.msgReset with
      rxId := some (snsId hdr), swap := if x.swap = .asked then .none else x.swap }
    let t2 := t1.backToPrior p
    if t2.isSource p then t2.sendCaps p else t2

/-- R316: ALERT. -/
def execSnsAlert (p : Nat) (hdr : SnsHead) (objs : List Nat) (s : State) : Out :=
  s.onMsg p 13 hdr objs 1 1 false fun t => t.powEvent p 8

/-- R328: FR_SWAP. The new source answers ACCEPT, and PS_READY once VP is in the window. -/
def execFrSwap (p : Nat) (hdr : SnsHead) (objs : List Nat) (s : State) : Out :=
  s.onMsg p 14 hdr objs 0 0 false fun t =>
    let x := t.pp p
    if t.pState p = 12 ∧ (x.swap = .turnOn ∨ x.swap = .waitOld) then
      let t1 := (t.sendMsg p 1 []).editPp p fun y => { y with frsAck := true }
      if x.swap = .turnOn ∧ x.frsVp then t1.newSourceReady p else t1
    else t

/-- R330: a hard reset is received. -/
def execHardReset (p : Nat) (s : State) : Out := s.onPort p (if (s.pp p).attached then s.hardReset p else s)

/-- R330: VP has fallen below 5 V. (DESIGN CHOICE, log entry 144.) -/
def execHardResetDischarged (p : Nat) (s : State) : Out := s.onPort p (s.discharged p)

/-! ### Waits that run out (R319, R322, R326) -/

/-- R322: no PS_READY within tSNK_PSR. (DEDUCED, log entry 142.) -/
def execSnkPsrExpiry (p : Nat) (s : State) : Out :=
  s.onPort p (if (s.pState p = 9 ∨ (s.pState p = 11 ∧ (s.pp p).swap = .waitOld)) ∧ s.dieRuns then s.sendHardReset p else s)

/-- R319 and Races: no REQUEST came after new caps that dropped the PDO in use. -/
def execTrequestExpiry (p : Nat) (s : State) : Out :=
  s.onPort p (if (s.pp p).dropped ∧ s.pState p = 6 ∧ s.dieRuns then s.sendHardReset p else s)

/-- R326: the old source has had no PS_READY for 10 ms. -/
def execSwapPsReadyTimeout (p : Nat) (s : State) : Out :=
  s.onPort p (if s.pState p = 11 ∧ (s.pp p).swap = .oldSource ∧ s.dieRuns then s.sendHardReset p else s)

/-- R326: 500 ms after its PS_READY the new source has no contract. -/
def execSwapContractTimeout (p : Nat) (s : State) : Out :=
  s.onPort p
    (if (s.pp p).swap = .newContract ∧ ¬ (s.pp p).fast ∧ s.isSource p ∧ s.pState p < 13 then
      (s.beSource p).editPp p fun x => { x with swap := .none }
    else s)

/-! ### Protection (R324) -/

/-- R324: a protection trips. -/
def execProtectionTrip (p cause : Nat) (s : State) : Out :=
  let st := s.pState p
  s.onPort p
    (if 1 ≤ cause ∧ cause ≤ 7 ∧ ¬ s.tripMasked p cause ∧ st ≠ 0 ∧ st ≠ 14 ∧ st ≠ 15 then s.trip p cause else s)

/-- R324: RETRY_DELAY is over. Whether the cable power was below 5 V for longer than 200 ms is judged as it is (R330). -/
def execRetryDelayExpiry (p : Nat) (s : State) : Out :=
  s.onPort p (if s.pState p = 14 then (((s.lowRemoval p).unpartner p).unattached p) else s)

/-! ### Fast role swap (R327, R328) -/

/-- The source with FRS_RELY starts the FRS signal, sets VSEL to 3, keeps its gates on and presents Rd. -/
def State.startFrs (s : State) (p : Nat) : State :=
  let st := s.pState p
  if s.on (Fd.PPW_P_STATUS_FRS_RELY p) ∧ st ≠ 12 ∧ st ≠ 13 ∧ st ≠ 14 ∧ st ≠ 15 then
    (s.setPState p 12).editPp p fun x =>
      { x with wasSource := if st = 11 then x.wasSource else true, vsel := 3, term := .rd, swap := .oldSource, fast := true
               frsSig := true }
  else s

/-- R328: VS, in 10 mV, has fallen below 0.9 of nominal, or PFI_N asserts on this port. -/
def execFrsTrigger (p vs : Nat) (pfi : Bool) (s : State) : Out :=
  let low := decide (10 * vs < 9 * (1200 * 2 ^ s.get (Fd.PPW_P_STATUS_VOLT p)))
  s.onPort p (if low ∨ (pfi ∧ s.on (Fd.PPW_P_CFG_FRS_ON_PFI p)) then s.startFrs p else s)

/-- R328: the FRS signal is over; the old source sends FR_SWAP. -/
def execFrsSignalEnd (p : Nat) (s : State) : Out :=
  let s1 := s.editPp p fun x => { x with frsSig := false }
  s.onPort p (if (s.pp p).frsSig then (if s.dieRuns then s1.sendMsg p 14 [] else s1) else s)

/-- R328: the armed sink recognises the FRS signal and stops drawing. In a role swap whose sink is not armed a hard reset
follows (Races). -/
def execFrsRecognition (p : Nat) (s : State) : Out :=
  let st := s.pState p
  s.onPort p
    (if ¬ (s.pp p).attached ∨ st = 12 ∨ st = 13 ∨ st = 14 ∨ st = 15 then s
    else if s.on (Fd.PPW_P_STATUS_FRS_ARMED p) then
      let s1 := (s.setPState p 12).editPp p fun x =>
        { x with wasSource := false, gates := false, swap := .waitOld, fast := true, frsVp := false, frsAck := false }
      s1.showGates p
    else if st = 11 ∧ ¬ (s.pp p).wasSource then s.sendHardReset p
    else s)

/-- R328: recognition and VP below 0.85 of nominal: the new source conducts, limited to FRS_CURRENT. -/
def execFrsTurnOn (p : Nat) (s : State) : Out :=
  s.onPort p
    (if s.pState p = 12 ∧ (s.pp p).swap = .waitOld then
      let s1 := (s.put (Fd.PPW_P_STATUS_CONTRACT p) ((s.pp p).frs * 2)).put (Fd.PPW_P_STATUS_FRS_ARMED p) 0
      s1.turnOn p
    else s)

/-- R328: VP has not fallen within tFRS_CANCEL; the standby stays armed. -/
def execFrsCancel (p : Nat) (s : State) : Out :=
  s.onPort p
    (if s.pState p = 12 ∧ (s.pp p).swap = .waitOld then
      (((s.editPp p fun x => { x with swap := .none, fast := false, gates := true }).swapOver p).showGates p).enterPState p 10
    else s)

/-- R328: no contract within tFRS_CONTRACT of recognition. -/
def execFrsContractExpiry (p : Nat) (s : State) : Out :=
  let x := s.pp p
  s.onPort p (if x.fast ∧ (x.swap = .turnOn ∨ x.swap = .newContract) ∧ s.dieRuns then s.sendHardReset p else s)

end Sys2Proof.Machine
end

