-- ==== Sys2Proof/Machine/PairOps.lean ====
section
/-! DEFINITION. Shared operations of pairing (14_pairing_and_systems.md, R344 to R369): links and ring, the time source, covered
devices and the mirror, takeover, catch-up and handover, and their work at a tick and at the start of Col. -/

namespace Sys2Proof.Machine

/-! ### Links and ring (R345, R347) -/

def State.editPair (s : State) (f : Pair → Pair) : State := { s with pair := f s.pair }

/-- Set the STATE of a Saddle link; a change raises LINK_CHANGE, the loss of a link that was up counts. -/
def State.setSad (s : State) (l n : Nat) : State :=
  let old := s.sadState l
  if old = n then s
  else
    let s1 := (s.put (if l = 0 then Fd.PAR_LINK0_STATE else Fd.PAR_LINK1_STATE) n).setEvent 23 Fd.PAR_EVENT_LINK_CHANGE
    if old = 2 then s1.bump Fd.PAR_COUNT_LINK_DOWNS else s1

def State.parCount (s : State) : Nat := s.get Fd.PAR_CTRL_COUNT

/-- The number that the far end of Saddle link `l` must announce (R345). -/
def State.wantNeighbour (s : State) (l : Nat) : Nat :=
  if l = 0 then (s.ctrlNo + s.parCount - 1) % s.parCount else (s.ctrlNo + 1) % s.parCount

def State.neighbour (s : State) (l : Nat) : Nat := if l = 0 then s.get Fd.PAR_LINK0_NEIGHBOUR else s.get Fd.PAR_LINK1_NEIGHBOUR

/-- Forward a message of controller `n` onto the other link, not back to its origin (R347). -/
def State.forward (s : State) (l n : Nat) (m : SaddleMsg) : State :=
  if s.neighbour (1 - l) = n then s else s.sadSend (1 - l) m

/-- RING_CLOSED: each link has delivered the heartbeats of all other controllers in this frame. (DEDUCED, log entry 170.) -/
def State.showRing (s : State) : State :=
  let all (l : Nat) : Bool := (List.range s.parCount).all fun n => n == s.ctrlNo || s.pair.heard.contains (l, n)
  s.put Fd.PAR_STATUS_RING_CLOSED (b2n (all 0 && all 1))

/-! ### The time source (R348, R349) -/

def State.isSource' (s : State) : Bool := s.on Fd.PAR_STATUS_SOURCE
def State.activeSrc (s : State) : Nat := s.get Fd.PAR_STATUS_ACTIVE_SRC

/-- This controller leaves FOLLOW: ACQUIRE with its PPS enabled, FREE otherwise; TIM_RATE is held (R348). -/
def State.leaveFollow (s : State) : State :=
  if s.discState = 4 ∨ s.pair.holds then
    let s1 := s.editPair fun x => { x with holds := false }
    if s1.on Fd.TIM_PPS_CTRL_EN then s1.enterAcquire none else s1.setDiscState 0
  else s

/-- This controller follows (R348, R349). -/
def State.enterFollow (s : State) : State :=
  if s.discState = 4 ∨ s.pair.holds then s
  else (s.setDiscState 4).editPair fun x => { x with fresh := true, lastMsg := s.time.cyc, base := s.uncert }

/-- The role follows the active source. -/
def State.takeRole (s : State) : State :=
  let me := s.ctrlNo == s.activeSrc
  let s1 := s.put Fd.PAR_STATUS_SOURCE (b2n me)
  if me then s1.leaveFollow else s1.enterFollow

/-- The active time source becomes controller `n`; the count of JOIN's updates restarts (R348, Races). -/
def State.setSource (s : State) (n : Nat) : State :=
  if s.activeSrc = n then s.takeRole
  else
    let s1 := (s.put Fd.PAR_STATUS_ACTIVE_SRC n).setEvent 23 Fd.PAR_EVENT_SRC_CHANGE
    ((s1.put Fd.PAR_STATUS_JOIN_READY 0).editPair fun x => { x with joinRun := 0 }).takeRole

/-- The update of a whole second (R349, R351). -/
def State.followUpdate (s : State) (e : Int) : State :=
  let s1 := s.put Fd.PAR_TIME_ERR (ofSigned 20 (clampInt e (-524288) 524287))
  let first := s.pair.fresh ∧ e.natAbs > 1000
  let s2 := if first then s1.setTime { s1.time with corrReq := some (false, -e) } else s1.loopUpdate e
  let run := if e.natAbs ≤ 100 ∧ s.on Fd.PAR_CTRL_JOIN then s.pair.joinRun + 1 else 0
  let s3 := s2.editPair fun x => { x with fresh := false, joinRun := run }
  if run ≥ 16 then s3.put Fd.PAR_STATUS_JOIN_READY 1 else s3

/-- Uncertainty that hops add. (DEDUCED, log entry 157.) -/
def hopNs (hops : Nat) : Nat := (roundDiv ((hops * 15 : Nat) : Int) 100).toNat

/-- A follower uses the TIME message of the boundary. -/
def State.useTime (s : State) (m : TimeUse) : State :=
  let s1 := (s.put Fd.PAR_TIME_SOURCE m.source).put Fd.PAR_TIME_HOPS m.hops
  let held := s.pair.holds
  let s2 := s1.editPair fun x => { x with
    usedTime := true, srcEst := m.est, srcHold := m.state == 3, base := min (m.uncert + 10 + hopNs m.hops) 0xFFFFFFFF
    lastMsg := s.time.cyc, holds := false, fresh := x.fresh || held }
  let s3 := if held then s2.setDiscState 4 else s2
  let far := held && decide (m.err.natAbs > s.get Fd.TIM_PPS_WINDOW_WINDOW)
  let s4 := if far then s3.setTime { s3.time with corrReq := some (false, -m.err) } else s3
  if m.ns = 0 ∧ ¬ far then s4.followUpdate m.err else s4

/-- This controller follows controller `n` and has not used the TIME message of this boundary. -/
def State.followsNow (s : State) (n : Nat) : Bool :=
  n == s.activeSrc && !s.isSource' && !s.pair.usedTime && (s.discState == 4 || s.pair.holds)

/-- At the end of a frame in which the path with fewer hops has delivered no TIME message, the other path's is used (R349).
(DESIGN CHOICE, log entry 51.) -/
def State.lateTime (s : State) : State :=
  match s.pair.longTime with
  | some m => if s.followsNow m.source then s.useTime m else s
  | none => s

/-- A controller's heartbeat arrives: this controller's own always does. -/
def State.hears (s : State) (n : Nat) : Bool := n == s.ctrlNo || s.pair.heardPrev.contains n

/-- R348 at a tick: TIME_SRC0 while it is heard, else TIME_SRC1 if it is; a return to TIME_SRC0 waits for a whole second. -/
def State.chooseSource (s : State) : State :=
  let a := s.get Fd.PAR_CTRL_TIME_SRC0
  let b := s.get Fd.PAR_CTRL_TIME_SRC1
  if s.parMode = 0 then s
  else if s.activeSrc = a then (if ¬ s.hears a ∧ s.hears b then s.setSource b else s.takeRole)
  else if s.activeSrc = b ∧ s.hears b then s.takeRole
  else if s.hears a then s.setSource a
  else if s.hears b then s.setSource b
  else s.takeRole

/-! ### Takeover (R357, R360) -/

/-- A request goes ahead of the requests to its device that have not begun. -/
def putAhead (c : SysCtl) : List SysCtl → List SysCtl
  | [] => [c]
  | x :: l => if x.port = c.port ∧ x.addr = c.addr ∧ x.begun.isNone ∧ x.result.isNone then c :: x :: l else x :: putAhead c l

/-- Ask hub `h` for SELECT_UPSTREAM of this controller's upstream port, ahead of what has not begun there, unless it is being asked (R357,
R363). (DESIGN CHOICE, log entry 158.) -/
def State.selectHub (s : State) (h : Nat) : State :=
  if s.xfer.ctls.any fun c => c.addr == h && c.use == SysUse.select then s
  else
    let t := s.hubSet h 0x24 (SMap.get (fun _ => 0) s.pair.ups h) 0 .select
    match t.xfer.ctls.getLast? with
    | some c => if c.use = .select then { t with xfer := { t.xfer with ctls := putAhead c t.xfer.ctls.dropLast } } else t
    | none => t

/-- Hubs of takeovers whose tick has not come. -/
def State.takingHubs (s : State) : List Nat := (s.pair.takes.filter fun t => !t.live).flatMap (·.hubs)

/-- A takeover of hubs that the partner carries, with trigger frame `g` and first service frame `lo` (R357, R360). A pending
handover of a hub gives way to it (Races). A controller that has not joined takes part in none (R351). -/
def State.startTake (s : State) (hubs : List Nat) (why : Trigger) (g lo : Nat) : State :=
  let l := hubs.filter fun h => (s.dualHubs true).contains h && !s.takingHubs.contains h
  if l.isEmpty ∨ ¬ s.on Fd.PAR_STATUS_JOINED then s
  else
    let t : Take := { hubs := l, why := why, g := g, lo := lo, sel := [], live := false }
    let s1 := s.editPair fun x => { x with takes := x.takes ++ [t], moves := x.moves.filter fun m => !l.contains m.hub }
    if g = s.frame then foldN State.selectHub s1 l else s1

def trigNo : Trigger → Nat
  | .down => 0
  | .powerFail => 1
  | .spurLost => 2
  | .command => 3

/-- Endpoint contexts of a device that the test picks, with their descriptors; EP0 is TYPE 0. -/
def State.pickKeys (s : State) (a : Nat) (f : EpDesc → Bool) : List Nat :=
  match s.dev a with
  | some d =>
    let ep0 : EpDesc := { num := 0, dirIn := false, typ := 0, words := 64, minK := 0, hist := 0, fmt := 0 }
    ((ep0 :: d.eps).filter f).map fun e => a * 16 + e.num
  | none => []

def sentReset (e : EpDesc) : Bool := e.typ == 0 || e.typ == 3 || (e.typ == 2 && !e.dirIn)
def assuredIn (e : EpDesc) : Bool := e.typ == 2 && e.dirIn

/-- Send RESET_ENDPOINT for a context, unless it is being sent (R357). (DEDUCED, log entry 162.) -/
def State.resetEp (s : State) (k : Nat) : State :=
  if s.xfer.ctls.any fun c => c.use == SysUse.resetEp k then s
  else match s.dev (k / 16), s.epDesc (k / 16) (k % 16) with
    | some d, some e =>
      s.issueSys d.link.port (k / 16) (setupWords false 0 1 0x0A 0 0 (k % 16 + 128 * b2n (e.dirIn && k % 16 != 0))) [] (.resetEp k)
    | _, _ => s.editPair fun x => { x with resets := x.resets.filter (· != k) }

/-- How many of the `n` frames from `lo` are service frames of interval 2^k and `phase`. -/
def servicesIn (lo n k phase : Nat) : Nat :=
  let m := 2 ^ k
  let off := (phase + m - lo % m) % m
  if n ≤ off then 0 else (n - off + m - 1) / m

/-- K and PHASE of endpoint `key` on its own maps, or as the MIRROR told them (R355). -/
def State.servicePlan (s : State) (key : Nat) : Option (Nat × Nat) :=
  match s.grantFor key with
  | some g => some (g.k, g.phase)
  | none => s.pair.known.findSome? fun
    | .grant k n phase _ _ => if k = key then some (n, phase) else none
    | _ => none

/-- `n` samples of a catch-up are not fetched (R360). -/
def State.catchLosts (s : State) (n : Nat) : State := iterate (fun _ t => t.catchLost) (min n 65535) s

/-- The catch-up of one assured IN endpoint, with its K and PHASE: services `lo` to `g` (R360). Those older than any history, and those of an
endpoint that is not bound, are lost at once. (DEDUCED, log entry 163.) -/
def State.catchUp (s : State) (lo g key k phase : Nat) : State :=
  let n := (since32 g lo + 1) % 2 ^ 32
  match (s.boundEntry key).bind fun b => (s.entry b.1 b.2).map fun x => (b.1, b.2, x.gen) with
  | some (i, e, gen) =>
    let near := min n 65
    let s1 := s.catchLosts (servicesIn lo (n - near) k phase)
    foldN (fun t j =>
      let f := (g + 2 ^ 32 + 1 - near + j) % 2 ^ 32
      if f % 2 ^ k = phase % 2 ^ k ∧ ¬ (t.xfer.hists.any fun h => h.key == key && h.sframe == f) then
        let h : HistRec := { key := key, inst := i, gen := gen, entry := e, sframe := f, tries := 0, triedAt := none, catchup := true }
        { t with xfer := { t.xfer with hists := t.xfer.hists ++ [h] } }
      else t) s1 (List.range near)
  | none => s.catchLosts (servicesIn lo n k phase)

/-- A hub has moved to, or away from, this controller: the commands that wait for it count it. -/
def State.hubMoved (s : State) (h : Nat) : State :=
  let f (c : PairCmd) : PairCmd :=
    if c.hubs.contains h then { c with hubs := c.hubs.filter (· != h), moved := c.moved + 1 } else c
  s.editPair fun x => { x with cmds := x.cmds.map f }

/-- Devices carried here from now on leave the list of what the partner carries. -/
def State.unknow (s : State) (devs : List Nat) : State :=
  s.editPair fun x => { x with known := x.known.filter fun
    | .device d => !devs.contains d.addr
    | .grant k _ _ _ _ => !devs.contains (k / 16)
    | _ => true }

/-- The tick of g + 1: the taken devices are carried; toggles, resets and catch-up; the record and the event (R357, R360). -/
def State.takeEffect (s : State) (t : Take) : State :=
  let s1 := foldN (fun u h => (u.coverSpur false h).hubMoved h) s t.hubs
  let devs := t.hubs.flatMap s1.spur
  let rs := devs.flatMap fun a => s1.pickKeys a sentReset
  let ins := devs.flatMap fun a => s1.pickKeys a assuredIn
  let s2 := (s1.unknow devs).editPair fun x => { x with
    resets := x.resets ++ rs.filter fun k => !x.resets.contains k
    adopt := x.adopt ++ ins.filter fun k => !x.adopt.contains k
    takeovers := x.takeovers + 1 }
  let s3 := foldN State.resetEp s2 rs
  let s4 := ins.foldl (fun u key => match s.servicePlan key with
    | some (k, phase) => u.catchUp t.lo t.g key k phase
    | none => u) s3
  ((s4.raiseCairn 7 1 (t.hubs.length * 2 ^ 16 + trigNo t.why)).bump Fd.PAR_COUNT_TAKEOVERS).setEvent 23 Fd.PAR_EVENT_TAKEOVER_DONE

/-- Takeovers at a tick: their effect after the trigger frame, and SELECT_UPSTREAM again where it has not completed. -/
def State.takesTick (s : State) : State :=
  let now := s.pair.takes
  let s1 := now.foldl (fun u t =>
    if ¬ t.live ∧ since32 s.frame t.g = 1 then u.takeEffect t else u) s
  let next := (now.map fun t => { t with live := t.live || since32 s.frame t.g == 1 }).filter fun t =>
    !(t.live && t.hubs.all t.sel.contains)
  let s2 := s1.editPair fun x => { x with takes := next }
  next.foldl (fun u t => foldN State.selectHub u (t.hubs.filter fun h => !t.sel.contains h)) s2

/-! ### Orderly handover (R363) -/

/-- A hub is served here from this tick on. -/
def State.moveIn (s : State) (h : Nat) : State :=
  let s1 := (s.coverSpur false h).hubMoved h
  let ins := (s1.spur h).flatMap fun a => s1.pickKeys a assuredIn
  (s1.unknow (s1.spur h)).editPair fun x => { x with adopt := x.adopt ++ ins.filter fun k => !x.adopt.contains k }

/-- One hub's handover at a tick: it moves, is tried again in the next frame, or stays after 8 further tries. -/
def State.moveTick (s : State) (m : Move) : State :=
  let drop := s.editPair fun x => { x with moves := x.moves.filter fun y => y.hub != m.hub }
  let again (y : Move) : Move :=
    if y.hub = m.hub then { y with target := (m.target + 1) % 2 ^ 32, tries := m.tries + 1, told := false } else y
  let stays (c : PairCmd) : PairCmd :=
    if c.hubs.contains m.hub then { c with hubs := c.hubs.filter (· != m.hub), left := c.left + 1 } else c
  if m.target = s.frame then
    if m.sel ∧ m.told then drop.moveIn m.hub
    else if m.tries < 8 then
      let s1 := s.editPair fun x => { x with moves := x.moves.map again }
      if m.sel then s1 else s1.selectHub m.hub
    else drop.editPair fun x => { x with cmds := x.cmds.map stays }
  else if since32 m.target s.frame = 1 ∧ ¬ m.sel then s.selectHub m.hub
  else s

/-- Handovers to this controller at a tick: one TAKEOVERS count, one Cairn record (R389) and one event for those that move together. (DEDUCED,
log entry 165.) -/
def State.movesTick (s : State) : State :=
  let came := s.pair.moves.filter fun m => m.target == s.frame && m.sel && m.told
  let s1 := s.pair.moves.foldl State.moveTick s
  if ¬ came.isEmpty then
    (((s1.raiseCairn 7 1 (came.length * 2 ^ 16 + trigNo .command)).bump Fd.PAR_COUNT_TAKEOVERS).editPair fun x =>
      { x with takeovers := x.takeovers + 1 }).setEvent 23 Fd.PAR_EVENT_TAKEOVER_DONE
  else s1

/-- Hubs that the partner takes at this tick (R363). -/
def State.leavingTick (s : State) : State :=
  let due := s.pair.leaving.filter fun x => decide (since32 s.frame x.2 < 2 ^ 31)
  let s1 := s.editPair fun x => { x with leaving := x.leaving.filter fun y => !due.contains y }
  let s2 := due.foldl (fun t x => ((t.coverSpur true x.1).bump Fd.PAR_COUNT_RELEASES).hubMoved x.1) s1
  if due.isEmpty then s2 else s2.setEvent 23 Fd.PAR_EVENT_RELEASE_DONE

/-- Start the handover of hubs to this controller at frame `f`: SELECT_UPSTREAM goes out in frame f - 1. -/
def State.startMoves (s : State) (hubs : List Nat) (f : Nat) : State :=
  let new := hubs.filter fun h => !s.pair.moves.any fun m => m.hub == h
  let l : List Move := new.map fun h => { hub := h, target := f, tries := 0, sel := false, told := false }
  let s1 := s.editPair fun x => { x with moves := x.moves ++ l }
  if since32 f s.frame = 1 then foldN State.selectHub s1 new else s1

/-- Bytes of the response: hubs moved, hubs not moved (R369). -/
def PairCmd.bytes (c : PairCmd) : List Byte := leBytes 2 c.moved ++ leBytes 2 c.left

/-- A pairing command ends OK. -/
def State.endPair (s : State) (c : PairCmd) : State :=
  let s1 := s.editPair fun x => { x with cmds := x.cmds.filter fun y => y.cmd != c.cmd }
  match s1.findCmd c.cmd with
  | some k => s1.okay k c.bytes
  | none => s1

/-- PAIR_PREPARE_REPLACE ends, with PARTNER at 3. -/
def State.endReplace (s : State) (c : PairCmd) : State := (s.put Fd.PAR_STATUS_PARTNER 3).endPair c

/-- The pairing commands at a tick (R369). -/
def State.pairCmdsTick (s : State) : State :=
  s.pair.cmds.foldl (fun t c0 =>
    let late := c0.op = 0x0804 ∧ since32 s.frame c0.ends < 2 ^ 31
    let c : PairCmd := if late then { c0 with hubs := [], left := c0.left + c0.hubs.length } else c0
    if ¬ c.hubs.isEmpty then t
    else if c.op ≠ 0x0805 then t.endPair c
    else if t.partner ≠ 1 then t.endReplace c
    else if c.asked then t
    else (t.tellPartner .stop false).editPair fun x => { x with cmds := x.cmds.map fun y => if y.cmd = c.cmd then { y with asked := true } else y })
    s

/-! ### Covered devices (R353 to R355) -/

/-- R354: every map entry holds a grant of this interval, phase and length. -/
def State.mirrorFits (s : State) (key k phase words : Nat) : Bool :=
  match s.dev (key / 16), s.epDesc (key / 16) (key % 16) with
  | some d, some e =>
    let q := askOf d e (key / 16) k words true (s.alloc.grants.filter fun g => g.key != key)
    s.fitsAt q (phase % 64)
  | _, _ => false

/-- A device that could be covered is not (R353). -/
def State.uncover (s : State) (a : Nat) : State :=
  let s1 := if (s.dev a).isSome then foldN (fun t b => t.removeDev 1 b) s (s.spur a) else s
  (s1.editPair fun x => { x with uncov := if x.uncov.contains a then x.uncov else x.uncov ++ [a] }).showCovered

/-- This controller's own single-homed hubs on the path to link `l` that have yet to hold a route to `a`, with the port that leads there. -/
def State.unrouted (s : State) (a : Nat) (l : LinkSel) : List (Nat × Nat) :=
  let path := s.pathOf l
  (List.range path.length).filterMap fun i =>
    let h := path.getD i 0
    match s.dev h with
    | some d =>
      let next : Nat := match path[i + 1]? with
        | some n => ((s.dev n).map (·.link.hport)).getD 0
        | none => l.hport
      if d.covered ∨ d.dual ∨ d.routes.contains (a, next) then none else some (h, next)
    | none => none

/-- Write the routes to a covered device (R353). -/
def State.routeCovered (s : State) (a : Nat) (l : LinkSel) : State :=
  (s.unrouted a l).foldl (fun t x => t.hubSet x.1 0x23 a x.2 .plain) s

/-- This controller's own link to a device of the MIRROR, with its delay and TURN (R353): below a hub that it covers, that hub's port; to a
dual-homed hub, the link on which it was found. -/
def State.ownPath (s : State) (m : MirrorDev) : Option (LinkSel × Nat × Nat) :=
  match s.dev m.hub, s.pair.placed.find? fun x => x.hub == m.addr with
  | some h, p => if h.covered then some ({ port := h.link.port, hport := m.hport, hub := m.hub }, m.delay, m.turn)
    else p.map fun x => (x.link, x.delay, x.turn)
  | none, p => p.map fun x => (x.link, x.delay, x.turn)

/-- Adopt a device from the MIRROR as covered, where its path is up and its tier, the limits and the strobe rule allow it (R146, R353). (DESIGN CHOICE, log entry 159.) -/
def State.adoptDev (s : State) (m : MirrorDev) : State :=
  let (l, delay, turn) := (s.ownPath m).getD ({ port := s.ports, hport := 0, hub := 0 }, 0, 0)
  let tier : Nat := if l.hub = 0 then 1 else ((s.dev l.hub).map (fun h => h.tier + 1)).getD 8
  let down := s.downTo l delay
  let lst := s.linkState l.port
  let ok := decide (l.port < s.ports ∧ 7 ≤ lst ∧ lst ≤ 10 ∧ m.addr ≠ 0 ∧ m.addr < 8192 ∧ tier ≤ 7 ∧ s.devices.length < s.maxDevices ∧
    (s.portDevices l.port).length < 1024 ∧ s.accBase l.port + down + 16 * 64 ≤ s.strobeOffset * 64)
  if ¬ ok then s.uncover m.addr
  else
    let d : Device :=
      { link := l, tier := tier, isHub := m.isHub, dual := m.dual, cls := m.cls, owner := s.ownerOf m.addr, down := down
        turn := turn, fwd := m.fwd, ports := m.ports, ganged := m.ganged, power := m.power, eps := m.eps, susp := false, alone := false, recov := false
        wakeEn := false, wake := false, routes := [], groups := [], covered := true }
    let ep0 : EpDesc := { num := 0, dirIn := false, typ := 0, words := 64, minK := 0, hist := 0, fmt := 0 }
    let s1 := s.putDev m.addr (some d)
    let s2 := (ep0 :: d.eps).foldl (fun t ep =>
      t.putCtxEnt (m.addr * 16 + ep.num) (some (newEnt (newCtx t d m.addr ep) 0 t.frame (decide (t.cachedCount < 32768))))) s1
    let s3 := ({ s2 with tree := { s2.tree with waiting := s2.tree.waiting.filter fun w => w.1 != l } }).editPair fun x =>
      { x with uncov := x.uncov.filter (· != m.addr) }
    ((s3.routeCovered m.addr l).countDevs.showCache).showCovered

/-- Keep what an item of the MIRROR says the partner carries. -/
def State.learn (s : State) (m : MirrorItem) : State :=
  let other : MirrorItem → Bool := match m with
    | .device d => fun
      | .device e => e.addr != d.addr
      | _ => true
    | .remove a => fun
      | .device e => e.addr != a
      | .grant k _ _ _ _ => k / 16 != a
      | _ => true
    | .grant key _ _ _ _ => fun
      | .grant k _ _ _ _ => k != key
      | _ => true
    | .release key => fun
      | .grant k _ _ _ _ => k != key
      | _ => true
    | _ => fun _ => true
  let new : List MirrorItem := match m with
    | .device _ | .grant _ _ _ _ _ => [m]
    | _ => []
  s.editPair fun x => { x with known := x.known.filter other ++ new }

/-- A device of the MIRROR: one that this controller carries is now carried by the partner; one it does not know is adopted. -/
def State.mirrorDev (s : State) (m : MirrorDev) : State :=
  let s0 := s.editPair fun x => { x with
    ups := SMap.put (fun _ => 0) m.addr m.up x.ups, pports := SMap.put (fun _ => 0) m.addr m.pport x.pports }
  match s0.dev m.addr with
  | some d => if d.covered then s0 else (s0.editDev m.addr fun x => { x with covered := true }).showCovered
  | none => s0.adoptDev m

/-- A grant of the MIRROR takes its place on this controller's maps, with a handle of its own (R353, R354). -/
def State.mirrorGrant (s : State) (key k phase words : Nat) (system : Bool) : State :=
  let a := key / 16
  match s.dev a, s.epDesc a (key % 16) with
  | some d, some e =>
    if ¬ d.covered then s
    else if ¬ s.mirrorFits key k phase words then s.uncover a
    else
      let ser := s.alloc.serial % 255 + 1
      let sea := seaOf e.dirIn s.ctrlNo a e.num
      let g : Grant :=
        { key := key, sea := sea, k := k, phase := phase, words := words, handle := ser * 2 ^ 24 + sea, system := system
          owner := d.owner, first := firstService s.frame k phase, leave := none, close := false, gone := none }
      let s1 := { s with alloc := { s.alloc with serial := ser, grants := (s.alloc.grants.filter fun (x : Grant) => x.key != key) ++ [g] } }
      let s2 := s1.editPair fun x => { x with intents := x.intents.filter fun y => y.key != key }
      (s2.editCtx key fun c => { c with k := k, phase := phase, intent := words, handle := g.handle }).showHandles
  | _, _ => s

/-- A release of the MIRROR (R200). -/
def State.mirrorRelease (s : State) (key : Nat) : State :=
  if ((s.dev (key / 16)).map (·.covered)).getD false then
    let s1 := { s with alloc := { s.alloc with grants := s.alloc.grants.filter fun g => g.key != key } }
    ((s1.editCtx key fun c => { c with handle := 0 }).closeBound key 7 7 3).showHandles
  else s

/-- STATE `st` of the carrier's context in a covered one that is in state `c`, bound or not: DISABLED, HALTED and ERROR are taken over, and
end with the carrier's; whether it is IDLE or ACTIVE is this controller's own binding. (DEDUCED, log entry 161.) -/
def mirrorState (st c : Nat) (bound : Bool) : Nat :=
  let whole (n : Nat) : Bool := n == 0 || n == 3 || n == 4
  if whole st then st else if whole c then (if bound then 2 else 1) else c

/-- The partner has removed a dual-homed hub: what was known of its place is over, and its own link waits to be enumerated (R353). -/
def State.unplace (s : State) (a : Nat) : State :=
  match s.pair.placed.find? fun x => x.hub == a with
  | some x =>
    let back := if s.tree.waiting.any fun w => w.1 == x.link then s.tree.waiting else s.tree.waiting ++ [(x.link, true, x.delay, x.turn)]
    { s with
      tree := { s.tree with waiting := back }
      pair := { s.pair with placed := s.pair.placed.filter (· != x), tried := s.pair.tried.filter fun y => y.1 != x.link } }
  | none => s

/-- One item of a MIRROR message (R355). (DEDUCED, log entry 161.) -/
def State.mirrorItem (s : State) (m : MirrorItem) : State :=
  let covered (a : Nat) : Bool := ((s.dev a).map (·.covered)).getD false
  match m with
  | .device d => (s.learn m).mirrorDev d
  | .remove a =>
    let s1 := (s.learn m).editPair fun x => { x with uncov := x.uncov.filter (· != a) }
    ((if covered a then s1.removeDev 1 a else s1).unplace a).showCovered
  | .grant key k phase words system => (s.learn m).mirrorGrant key k phase words system
  | .release key => (s.learn m).mirrorRelease key
  | .state key st =>
    if covered (key / 16) then
      s.editCtx key fun c => { c with state := mirrorState st c.state (c.entry != 0) }
    else s
  | .toggles l => l.foldl (fun t x => if covered (x.1 / 16) then t.editCtx x.1 fun c => { c with toggle := x.2 % 2 } else t) s
  | .via _ _ => s

/-- A device that the partner carries and this controller does not hold is covered once its path, the limits and the maps allow it
(R353). -/
def State.adoptKnown (s : State) (m : MirrorDev) : State :=
  if (s.dev m.addr).isSome then s
  else
    let t := s.pair.known.foldl (fun u i => match i with
      | .grant key k phase words system => if key / 16 = m.addr then u.mirrorGrant key k phase words system else u
      | _ => u) (s.adoptDev m)
    if t.pair.uncov.contains m.addr then s.uncover m.addr else t

/-- R353: the hubs of the partner's are looked for on the links of root port `p` that wait with a hub, one at a time: GET_HUB_STATUS to the
hub's address, which it answers on its other upstream port too (R142), once the routes to it stand. (DESIGN CHOICE, log entry 159.) -/
def State.probeTick (s : State) (p : Nat) : State :=
  let asking := s.xfer.ctls.any fun c => c.port == p && (match c.use with
    | .probe _ _ => true
    | _ => false)
  let next := s.tree.waiting.findSome? fun w =>
    if w.1.port = p ∧ w.2.1 ∧ ¬ s.placedOn w.1 then (s.unplaced w.1).head?.map fun a => (w.1, a) else none
  match (if asking ∨ s.partner ≠ 1 then none else next) with
  | some (l, a) =>
    (match s.unrouted a l with
      | [] => s.issueSys p a (setupWords true 1 0 0x25 0 8 0) [] (.probe l.hub l.hport)
      | (h, n) :: _ =>
        let w := setupWords false 1 0 0x23 a 0 n
        if s.xfer.ctls.any fun c => c.addr == h && c.setup == w && c.result.isNone then s else s.hubSet h 0x23 a n .plain)
  | none => s

/-- R353 at a tick. -/
def State.coverTick (s : State) : State :=
  if ¬ s.paired then s
  else
    let s1 := foldN State.probeTick (if s.partner = 1 then s else s.editPair fun x => { x with foreign := [] }) s.portList
    s1.pair.known.foldl (fun t i => match i with
      | .device m => t.adoptKnown m
      | _ => t) s1

/-- What the MIRROR tells of this controller's dual-homed devices now: devices, grants, context states. A path is the sender's
own; the hub's upstream port that leads to the partner is the other one than its own, U0 until that is known. (DESIGN CHOICE, log entry 158.) -/
def State.mirrorView (s : State) : List MirrorItem :=
  let mine := s.devices.filter fun x => !x.2.covered && s.dualHomed x.1
  let dev (x : Nat × Device) : MirrorItem :=
    let d := x.2
    .device { addr := x.1, port := d.link.port, hport := d.link.hport, hub := d.link.hub, up := 1 - SMap.get (fun _ => 0) s.pair.ups x.1, pport := d.link.port
              delay := s.ownDelay d.link d.down, turn := d.turn, isHub := d.isHub, dual := d.dual, cls := d.cls, fwd := d.fwd, ports := d.ports
              ganged := d.ganged, power := d.power, eps := d.eps }
  let addrs := mine.map (·.1)
  let grants := (s.alloc.grants.filter fun g => g.handle != 0 && addrs.contains (g.key / 16)).map fun g =>
    MirrorItem.grant g.key g.k g.phase g.words g.system
  let states := (addrs.flatMap s.devKeys).filterMap fun k => (s.ctx k).map fun c => MirrorItem.state k c.state
  mine.map dev ++ grants ++ states

/-- What a new view adds to an old one, and what it ends. (DEDUCED, log entry 160.) -/
def mirrorDiff (old new : List MirrorItem) : List MirrorItem :=
  let addrs := new.filterMap fun
    | .device d => some d.addr
    | _ => none
  let keys := new.filterMap fun
    | .grant k _ _ _ _ => some k
    | _ => none
  let ends := old.filterMap fun
    | .device d => if addrs.contains d.addr then none else some (MirrorItem.remove d.addr)
    | .grant k _ _ _ _ => if keys.contains k then none else some (MirrorItem.release k)
    | _ => none
  ends ++ new.filter fun i => !old.contains i

/-- The MIRROR of a tick (R355): changes since the last one, all of it once the partner is UP, and the toggles as of the previous tick. -/
def State.sendMirror (s : State) : State :=
  if s.paired ∧ s.partner = 1 then
    let v := s.mirrorView
    let d0 := mirrorDiff s.pair.view v
    let d := if s.pair.whole then d0.filter (fun i => !v.contains i) ++ v else d0
    let tog := v.filterMap fun
      | .state k _ => some (k, ((s.ctx k).map (·.toggle)).getD 0)
      | _ => none
    let old := s.pair.togs
    let items := d ++ (if old.isEmpty then [] else [MirrorItem.toggles old])
    let s1 := s.editPair fun x => { x with view := v, togs := tog, whole := false }
    let head := if s.partnerLinkUp then [] else [MirrorItem.via (1 - s.partnerLink) s.ctrlNo]
    if items.isEmpty then s1 else s1.tellPartner (.mirror (head ++ items)) true
  else s

/-! ### Heartbeats (R347, R356, R358) -/

/-- D: every periodic IN slot write up to it has been issued (R358). (DEDUCED, log entry 171.) -/
def State.slotD (s : State) : Nat :=
  let open' := s.xfer.slots.filter fun w => !w.hist
  match open' with
  | [] => (s.frame + 2 ^ 32 - 1) % 2 ^ 32
  | _ => (s.frame + 2 ^ 32 - 1 - open'.foldl (fun n w => max n (since32 s.frame w.sframe)) 0) % 2 ^ 32

/-- The messages of a tick: HEARTBEAT, and TIME from the active source (R347). (DEDUCED, log entry 167.) -/
def State.beatTick (s : State) : State :=
  if s.parMode = 0 then s
  else
    let hb : SaddleMsg := .heartbeat s.ctrlNo s.frame s.partner s.slotD s.pair.pfi.isSome
    let s1 := if s.pair.stopped then s else foldN (fun t l => t.sadSend l hb) s [0, 1]
    if s.isSource' ∧ ¬ s.pair.stopped then
      let tm : SaddleMsg := .time s.ctrlNo (s.time.boundary / 1000000000) (s.time.boundary % 1000000000) s.uncert s.discState
        (s.on Fd.TIM_STATUS_TIME_ESTIMATED) 0 0
      foldN (fun t l => t.sadSend l tm) s1 [0, 1]
    else s1

/-- The tick after PFI_N: the dual-homed hubs leave the plan (R365). -/
def State.pfiTick (s : State) : State :=
  match s.pair.pfi with
  | some n =>
    if s.frame ≠ n ∧ s.paired ∧ s.pair.pfiHubs.isEmpty then
      let hs := s.dualHubs false
      (foldN (fun t h => t.coverSpur true h) s hs).editPair fun x => { x with pfiHubs := hs }
    else s
  | none => s

/-- The pair's work at a tick. -/
def State.pairTick (s : State) : State :=
  let s1 := s.lateTime.editPair fun x => { x with
    out := [], heard := [], heardPrev := x.heard.map (·.2), usedTime := false, longTime := none, pfiHold := false, silent := [], spoke := [], lockLost := []
    intents := x.intents.filter fun g => since32 s.frame g.first < 2 }
  let ring := if s1.pair.heardPrev.isEmpty then s1.put Fd.PAR_STATUS_RING_CLOSED 0 else s1
  let s2 := (foldN (fun t h => t.coverSpur true h) ring ring.pair.lost).editPair fun x => { x with lost := [] }
  let s3 := (s2.takesTick.movesTick.leavingTick.pfiTick).pairCmdsTick
  let s4 := foldN State.resetEp s3 s3.pair.resets
  s4.coverTick.chooseSource.beatTick.sendMirror

/-! ### The start of Col (R359, R363) -/

/-- A link of the path to hub `h` has lost word lock in this frame, or is without it, other than in L1, L2 or on the way out of L2; of a link
below a hub that is what its hub reports, RECOVERY (R225, R359). -/
def State.pathUnlocked (s : State) (h : Nat) : Bool :=
  let l := ((s.dev h).map (·.link)).getD (rootLink 0)
  let st := s.linkState l.port
  s.pair.lockLost.contains l.port || (h :: s.pathOf l).any (fun a => s.pair.lockLost.contains (8 + a)) ||
    (!(s.lp l.port).wordLock && st != 9 && st != 10 && (s.lp l.port).kind != .l2exit) || s.pathRecovers l.port h

/-- R359: hub `h` is lost: a link of its path is without word lock, or at least 2 transactions to it and below had no answer and none had
one. (DEDUCED, log entry 172.) -/
def State.hubLost (s : State) (h : Nat) : Bool :=
  let below := s.spur h
  s.pathUnlocked h ||
    (decide (2 ≤ (s.pair.silent.filter below.contains).length) && !(s.pair.spoke.any below.contains))

/-- Declare lost hubs, and report which hubs have completed their SELECT_UPSTREAM. -/
def State.pairCol (s : State) : State :=
  if ¬ s.paired then s
  else
    let gone := (s.dualHubs false).filter fun h => s.hubLost h && !s.pair.lost.contains h
    let s1 := foldN (fun t h => t.tellPartner (.spurLost h) false) (s.editPair fun x => { x with lost := x.lost ++ gone }) gone
    let done := s1.pair.moves.filter fun m => m.sel && !m.told && since32 m.target s.frame == 1
    let told (y : Move) : Move := if y.sel ∧ since32 y.target s.frame = 1 then { y with told := true } else y
    match done with
    | [] => s1
    | m :: _ =>
      (s1.tellPartner (.handover (done.map (·.hub)) m.target) false).editPair fun x => { x with moves := x.moves.map told }

end Sys2Proof.Machine
end

