-- ==== Sys2Proof/Machine/Pair.lean ====
section
/-! DEFINITION. The ring's messages and links, and the pairing commands (14_pairing_and_systems.md, R344 to R369). -/

namespace Sys2Proof.Machine

/-! ### HEARTBEAT (R351, R356, R357) -/

/-- R351: the count of a heartbeat is compared with this controller's. On disagreement every root port is held disabled. -/
def State.checkCount (s : State) (frame : Nat) : State :=
  let s1 := s.editPair fun x => { x with ringOff := since32 frame s.frame }
  if frame % 2 ^ 32 = s.frame then s1.put Fd.PAR_STATUS_JOINED 1
  else
    let s2 := (s1.put Fd.PAR_STATUS_JOINED 0).setEvent 23 Fd.PAR_EVENT_JOIN_FAIL
    foldN (fun t p => t.putDisable p true) s2 s2.portList

/-- The partner's heartbeat: its count and D, its state, and a takeover where it carries POWER_FAIL (R356, R357). -/
def State.partnerBeat (s : State) (frame d : Nat) (pfail : Bool) : State :=
  let s1 := (s.put Fd.PAR_PARTNER_FRAME_FRAME frame).put Fd.PAR_PARTNER_D_D d
  let s2 := if frame % 2 ^ 32 = s.frame ∧ s1.partner ≠ 1 then
      ((s1.put Fd.PAR_STATUS_PARTNER 1).editPair fun x => { x with whole := true }).setEvent 23 Fd.PAR_EVENT_PARTNER_UP
    else s1
  if pfail ∧ s2.on Fd.PAR_STATUS_JOINED then s2.startTake (s2.dualHubs true) .powerFail s.frame ((d + 1) % 2 ^ 32) else s2

/-- R356: a HEARTBEAT of controller `number` arrives on Saddle link `link`; its own ends here. -/
def execSaddleHeartbeat (link number frame partner d : Nat) (pfail : Bool) (s : State) : Out :=
  if link > 1 ∨ s.parMode = 0 ∨ s.sadState link ≠ 2 ∨ number ≥ s.parCount ∨ number = s.ctrlNo then .next s
  else
    let s1 := s.editPair fun x => { x with heard := x.heard ++ [(link, number)] }
    let s2 := ((s1.forward link number (.heartbeat number frame partner d pfail)).checkCount frame).showRing
    .next (if s2.paired ∧ number = s2.partnerNo then s2.partnerBeat frame d pfail else s2)

/-- Hubs that a pending handover or a PAIR_TAKEOVER in progress names (R357, Races). -/
def State.comingHubs (s : State) : List Nat :=
  s.pair.moves.map (·.hub) ++ (s.pair.cmds.filter fun c => c.op != 0x0804).flatMap (·.hubs)

/-- R356: no copy of the partner's HEARTBEAT within 16 µs of the tick. (DEDUCED, log entry 164.) -/
def execHeartbeatMiss (s : State) : Out :=
  if ¬ s.paired ∨ (s.pair.heard.any fun x => x.2 == s.partnerNo) then .next s
  else
    let s1 := s.bump Fd.PAR_COUNT_HB_MISSED
    if s1.partner = 3 ∨ s1.partner = 2 then .next s1
    else
      let s2 := (s1.put Fd.PAR_STATUS_PARTNER 2).setEvent 23 Fd.PAR_EVENT_PARTNER_DOWN
      if s2.on Fd.PAR_CTRL_AUTO_TAKEOVER ∧ s2.on Fd.PAR_STATUS_JOINED then
        .next (s2.startTake (s2.dualHubs true) .down s.frame ((s2.get Fd.PAR_PARTNER_D_D + 1) % 2 ^ 32))
      else .next (s2.startTake s2.comingHubs .command s.frame ((s2.get Fd.PAR_PARTNER_D_D + 1) % 2 ^ 32))

/-! ### TIME (R349) -/

/-- Nanoseconds of a path delay in 1/64 wt. (DEDUCED, log entry 157.) -/
def pathNs (delay : Nat) : Int := roundDiv ((delay * 125 : Nat) : Int) 640

/-- e of R349: the stamp and the boundary as nanoseconds of SYSTIME, whose difference is taken modulo its wrap. -/
def followErr (stamp sec ns delay : Nat) : Int :=
  let w : Int := 2 ^ 32 * 1000000000
  let x := ((stamp : Int) - ((sec * 1000000000 + ns : Nat) : Int) - pathNs delay) % w
  if x > w / 2 then x - w else x

/-- R349: a TIME message of controller `source` arrives on Saddle link `link`, with the path's delay (1/64 wt) and hops, this link
included. `stamp`: this controller's own stamp of the boundary, in ns. Of two messages of one boundary that of the path with fewer hops
is used; one that has come round the longer part of the ring waits for it until the next tick. (DESIGN CHOICE, log entries 51 and 156.) -/
def execSaddleTime (link source sec ns uncert state : Nat) (est : Bool) (delay hops stamp : Nat) (s : State) : Out :=
  if link > 1 ∨ s.parMode = 0 ∨ s.sadState link ≠ 2 ∨ source = s.ctrlNo then .next s
  else
    let s1 := s.forward link source (.time source sec ns uncert state est delay hops)
    let m : TimeUse :=
      { source := source, ns := ns, uncert := uncert, state := state, est := est, hops := hops, err := followErr stamp sec ns delay }
    if ¬ s1.followsNow source then .next s1
    else if 2 * hops ≤ s1.parCount then .next (s1.useTime m)
    else .next (s1.editPair fun x => { x with longTime := some m })

/-- R349: 1.1 s without a TIME message. -/
def execTimeLoss (dt : Nat) (s : State) : Out :=
  let s1 := s.advance dt
  if s1.discState = 4 ∧ s1.time.cyc ≥ s1.pair.lastMsg + holdCyc then
    .next (((s1.editPair fun x => { x with holds := true }).setDiscState 3).setRate (rateUnits (-s1.disc.integ)) |>.occur 4 0)
  else .next s1

/-- R348: TIME_SRC0 is heard again; every controller returns to it at a whole second. -/
def execTimeSourceReturn (s : State) : Out :=
  let a := s.get Fd.PAR_CTRL_TIME_SRC0
  if s.parMode ≠ 0 ∧ s.activeSrc ≠ a ∧ s.hears a ∧ s.time.boundary % 1000000000 = 0 then .next (s.setSource a) else .next s

/-! ### MIRROR, HANDOVER, SPUR_LOST, STOP (R355, R357, R359, R363, R364) -/

/-- A MIRROR's head: the Saddle link it arrives on and its originator, the partner link and the partner where it has none. -/
def State.mirrorHead (s : State) : List MirrorItem → Nat × Nat × List MirrorItem
  | .via l n :: items => (l, n, items)
  | items => (s.partnerLink, s.partnerNo, items)

/-- R347, R355: the partner's MIRROR is applied; another pair's, on its way round the ring, goes on over the other link, but not back to its
originator. (DESIGN CHOICE, log entry 272.) -/
def execSaddleMirror (items : List MirrorItem) (s : State) : Out :=
  let (link, origin, body) := s.mirrorHead items
  if link > 1 ∨ s.parMode = 0 ∨ s.sadState link ≠ 2 ∨ origin = s.ctrlNo then .next s
  else if s.paired ∧ origin = s.partnerNo then .next (body.foldl State.mirrorItem s).sysDone
  else .next (s.forward link origin (.mirror (.via (1 - link) origin :: body)))

/-- The messages of the partner link (R345, R347): they come only while it is up. -/
def State.partnerLinked (s : State) : Bool := s.paired && s.partnerLinkUp

/-- R363: a HANDOVER of the partner. Hubs carried here that it names are those that the partner takes at frame F; covered ones are those that
its PAIR_RELEASE asks this controller to take then. (DEDUCED, log entry 165.) -/
def execSaddleHandover (hubs : List Nat) (frame : Nat) (s : State) : Out :=
  if s.partnerLinked then
    let l := (hubs.filter fun h => (s.dualHubs false).contains h).map fun h => (h, frame)
    let asked := hubs.filter fun h => (s.dualHubs true).contains h
    let f := if 1 ≤ since32 frame s.frame ∧ since32 frame s.frame < 2 ^ 31 then frame else (s.frame + 1) % 2 ^ 32
    .next ((s.editPair fun x => { x with leaving := x.leaving ++ l }).startMoves asked f)
  else .next s

/-- R357: the partner has lost hub `hub`; `late`: this frame's bulk region can no longer carry the requests. -/
def execSpurLost (hub : Nat) (late : Bool) (s : State) : Out :=
  if s.partnerLinked then
    let g := if late then (s.frame + 1) % 2 ^ 32 else s.frame
    .next (s.startTake [hub] .spurLost g ((g + 2 ^ 32 - 1) % 2 ^ 32))
  else .next s

/-- R364: the leaving controller disables its root ports, turns off port power and stops its HEARTBEAT. -/
def execSaddleStop (s : State) : Out :=
  if s.partnerLinked then
    let s1 := foldN (fun t p => (t.putDisable p true).powerOff p) s s.portList
    .next ((s1.tellPartner .stopAck false).editPair fun x => { x with stopped := true }).sysDone
  else .next s

/-! ### Saddle links (R345, R356) -/

/-- R354: the partner link is back: a device with a grant that this controller cannot fit becomes uncovered. -/
def State.rejudge (s : State) : State :=
  s.pair.known.foldl (fun t i => match i with
    | .grant key k phase words _ =>
      if ((t.dev (key / 16)).map (·.covered)).getD false ∧ ¬ t.mirrorFits key k phase words then t.uncover (key / 16) else t
    | _ => t) s

/-- R345: a link has trained; its far end's announcement decides its STATE. -/
def execSaddleLinkUp (link number count mode delay : Nat) (s : State) : Out :=
  if link > 1 ∨ s.parMode = 0 ∨ ¬ s.phyOn then .next s
  else
    let s1 := s.put (if link = 0 then Fd.PAR_LINK0_NEIGHBOUR else Fd.PAR_LINK1_NEIGHBOUR) number
    if count ≠ s.parCount ∨ mode ≠ s.parMode ∨ number ≠ s.wantNeighbour link then
      .next ((s1.setSad link 3).setEvent 23 Fd.PAR_EVENT_NUMBER_ERR)
    else
      let s2 := (s1.put (if link = 0 then Fd.PAR_LINK0_DELAY else Fd.PAR_LINK1_DELAY) delay).setSad link 2
      .next (if s2.paired ∧ link = s2.partnerLink ∧ ¬ s.partnerLinkUp then s2.rejudge else s2)

/-- R356: a link is lost. While heartbeats arrive the other way there is no takeover. -/
def execSaddleLinkDown (link : Nat) (s : State) : Out :=
  if link > 1 ∨ s.sadState link = 0 then .next s else .next ((s.setSad link 4).put Fd.PAR_STATUS_RING_CLOSED 0)

/-! ### Judging the partner's intent (R354) -/

/-- R354: the intent is judged on this controller's maps for its own path, and the verdict is sent. An admitted one charges the
maps until the MIRROR brings the grant. For a device that it does not cover it has no objection. -/
def execPartnerAllocRequest (key k words : Nat) (modify : Bool) (s : State) : Out :=
  if ¬ s.partnerLinked then .next s
  else
    let a := key / 16
    let gs := (s.alloc.grants ++ s.pair.intents).filter fun (g : Grant) => ¬ (modify && g.key == key)
    match (s.dev a).filter (·.covered), s.epDesc a (key % 16) with
    | some d, some e =>
      let sea := seaOf e.dirIn s.ctrlNo a e.num
      let q := s.admitAsk { AllocReq.empty 1 sea with k := k } (askOf d e a k words false gs) e.words 0 false
      let s1 := s.tellPartner (.verdict key q.result q.refusal q.bwhat q.blink q.bport q.baddr q.altK q.altWords) false
      let g : Grant :=
        { key := key, sea := sea, k := q.k, phase := q.phase, words := words, handle := 0, system := false, owner := d.owner
          first := s.frame, leave := none, close := false, gone := none }
      if q.result = 0 then .next (s1.editPair fun x => { x with intents := x.intents ++ [g] }) else .next s1
    | _, _ => .next (s.tellPartner (.verdict key 0 0 0 0 0 0 0xF 0) false)

/-! ### Commands (R369) -/

/-- Highest device address of the part (R352; DEDUCED for the 4K part, log entry 52). -/
def State.topAddr (s : State) : Nat := match s.part with
  | .k8 => 8191
  | .k4 => 4095

/-- The default window of R352. -/
def State.defaultWindow (s : State) (mode : Nat) : Nat × Nat :=
  let half := (s.topAddr + 1) / 2
  if mode = 2 then (if s.ctrlNo % 2 = 0 then (1, half - 1) else (half, s.topAddr)) else (1, 8191)

def Cmd.window (c : Cmd) (s : State) : Nat × Nat := if c.u 6 2 = 0 then s.defaultWindow (c.u 0 1) else (c.u 6 2, c.u 8 2)

/-- COUNT does not suit MODE (R344). -/
def badCount (mode count : Nat) : Bool :=
  match mode with
  | 0 => count != 1
  | 1 => decide (count < 2 ∨ count > 64)
  | _ => decide (count < 2 ∨ count > 64 ∨ count % 2 = 1)

/-- The settings of PAIR_CONFIGURE take effect; `keep`: they return after a warm reset, over which the loop keeps its state and its source
(R86). A link is off in MODE 0 and trains again where its announcement has changed. -/
def State.configurePair (s : State) (c : Cmd) (keep : Bool) : State :=
  let mode := c.u 0 1
  let count := c.u 1 1
  let w := c.window s
  let again := mode ≠ s.parMode ∨ count ≠ s.parCount
  let s1 := (((s.put Fd.PAR_CTRL_MODE mode).put Fd.PAR_CTRL_COUNT count).put Fd.PAR_CTRL_TIME_SRC0 (c.u 2 1)).put
    Fd.PAR_CTRL_TIME_SRC1 (c.u 3 1)
  let s2 := (s1.put Fd.PAR_CTRL_AUTO_TAKEOVER (c.u 4 1 % 2)).put Fd.PAR_CTRL_JOIN (c.u 4 1 / 2 % 2)
  let s3 := (s2.put Fd.SCH_ADDR_WINDOW_LO w.1).put Fd.SCH_ADDR_WINDOW_HI w.2
  let s4 := if again then foldN (fun t l => t.setSad l (if mode = 0 ∨ ¬ s3.phyOn then 0 else 1)) s3 [0, 1] else s3
  let s5 := (s4.put Fd.PAR_STATUS_JOIN_READY 0).editPair fun x =>
    if again then { x with joinRun := 0, known := [], placed := [], tried := [], foreign := [] } else { x with joinRun := 0 }
  let s6 := if mode = 2 then s5 else (s5.put Fd.PAR_STATUS_PARTNER 0)
  if mode = 0 then
    (((((s6.put Fd.PAR_STATUS_SOURCE 0).put Fd.PAR_STATUS_ACTIVE_SRC 0).put Fd.PAR_STATUS_JOINED 0).put
      Fd.PAR_STATUS_RING_CLOSED 0).leaveFollow)
  else if again ∧ ¬ keep then s6.setSource (c.u 2 1) else s6

/-- (DESIGN CHOICE, log entry 169.) -/
def execPairConfigure (id : Nat) (s : State) : Out :=
  .next (s.run id 0x0800 fun c =>
    let n := s.parCount
    let w := c.window s
    let mode := c.u 0 1
    let devs := s.get Fd.TRE_STATUS_DEVICES ≠ 0
    let change := mode ≠ s.parMode ∨ c.u 1 1 ≠ n ∨ w ≠ (s.get Fd.SCH_ADDR_WINDOW_LO, s.get Fd.SCH_ADDR_WINDOW_HI)
    let join := c.u 4 1 / 2 % 2 = 1
    s.judged c [(decide (mode > 2), ST.invalid, 0),
        (badCount mode (c.u 1 1), ST.invalid, 1),
        (decide (s.ctrlNo ≥ c.u 1 1 ∨ c.u 2 1 ≥ c.u 1 1 ∨ c.u 3 1 ≥ c.u 1 1), ST.invalid, 2),
        (decide (w.1 > w.2 ∨ (c.u 6 2 ≠ 0 ∧ c.u 8 2 > s.topAddr)), ST.invalid, 3),
        (decide (devs ∧ change), ST.denied, 1),
        (decide (join ∧ (mode = 0 ∨ devs ∨ s.isSource' = true)), ST.denied, 2)]
      (((s.configurePair c false).editPair fun x => { x with saved := some c.req }).okay c []))

/-- The 24 bytes of PAIR_GET_STATUS. -/
def State.pairBytes (s : State) : List Byte :=
  let flags := s.get Fd.PAR_STATUS_JOINED + 2 * s.get Fd.PAR_STATUS_JOIN_READY + 4 * s.get Fd.PAR_STATUS_RING_CLOSED +
    8 * s.get Fd.PAR_STATUS_SOURCE
  let carried := (s.devices.filter fun x => !x.2.covered).length
  leBytes 1 s.parMode ++ leBytes 1 s.ctrlNo ++ leBytes 1 s.parCount ++ leBytes 1 s.partner ++ leBytes 1 s.activeSrc ++
    leBytes 1 (s.get Fd.PAR_TIME_HOPS) ++ leBytes 1 flags ++ zeros 1 ++ leBytes 2 carried ++
    leBytes 2 (s.get Fd.PAR_DEVICES_COVERED) ++ leBytes 2 (s.get Fd.PAR_DEVICES_UNCOVERED) ++ leBytes 1 (s.sadState 0) ++
    leBytes 1 (s.sadState 1) ++ leBytes 4 (s.get Fd.PAR_PARTNER_FRAME_FRAME) ++ leBytes 2 (min s.pair.takeovers 0xFFFF) ++
    leBytes 2 (min s.pair.lostAll 0xFFFF)

def execPairGetStatus (id : Nat) (s : State) : Out := .next (s.run id 0x0801 fun c => s.okay c s.pairBytes)

/-- The number is the controller field of every SEA (R345): those of the contexts, of the bound entries, and of the placements and their
handles follow. (DEDUCED, log entry 168.) -/
def State.renumber (s : State) (n : Nat) : State :=
  let s1 := s.put Fd.PAR_CTRL_NUMBER n
  let sea (v : Nat) : Nat := seaOf (seaDir v) n (seaAddr v) (seaEp v)
  let handle (h : Nat) : Nat := if h = 0 then 0 else h / 2 ^ 24 * 2 ^ 24 + sea (h % 2 ^ 24)
  let s2 := foldN (fun t k => t.editCtx k fun c => { c with sea := sea c.sea, handle := handle c.handle }) s1 (SMap.keys s1.pager.ctxs)
  let entry (x : Option Entry) : Option Entry := x.map fun e => if e.kind = 0 then e else { e with sea := sea e.sea }
  { s2 with
    rings := { s2.rings with tab := SMap.map (fun _ => none) (fun _ x => entry x) s2.rings.tab }
    alloc := { s2.alloc with grants := s2.alloc.grants.map fun g => { g with sea := sea g.sea, handle := handle g.handle } } }

def execPairSetNumber (id : Nat) (s : State) : Out :=
  .next (s.run id 0x0802 fun c =>
    s.judged c [(decide (c.u 0 1 > 63), ST.invalid, 0), (s.sadState 0 == 2 || s.sadState 1 == 2, ST.denied, 1)]
      (((s.renumber (c.u 0 1)).editPair fun x => { x with savedNo := some (c.u 0 1) }).okay c []))

/-- The home of a hub is the controller whose window holds its address (R363). (DEDUCED, log entry 166.) -/
def State.homeHere (s : State) (h : Nat) : Bool :=
  decide (s.get Fd.SCH_ADDR_WINDOW_LO ≤ h ∧ h ≤ s.get Fd.SCH_ADDR_WINDOW_HI)

/-- Hubs that a takeover (`take`) or a release may name. -/
def State.movable (s : State) (take : Bool) : List Nat :=
  if take then s.dualHubs true else (s.dualHubs false).filter fun h => !s.homeHere h

/-- Hubs that SCOPE, PORT_MASK and HUB_ADDR name (R369). -/
def State.scopeHubs (s : State) (c : Cmd) (take : Bool) : List Nat :=
  match c.u 0 1 with
  | 0 => s.movable take
  | 1 => (s.movable take).filter fun h => bitAt (c.u 1 1) (SMap.get (fun _ => 0) s.pair.pports h)
  | _ => (s.movable take).filter (· == c.u 2 2)

/-- Rules of PAIR_TAKEOVER and PAIR_RELEASE (R369). -/
def State.scopeRules (s : State) (c : Cmd) (take : Bool) : List (Bool × Nat × Nat) :=
  [(decide (c.u 0 1 > 2) || (c.u 0 1 == 2 && (s.scopeHubs c take).isEmpty), ST.invalid, 0),
   (!s.paired, ST.denied, 1), (s.partner == 1 && !s.partnerLinkUp, ST.denied, 2),
   (!take && (s.partner != 1 || !s.on Fd.PAR_STATUS_JOINED), ST.denied, 3)]

/-- The target frame of a handover command: EFFECT_FRAME, or the second frame after the take; and the frame before it, in which
SELECT_UPSTREAM is sent (R363). -/
def Cmd.moveFrame (c : Cmd) : Nat := c.target.getD ((c.takeFrame + 2) % 2 ^ 32)

def State.pairPending (s : State) (c : Cmd) (hubs : List Nat) : State :=
  let p : PairCmd :=
    { cmd := c.id, op := c.opcode, hubs := hubs, moved := 0, left := 0, ends := (c.moveFrame + 9) % 2 ^ 32, asked := false }
  (s.goPending c c.moveFrame).editPair fun x => { x with cmds := x.cmds ++ [p] }

/-- None of a command's hubs moves. -/
def State.dropHubs (s : State) (id : Nat) : State :=
  s.editPair fun x => { x with cmds := x.cmds.map fun p => if p.cmd = id then { p with hubs := [], left := p.left + p.hubs.length } else p }

/-- Take hubs over: by handover while the partner is UP, at once where it is DOWN (R357, R363), unless this controller has not joined
(R351). -/
def State.takeHubs (s : State) (c : Cmd) (hubs : List Nat) : State :=
  let s1 := s.pairPending c hubs
  if s.partner = 1 then s1.startMoves hubs c.moveFrame
  else if ¬ s.on Fd.PAR_STATUS_JOINED then s1.dropHubs c.id
  else s1.startTake hubs .command s.frame ((s.get Fd.PAR_PARTNER_D_D + 1) % 2 ^ 32)

def execPairTakeover (id : Nat) (s : State) : Out :=
  .next (s.runNow id 0x0803 fun c =>
    if s.partner = 1 ∧ since32 c.moveFrame s.frame ≠ 1 then s
    else s.judged c (s.scopeRules c true) (s.takeHubs c (s.scopeHubs c true)))

/-- PAIR_RELEASE asks the partner to take the hubs; its HANDOVER names those that move. (DEDUCED, log entry 165.) -/
def execPairRelease (id : Nat) (s : State) : Out :=
  .next (s.runNow id 0x0804 fun c =>
    if since32 c.moveFrame s.frame ≠ 1 then s
    else s.judged c (s.scopeRules c false)
      ((s.pairPending c (s.scopeHubs c false)).tellPartner (.release (s.scopeHubs c false) c.moveFrame) false))

/-- PAIR_PREPARE_REPLACE: step 1 of the replacement procedure (R364). -/
def execPairPrepareReplace (id : Nat) (s : State) : Out :=
  .next (s.runNow id 0x0805 fun c =>
    if s.partner = 1 ∧ since32 c.moveFrame s.frame ≠ 1 then s
    else s.judged c [(!s.paired, ST.denied, 1)] (s.takeHubs c (s.dualHubs true)))

/-- The partner has acknowledged STOP (R369). -/
def State.outcomeReplace (s : State) (c : Cmd) : State :=
  match s.pair.cmds.find? fun p => p.cmd == c.id with
  | some p => if p.asked then s.endReplace p else s
  | none => s

end Sys2Proof.Machine
end

