-- ==== Sys2Proof/Machine/Cairn.lean ====
section
/-! DEFINITION. The Cairn recorder's writes, freeze, clear and commands (16_cairn_recorder.md). Operands `r1 r2`, `h1 h2`,
`l1 l2` are the outcomes of the read-backs: the first and the second try of the record, of the header, and of the
media-fault log (R394). -/

namespace Sys2Proof.Machine

/-- First byte of ring slot `i`, of log slot `i` and of header copy `c` (R385). -/
def ringAddr (i : Nat) : Nat := 0x2000 + i * 32
def logAddr (i : Nat) : Nat := 0x1000 + i * 32
def hdrAddr (c : Nat) : Nat := c * 0x800

/-- The 32 bytes of a record with its SEQ (R388). -/
def recBytes (q : Nat) (r : CairnRec) : List Byte :=
  let body := leBytes 4 q ++ leBytes 4 (r.kind * 2 ^ 24 + r.code * 2 ^ 16 + r.rpt) ++ leBytes 4 r.arg ++ leBytes 4 r.frame ++
    leBytes 4 r.sec ++ leBytes 4 (r.us * 2 ^ 12 + b2n r.est * 2 ^ 11 + b2n r.held * 2 ^ 10) ++ leBytes 4 (r.power * 2 ^ 8)
  body ++ leBytes 4 (crc32c body)

def mramWrite (c : Cairn) (a : Nat) (bs : List Byte) : Cairn := { c with mram := Memory.write zeroByte c.mram a bs }
def mramRead (c : Cairn) (a n : Nat) : List Byte := Memory.read zeroByte c.mram a n

/-- The 36 bytes of a header copy (R386). -/
def hdrBytes (c : Cairn) (upd : Nat) : List Byte :=
  let body := leBytes 4 0x4E524143 ++ leBytes 4 upd ++ leBytes 4 c.powerCycles ++ leBytes 4 c.opSec ++ leBytes 4 c.lastSeq ++
    leBytes 2 c.next ++ leBytes 2 (b2n c.media + 2 * b2n c.wrapped) ++ leBytes 4 c.clears ++ leBytes 4 c.logNext
  body ++ leBytes 4 (crc32c body)

/-- Write the header to the copy that is not current, UPDATE one greater (R386). -/
def hdrWrite (c : Cairn) : Cairn :=
  let upd := (c.update + 1) % 2 ^ 32
  { mramWrite c (hdrAddr (1 - c.copy)) (hdrBytes c upd) with update := upd, copy := 1 - c.copy, hdrAt := c.opSec }

/-- What a slot of `n` bytes holds after both tries of its write have failed is open. -/
def State.cairnTorn (s : State) (a n : Nat) : State :=
  { s with
    cairn := mramWrite s.cairn a ((List.range n).map fun i => Config.mramTorn s.fw.fresh (a + i))
    fw := { s.fw with fresh := s.fw.fresh + 1 } }

/-- Count the failed read-backs of one place: 1 ring, 2 header, 3 media-fault log (CRN_MEDIA). -/
def State.mediaCount (s : State) (place slot fails : Nat) : State :=
  if fails = 0 then s
  else
    let s1 := ((s.bump Fd.CRN_MEDIA_FAILURES fails).put Fd.CRN_MEDIA_WHERE place).put Fd.CRN_MEDIA_SLOT slot
    if fails < 2 then s1
    else match place with
      | 1 => s1.cairnTorn (ringAddr slot) 32
      | 2 => s1.cairnTorn (hdrAddr slot) 36
      | _ => s1.cairnTorn (logAddr slot) 32

/-- Failed tries of a write whose first and second read-backs are given. -/
def fails (a b : Bool) : Nat := if a then 0 else if b then 1 else 2

/-- The holding queue's head was raised before the commit queue's (R390). -/
def Cairn.holdFirst (c : Cairn) : Bool :=
  match c.hold, c.queue with
  | h :: _, q :: _ => decide (h.1.ord ≤ q.1.ord)
  | _ :: _, [] => true
  | [], _ => false

/-- The record that is written next. -/
def Cairn.nextRecord (c : Cairn) : Option CairnRec := ((if c.holdFirst then c.hold else c.queue).head?).map (·.1)

/-- When room returns in the commit queue, a LOST record with the number dropped (R390). -/
def State.cairnRoom (s : State) : State :=
  if s.cairn.lostRun > 0 ∧ s.cairn.queue.length < 16 then
    let (t, r) := s.cairnOrder (s.cairnRec 0 3 s.cairn.lostRun)
    { t with cairn := { t.cairn with queue := t.cairn.queue ++ [(r, s.frame)], lostRun := 0 } }
  else s

/-- After the holding queue has drained, a HOLD_OVERFLOW record with the number dropped, before any record raised later
(R392). -/
def State.cairnDrained (s : State) : State :=
  if s.cairn.hold.isEmpty then
    let s1 := { s with cairn := { s.cairn with draining := false } }
    if s1.cairn.holdLost > 0 then
      let r := s1.cairnRec 0 4 s1.cairn.holdLost
      { s1 with cairn := { s1.cairn with queue := (r, s.frame) :: s1.cairn.queue, holdLost := 0 } }
    else s1
  else s

/-- The two queues in the order of the raises. -/
def mergeQueues (hold queue : List (CairnRec × Nat)) : List (CairnRec × Nat) :=
  hold.foldl (fun l x => (l.takeWhile fun y => decide (y.1.ord < x.1.ord)) ++ x :: (l.dropWhile fun y => decide (y.1.ord < x.1.ord))) queue

/-- Records waiting to be written go to the shadow ring in order, with the counts of those dropped (R390, R392, R394, Races). -/
def State.cairnDivert (s : State) : State :=
  let l := (mergeQueues s.cairn.hold s.cairn.queue).map (·.1)
  let drained := !s.cairn.hold.isEmpty || s.cairn.draining
  let s1 := { s with cairn := { s.cairn with hold := [], queue := [] } }
  let s2 := l.foldl (fun t r => t.cairnShadow r) s1
  let s3 := if drained then s2.cairnDrained.cairnRoom else s2.cairnRoom
  let rest := s3.cairn.queue.map (·.1)
  rest.foldl (fun t r => t.cairnShadow r) { s3 with cairn := { s3.cairn with queue := [] } }

/-- A media fault at `place` (1 ring, 2 header) and `slot` (R394). `hdr`: the read-backs of the header that then takes MEDIA_FAULT, where the
header can still be written. -/
def State.cairnMediaFault (s : State) (place slot : Nat) (hdr : Option (Bool × Bool)) (l1 l2 : Bool) : State :=
  let r := s.cairnRec 0 2 (place * 2 ^ 28 + slot)
  let s1 := { s with cairn := { s.cairn with media := true } }
  let s3 := (s1.setEvent 25 Fd.CRN_EVENT_MEDIA_FAULT).cairnShadow r
  let s4 := s3.mediaCount 3 s3.cairn.logNext (fails l1 l2)
  let s5 :=
    if l1 ∨ l2 then
      let c := mramWrite s4.cairn (logAddr s4.cairn.logNext) (recBytes s4.cairn.lastSeq r)
      { s4 with cairn := { c with logNext := (c.logNext + 1) % 128 } }
    else s4
  let s6 := s5.cairnDivert
  match hdr with
  | some (h1, h2) =>
    let s7 := s6.mediaCount 2 (1 - s6.cairn.copy) (fails h1 h2)
    if h1 ∨ h2 then { s7 with cairn := hdrWrite s7.cairn } else s7
  | none => s6

/-- Write one record to slot NEXT with its header (R390). `latest` is the frame of its latest merged occurrence. The
second component says whether the record's write passed its read-back. -/
def State.cairnWrite (s : State) (r : CairnRec) (latest : Nat) (r1 r2 h1 h2 l1 l2 : Bool) : State × Bool :=
  let slot := s.cairn.next
  let s0 := s.mediaCount 1 slot (fails r1 r2)
  if r1 ∨ r2 then
    let q := (s.cairn.lastSeq + 1) % 2 ^ 32
    let c1 := mramWrite s0.cairn (ringAddr slot) (recBytes q r)
    let last : CairnLast := { record := r, seq := q, slot := slot, latest := latest, rewrote := s.frame, dirty := false }
    let c2 := { c1 with
      lastSeq := q, next := (slot + 1) % 7936, wrapped := c1.wrapped || slot + 1 == 7936, last := some last }
    let s1 := ({ s0 with cairn := c2 }).mediaCount 2 (1 - c2.copy) (fails h1 h2)
    let none_ := s1.cairn.hold.isEmpty && s1.cairn.queue.isEmpty
    if h1 ∨ h2 then ({ s1 with cairn := { hdrWrite s1.cairn with flush := s1.cairn.flush && !none_ } }, true)
    else (s1.cairnMediaFault 2 (1 - c2.copy) none l1 l2, true)
  else (s0, false)

/-- Rewrite the newest record in place with its REPEAT (R391). `hdr`: the read-backs of a header that a media fault has written. -/
def State.cairnRewrite (s : State) (r1 r2 : Bool) (hdr : Bool × Bool) (l1 l2 : Bool) : State :=
  match s.cairn.last with
  | some l =>
    let s0 := s.mediaCount 1 l.slot (fails r1 r2)
    if r1 ∨ r2 then
      let c := mramWrite s0.cairn (ringAddr l.slot) (recBytes l.seq l.record)
      { s0 with cairn := { c with last := some { l with dirty := false, rewrote := s.frame } } }
    else s0.cairnMediaFault 1 l.slot (some hdr) l1 l2
  | none => s

/-- The newest record waits for a rewrite. -/
def State.rewriteDue (s : State) : Bool :=
  match s.cairn.last with
  | some l => l.dirty
  | none => false

/-- The CLEAR record of a finished clear has been written (R396): the held records follow, to the shadow ring after a media fault, and the command
ends; FAULT with DETAIL 1 where the CLEAR record could not go to the ring. (DESIGN CHOICE for a failed write of it, log entry 276.) -/
def State.cairnCleared (s : State) (k : CairnClear) (bad : Bool) : State :=
  let s1 := { s with cairn := { s.cairn with clearing := none, draining := true } }
  let s2 := (if s1.cairn.media then s1.cairnDivert else s1.cairnDrained).setEvent 25 Fd.CRN_EVENT_CLEARED
  match s2.findCmd k.cmd with
  | some c => if bad then s2.finish c ST.fault 1 [] else s2.okay c []
  | none => s2

/-- Write the header alone (R387). -/
def State.cairnHeader (s : State) (h1 h2 l1 l2 : Bool) : State :=
  let s1 := s.mediaCount 2 (1 - s.cairn.copy) (fails h1 h2)
  if h1 ∨ h2 then { s1 with cairn := { hdrWrite s1.cairn with flush := false } }
  else { s1 with cairn := { s1.cairn with flush := false } }.cairnMediaFault 2 (1 - s.cairn.copy) none l1 l2

/-- R390: the next record in order is written: the CLEAR record of a clear, the pending rewrite, then the records of the two queues in the
order in which they were raised; after PFI_N the pending rewrite and the header in any case (R393). Nothing is written while Cairn is frozen,
or while a clear still erases. -/
def execCairnRecordWrite (r1 r2 h1 h2 l1 l2 : Bool) (s : State) : Out :=
  if s.cairn.frozenAt.isSome then .next s
  else match s.cairn.clearing with
    | some k =>
      if ¬ k.erased then .next s
      else
        let r := s.cairnRec 0 1 (k.scope + k.keySlot * 2 ^ 8)
        if k.failed then .next (((s.cairnShadow r).cairnHeader h1 h2 l1 l2).cairnCleared k true)
        else
          let (s1, good) := s.cairnWrite r s.frame r1 r2 h1 h2 l1 l2
          if good then .next (s1.cairnCleared k false)
          else .next (((s1.cairnShadow r).cairnMediaFault 1 s.cairn.next (some (h1, h2)) l1 l2).cairnCleared k true)
    | none =>
      let waits := !(s.cairn.hold.isEmpty && s.cairn.queue.isEmpty)
      if s.cairn.media ∧ waits then .next s.cairnDivert
      else if s.rewriteDue ∧ (waits ∨ s.cairn.flush) then .next (s.cairnRewrite r1 r2 (h1, h2) l1 l2)
      else match (if s.cairn.holdFirst then s.cairn.hold else []), s.cairn.queue with
        | (r, t) :: rest, _ =>
          let (s1, good) := ({ s with cairn := { s.cairn with hold := rest } }).cairnWrite r t r1 r2 h1 h2 l1 l2
          if good then .next s1.cairnDrained
          else .next (({ s1 with cairn := { s1.cairn with hold := (r, t) :: rest } }).cairnMediaFault 1 s.cairn.next (some (h1, h2)) l1 l2)
        | [], (r, t) :: rest =>
          let (s1, good) := ({ s with cairn := { s.cairn with queue := rest } }).cairnWrite r t r1 r2 h1 h2 l1 l2
          if good then .next s1.cairnRoom
          else .next (({ s1 with cairn := { s1.cairn with queue := (r, t) :: rest } }).cairnMediaFault 1 s.cairn.next (some (h1, h2)) l1 l2)
        | [], [] => .next (if s.cairn.flush then s.cairnHeader h1 h2 l1 l2 else s)

/-- R391: 1,024 frames after its last rewrite, the newest merged record is rewritten. -/
def execMergeRewrite (r1 r2 l1 l2 : Bool) (s : State) : Out :=
  match s.cairn.last with
  | some l =>
    if l.dirty ∧ since32 s.frame l.rewrote ≥ 1024 ∧ s.cairn.frozenAt.isNone ∧ s.cairn.clearing.isNone ∧ ¬ s.cairn.media then
      .next (s.cairnRewrite r1 r2 (true, true) l1 l2)
    else .next s
  | none => .next s

/-- R387: the header is written, after a media fault too. -/
def execHeaderRefresh (h1 h2 l1 l2 : Bool) (s : State) : Out :=
  if s.cairn.frozenAt.isSome ∨ s.cairn.clearing.isSome then .next s else .next (s.cairnHeader h1 h2 l1 l2)

/-- End a freeze; the holding queue drains (R392), to the shadow ring after a media fault (R394). -/
def State.endFreeze (s : State) : State :=
  if s.cairn.frozenAt.isSome then
    let s1 := { s with cairn := { s.cairn with frozenAt := none, draining := true } }
    if s1.cairn.media then s1.cairnDivert else s1.cairnDrained
  else s

/-- R392: the freeze ends by itself 65,536 frames after the latest freeze or read. -/
def execFreezeExpiry (s : State) : Out :=
  match s.cairn.frozenAt with
  | some f => if since32 s.frame f ≥ 65536 then .next (s.endFreeze.setEvent 25 Fd.CRN_EVENT_FREEZE_EXPIRED) else .next s
  | none => .next s

/-- At the stamp of PFI_N (R393): the freeze ends, reads in progress end FAULT with DETAIL 2, the holding queue goes before the commit
queue, the POWER_FAIL record is raised, and what is pending goes out with the header (R387). -/
def State.cairnPowerFail (s : State) : State :=
  let s1 := s.opSecTick.endFreeze
  let s2 := s1.cairn.reads.foldl (fun t x => match t.findCmd x.1 with
    | some c => t.finish c ST.fault 2 []
    | none => t) s1
  let first (x : CairnRec × Nat) : CairnRec × Nat := ({ x.1 with ord := 0 }, x.2)
  ({ s2 with cairn := { s2.cairn with reads := [], flush := true, hold := s2.cairn.hold.map first } }).raiseCairn 0 5 0

/-! ### Loading at boot (R386, R393) -/

def cairnHdrValid (c : Cairn) (k : Nat) : Bool :=
  leNat (mramRead c (hdrAddr k) 4) == 0x4E524143 && leNat (mramRead c (hdrAddr k + 0x20) 4) == crc32c (mramRead c (hdrAddr k) 0x20)

/-- The current header copy (R386). -/
def cairnHdrCopy (c : Cairn) : Option Nat :=
  let upd (k : Nat) : Nat := leNat (mramRead c (hdrAddr k + 4) 4)
  match cairnHdrValid c 0, cairnHdrValid c 1 with
  | true, true => if newer (upd 1) (upd 0) then some 1 else some 0
  | true, false => some 0
  | false, true => some 1
  | false, false => none

/-- Take the counters from the current header; a part whose header was never written starts at 0. -/
def cairnLoad (c : Cairn) : Cairn :=
  match cairnHdrCopy c with
  | some k =>
    let n (o w : Nat) : Nat := leNat (mramRead c (hdrAddr k + o) w)
    { c with
      copy := k, update := n 4 4, powerCycles := n 8 4, opSec := n 0x0C 4, hdrAt := n 0x0C 4, lastSeq := n 0x10 4
      next := n 0x14 2, media := bitAt (n 0x16 2) 0, wrapped := bitAt (n 0x16 2) 1, clears := n 0x18 4
      logNext := n 0x1C 4, last := none }
  | none => c

/-- A record slot's bytes are valid. -/
def recValid (b : List Byte) : Bool := leAt b 28 4 == crc32c (slice b 0 28)

/-- R393: a valid record at slot NEXT with SEQ = LAST_SEQ + 1 counts as written, and the header is updated. -/
def cairnRepair (c : Cairn) : Cairn :=
  let b := mramRead c (ringAddr c.next) 32
  if recValid b ∧ leAt b 0 4 = (c.lastSeq + 1) % 2 ^ 32 then
    hdrWrite { c with lastSeq := (c.lastSeq + 1) % 2 ^ 32, next := (c.next + 1) % 7936, wrapped := c.wrapped || c.next + 1 == 7936 }
  else c

/-- MEDIA_FAULT is sticky (R394): where the header could not take it, the shadow ring, which only a media fault writes, tells it, and where the
SEQ numbers stand. -/
def cairnSticky (c : Cairn) : Cairn :=
  match (if c.undef then none else c.shadow.getLast?) with
  | some (q, _) => { c with media := true, lastSeq := q }
  | none => c

/-- Cairn at a boot: after a cold reset the header is read and a torn record repaired; at others Cairn goes on from where it stood (DESIGN
CHOICE, log entry 277). POWER_CYCLES counts a power-on, the freeze and a clear are forgotten, and a surviving holding queue drains (R387, R392,
R393). -/
def cairnBoot (c : Cairn) (cold powerOn : Bool) : Cairn :=
  let c1 := if cold then cairnSticky (cairnRepair (cairnLoad c)) else c
  { c1 with
    powerCycles := if cold && powerOn then (c1.powerCycles + 1) % 2 ^ 32 else c1.powerCycles
    frozenAt := none, clearing := none, reads := [], draining := !c1.hold.isEmpty }

/-! ### Commands (R398) -/

/-- SEQ of the oldest record in the ring, 0 if it is empty. -/
def cairnOldest (c : Cairn) : Nat := leNat (mramRead c (ringAddr (if c.wrapped then c.next else 0)) 4)

def execCrnGetInfo (id : Nat) (s : State) : Out :=
  .next (s.run id 0x0A00 fun k =>
    let c := s.cairn
    s.okay k (leBytes 4 c.lastSeq ++ leBytes 4 (cairnOldest c) ++ leBytes 4 c.powerCycles ++ leBytes 4 c.opSec ++
      leBytes 4 c.clears ++
      leBytes 1 (b2n c.media + 2 * b2n c.frozenAt.isSome + 4 * b2n c.wrapped + 8 * b2n c.clearing.isSome) ++
      leBytes 1 c.hold.length ++ leBytes 1 c.shadow.length ++ zeros 1 ++ leBytes 2 (min c.lostAll 0xFFFF) ++
      leBytes 2 (min c.holdAll 0xFFFF) ++ zeros 4))

/-- CRN_FREEZE stops every MRAM write from this tick, after the pending rewrite (R391, R392), or renews the freeze. Records raised in its own core
cycle go to the holding queue (Races). -/
def execCrnFreeze (id : Nat) (s : State) : Out :=
  .next (s.run id 0x0A01 fun k =>
    s.judged k [(s.cairn.clearing.isSome, ST.denied, 1)]
      (let s1 := if s.rewriteDue ∧ s.cairn.frozenAt.isNone then s.cairnRewrite true true (true, true) true true else s
       let c := s1.cairn
       let now (x : CairnRec × Nat) : Bool := c.cycle.1 == s.time.cyc && decide (c.cycle.2 ≤ x.1.ord)
       let s2 := { s1 with cairn := { c with
            frozenAt := some s.frame, draining := false, queue := if c.frozenAt.isNone then c.queue.filter (fun x => !now x) else c.queue } }
       ((if c.frozenAt.isNone then c.queue.filter now else []).foldl (fun t x => t.cairnHold x.1 x.2) s2).okay k []))

/-- CRN_READ begins (R395): PENDING, with LAST_SEQ at take; under a freeze it renews the freeze. -/
def execCrnRead (id : Nat) (s : State) : Out :=
  .next (s.run id 0x0A02 fun k =>
    s.judged k [(decide (k.u 0 8 % 32 ≠ 0 ∨ k.u 12 2 = 0 ∨ k.u 12 2 > 7936 ∨ k.u 14 1 > 3 ∨ k.u 15 1 > 1), ST.invalid, 0)]
      (({ s with cairn := { s.cairn with
          reads := s.cairn.reads ++ [(k.id, k.ring.1)]
          frozenAt := if s.cairn.frozenAt.isSome then some s.frame else none } }).goPending k s.frame))

/-- Ring slots from the oldest to the newest, for a NEXT and WRAPPED. -/
def ringOrder (next : Nat) (wrapped : Bool) : List Nat :=
  if wrapped then (List.range 7936).map fun i => (next + i) % 7936 else List.range next

/-- SEQ of the record that the slot of record `q` held when LAST_SEQ was `last`: a slot overwritten since held the one 7,936 before. -/
def seqThen (q last : Nat) : Nat := if q ≤ last then q else q - 7936

/-- The slots that held records with SEQ from `start` at the take (`at_`: LAST_SEQ, NEXT, WRAPPED then), oldest first, with what they hold now:
empty slots skipped, damaged slots as read (R395). -/
def ringRecords (c : Cairn) (start : Nat) (at_ : Nat × Nat × Bool) : List (List Byte) :=
  ((ringOrder at_.2.1 at_.2.2).map fun i => mramRead c (ringAddr i) 32).filter fun b =>
    b.any (· != 0) && (!recValid b || decide (start ≤ seqThen (leAt b 0 4) at_.1))

/-- The records an AREA of CRN_READ names (R398). -/
def areaRecords (c : Cairn) (area start : Nat) (at_ : Nat × Nat × Bool) : List (List Byte) :=
  match area with
  | 0 => ringRecords c start at_
  | 1 => c.shadow.map fun x => recBytes x.1 x.2
  | 2 => c.hold.map fun x => recBytes 0 x.1
  | _ => ((List.range 128).map fun i => mramRead c (logAddr i) 32).filter fun b => b.any (· != 0)

/-- Write records one after another into the manager's host memory. -/
def State.writeRecords (s : State) (pasid : Option Nat) (a : Nat) : List (List Byte) → State
  | [] => s
  | b :: t => (s.instWrite 0 pasid a b true false).writeRecords pasid (a + 32) t

/-- The final status of CRN_READ: OK with counts and SEQ numbers, or FAULT with DETAIL 1 for a failed host write. -/
def State.outcomeCrnRead (s : State) (k : Cmd) (ok : Bool) : State :=
  let s0 := { s with cairn := { s.cairn with reads := s.cairn.reads.filter fun x => x.1 != k.id } }
  let pasid := if k.u 15 1 = 1 then some (k.u 16 4 % 2 ^ 20) else none
  let l := (areaRecords s.cairn (k.u 14 1) (k.u 8 4) k.ring).take (k.u 12 2)
  if s0.isoKind 0 pasid ≠ 0 then (s0.countIso 0 pasid).finish k ST.fault 1 []
  else if ¬ ok then s0.finish k ST.fault 1 []
  else
    (s0.writeRecords pasid (k.u 0 8) l).okay k
      (leBytes 2 l.length ++ leBytes 2 (l.filter fun b => !recValid b).length ++
        leBytes 4 (match l.head? with
          | some b => leAt b 0 4
          | none => 0) ++
        leBytes 4 (match l.getLast? with
          | some b => (leAt b 0 4 + 1) % 2 ^ 32
          | none => 0))

def execCrnUnfreeze (id : Nat) (s : State) : Out := .next (s.run id 0x0A03 fun k => s.endFreeze.okay k [])

/-- CRN_CLEAR (R396): judged INVALID, then by its token, the freeze and the media fault; then PENDING. -/
def execCrnClear (id : Nat) (s : State) : Out :=
  .next (s.run id 0x0A04 fun k =>
    let tok := slice k.req 0 92
    let scope := leAt tok 20 4
    if ¬ bitAt scope 0 ∨ scope > 3 then s.finish k ST.invalid 0 []
    else
      let s1 := s.endNonce
      s1.judged k [(!s.tokenOk tok 1 none, ST.denied, 1), (s.cairn.frozenAt.isSome, ST.denied, 2),
          (s.cairn.media && !bitAt scope 1, ST.denied, 3), (s.cairn.clearing.isSome, ST.denied, 0xF1)]
        (let w : CairnClear := { cmd := k.id, scope := scope, keySlot := leAt tok 2 1, erased := false, failed := false }
         ({ s1 with cairn := { s1.cairn with clearing := some w } }).goPending k s.frame))

/-- Empty every cell of an address range. -/
def eraseRange (m : Memory) (lo hi : Nat) : Memory := m.filter fun c => !(lo ≤ c.1 && c.1 < hi)

/-- The erase of a clear (R396). `ok`: every pattern test of SCOPE MEDIA passed. The CLEAR record follows as SEQ 1. -/
def State.outcomeCrnClear (s : State) (ok : Bool) : State :=
  match s.cairn.clearing.filter (fun k => !k.erased) with
  | some k =>
    let full := bitAt k.scope 1
    let bad := full && !ok
    let m := if full then eraseRange s.cairn.mram 0 0x40000 else eraseRange s.cairn.mram 0x2000 0x40000
    let f := Config.patternFail s.fw.fresh
    let s0 := if bad then { s.mediaCount 0 (f.2.1 % 8192) 1 with fw := { s.fw with fresh := s.fw.fresh + 1 } } else s
    let s1 := if bad then (s0.put Fd.CRN_MEDIA_WHERE (1 + f.1 % 3)).bump Fd.CRN_MEDIA_FAILURES (f.2.2 % 255) else s0
    { s1 with cairn := { s1.cairn with
        mram := m, next := 0, wrapped := false, lastSeq := 0, last := none, clears := s.cairn.clears + 1
        logNext := if full then 0 else s.cairn.logNext
        media := if full then bad else s.cairn.media
        shadow := if full && ok then [] else s.cairn.shadow
        shadowAt := none
        clearing := some { k with erased := true, failed := bad } } }
  | none => s

end Sys2Proof.Machine
end

