-- ==== Sys2Proof/Machine/Dma.lean ====
section
/-! DEFINITION. The DMA engine (08_transfer_engine.md, R235 to R243, with R160, R277, R281, R282, R424). A channel has at
most three source reads outstanding, each of one block of at most 128 bytes (DEDUCED, log entry 249). -/

namespace Sys2Proof.Machine

/-! ### Channels -/

def State.ch (s : State) (n : Nat) : DmaCh := SMap.get DmaCh.reset s.dma n

def State.putCh (s : State) (n : Nat) (c : DmaCh) : State := { s with dma := SMap.put DmaCh.reset n c s.dma }

def State.editCh (s : State) (n : Nat) (f : DmaCh → DmaCh) : State := s.putCh n (f (s.ch n))

def State.dmaDeq (s : State) (n : Nat) : Nat := s.get (Fd.DMA_CH_STATUS_DEQ n)
def State.dmaSize (s : State) (n : Nat) : Nat := 2 ^ s.get (Fd.DMA_CH_CFG_RING_LOG2 n)
def State.dmaCqSize (s : State) (n : Nat) : Nat := 2 ^ s.get (Fd.DMA_CH_CFG_CQ_LOG2 n)
def State.dmaPasid (s : State) (n : Nat) : Option Nat := pasidOf (s.rd (Reg.DMA_CH_PASID n)).toNat

/-- The channel an access names (R243), or local channel `n` of the page's instance (R278). -/
def State.chVia (s : State) (via : Via) (n : Nat) : Option Nat :=
  match via with
  | .manager => if n < 32 then some n else none
  | .page i => (s.instOf i).dma[n]?

/-- The local number of channel `n` of instance `i`. -/
def State.localCh (s : State) (i n : Nat) : Nat := ((s.instOf i).dma.findIdx? (· == n)).getD 0

/-- DMA_CHn_STATUS.STATE and DMA_BUSY. -/
def State.showCh (s : State) (n : Nat) : State :=
  let busy := (s.ch n).job.isSome
  let st : Nat :=
    if s.on (Fd.DMA_CH_CTRL_STOP n) then 3 else if busy then 2 else if s.on (Fd.DMA_CH_CTRL_EN n) then 1 else 0
  (s.put (Fd.DMA_CH_STATUS_STATE n) st).putBit Reg.DMA_BUSY n busy

/-- Once a STOP has nothing left to end or to report, its bit clears and EN becomes 0 (R243). (DEDUCED, log entry 131.) -/
def State.stopDone (s : State) (n : Nat) : State :=
  let c := s.ch n
  if s.on (Fd.DMA_CH_CTRL_STOP n) ∧ c.job.isNone ∧ c.enq = s.dmaDeq n ∧ c.recs.isEmpty then
    (s.put (Fd.DMA_CH_CTRL_STOP n) 0).put (Fd.DMA_CH_CTRL_EN n) 0
  else s

/-! ### Registers with an effect (R237, R243) -/

/-- The doorbell of channel `n`: ENQ, or a rejection counted and reported (R237). -/
def State.dmaRing (s : State) (n enq : Nat) : State :=
  if since16 enq (s.dmaDeq n) > s.dmaSize n then
    let s1 := s.bump Fd.DMA_ERR_DB_REJECT
    match (s.ch n).inst with
    | some i => s1.occur (515 + 8 * i) (2 ^ s1.localCh i n)
    | none => s1
  else s.editCh n fun c => { c with enq := enq }

/-- R237: a write to DMA_CHn_DOORBELL. -/
def execDmaDoorbell (port : Side) (via : Via) (ch val : Nat) (s : State) : Out :=
  .next (s.hostWriteVia port via (match s.chVia via ch with
    | some n => s.dmaRing n (val % 65536)
    | none => s))

/-- Records up to CONS are freed; an index outside [CONS, record index] frees nothing (R172, R173). -/
def State.dmaAck (s : State) (n cons : Nat) : State :=
  let c := s.ch n
  if since16 cons c.cons ≤ since16 c.prod c.cons then s.putCh n { c with cons := cons } else s

/-- R237: a write to DMA_CHn_CQ_ACK. -/
def execDmaCqAck (port : Side) (via : Via) (ch val : Nat) (s : State) : Out :=
  .next (s.hostWriteVia port via (match s.chVia via ch with
    | some n => s.dmaAck n (val % 65536)
    | none => s))

/-- STOP of channel `n` (R243): its descriptor in progress ends STOPPED, the reads for it end, and the available
descriptors end STOPPED as their turn comes, whether or not the channel is enabled; where there are none the bit clears at once. -/
def State.dmaStop (s : State) (n : Nat) : State :=
  let mine (r : HostRead) : Bool := r.use == .dmaSrc && r.key == n && !r.dead
  let s1 := (s.put (Fd.DMA_CH_CTRL_STOP n) 1).editCh n fun c => { c with
    job := c.job.map fun j => if j.outcome.isNone ∧ j.loaded then { j with outcome := some (4, 0) } else j }
  let s2 := { s1 with host := { s1.host with reads := s1.host.reads.filter fun r => !mine r } }
  (s2.stopDone n).showCh n

def execDmaStop (port : Side) (via : Via) (ch : Nat) (s : State) : Out :=
  .next (s.hostWriteVia port via (match s.chVia via ch with
    | some n => s.dmaStop n
    | none => s))

/-- EN of channel `n` is written 1 (R243): a rise resets ENQ, DEQ and the record index; a channel that no instance holds
does nothing (R235). -/
def State.dmaEnable (s : State) (n : Nat) : State :=
  if s.on (Fd.DMA_CH_CTRL_EN n) then s
  else
    let s1 := (s.put (Fd.DMA_CH_CTRL_EN n) 1).put (Fd.DMA_CH_STATUS_DEQ n) 0
    (s1.editCh n fun c => { c with enq := 0, prod := 0, cons := 0, resv := 0 }).showCh n

def execDmaEnable (port : Side) (via : Via) (ch : Nat) (s : State) : Out :=
  .next (s.hostWriteVia port via (match s.chVia via ch with
    | some n => s.dmaEnable n
    | none => s))

/-! ### Descriptors (R236 to R239) -/

def DmaJob.src (j : DmaJob) : Nat := leAt j.bytes 0 8
def DmaJob.dst (j : DmaJob) : Nat := leAt j.bytes 8 8
def DmaJob.len (j : DmaJob) : Nat := leAt j.bytes 0x10 4
def DmaJob.word5 (j : DmaJob) : Nat := leAt j.bytes 0x14 4
def DmaJob.op (j : DmaJob) : Nat := j.word5 / 2 ^ 28
def DmaJob.srcPasid (j : DmaJob) : Option Nat := if bitAt j.word5 26 then some (j.word5 % 2 ^ 20) else none
def DmaJob.dstPasid (j : DmaJob) : Option Nat :=
  if bitAt j.word5 25 then some (leAt j.bytes 0x18 4 % 2 ^ 20) else none
def DmaJob.tag (j : DmaJob) : Nat := leAt j.bytes 0x1E 2

/-- DESC_ERROR's DETAIL (R241): 1 a reserved OP, 2 a reserved field that is not 0; 0 for none. -/
def DmaJob.error (j : DmaJob) : Nat :=
  if j.op ≥ 3 then 1
  else if (j.word5 / 2 ^ 20) % 32 ≠ 0 ∨ leAt j.bytes 0x18 4 / 2 ^ 20 ≠ 0 ∨ leAt j.bytes 0x1C 2 ≠ 0 ∨
      (j.op = 1 ∧ j.src / 2 ^ 32 ≠ 0) ∨ (j.op = 2 ∧ j.dst ≠ 0) then 2
  else 0

/-- R239: source and destination overlap. -/
def DmaJob.overlaps (j : DmaJob) : Bool :=
  j.op == 0 && j.srcPasid == j.dstPasid && decide (j.dst ≠ j.src) && decide (j.src < j.dst + j.len) &&
    decide (j.dst < j.src + j.len)

/-- A COPY onto itself in one address space (R239). -/
def DmaJob.onItself (j : DmaJob) : Bool := j.op == 0 && j.srcPasid == j.dstPasid && j.dst == j.src

/-- Offset and length of the next block of a COPY or a FILL (by its destination) or a CRC (by its source), within [lo, hi). -/
def DmaJob.block (j : DmaJob) : Nat × Nat :=
  let base := if j.op = 2 then j.src else j.dst
  if j.dir = 1 then
    let top := base + j.hi
    let bot := max (base + j.lo) ((top - 1) / 128 * 128)
    (bot - base, top - bot)
  else
    let bot := base + j.lo
    let top := min (base + j.hi) ((bot / 128 + 1) * 128)
    (j.lo, top - bot)

/-- Source reads of a channel that may be outstanding together: the worked reset of 10 has three. (DEDUCED, log entry 249.) -/
def dmaWindow : Nat := 3

/-- Source reads of the job outstanding or staged. -/
def State.dmaAhead (s : State) (n : Nat) (j : DmaJob) : Nat :=
  (s.host.reads.filter fun r => r.use == .dmaSrc && r.key == n && r.frame == j.index && !r.dead).length + j.got.length

/-- The block that is read next. -/
def DmaJob.readBlock (j : DmaJob) : Nat × Nat := { j with lo := j.rlo, hi := j.rhi }.block

/-- Issue the read of the next block, rounded outward to whole dwords (R238); one that R277 refuses ends the descriptor
with READ_ERROR. (DEDUCED, log entry 130.) -/
def State.dmaFetch (s : State) (n i : Nat) (j : DmaJob) : State :=
  let (o, k) := j.readBlock
  let a := (j.src + o) / 4 * 4
  let b := (j.src + o + k + 3) / 4 * 4
  let (s1, ok) := s.instRead i j.srcPasid a (b - a) .dmaSrc n j.index o
  let j1 := if j.dir = 1 then { j with rhi := j.rhi - k } else { j with rlo := j.rlo + k }
  s1.editCh n fun c => { c with job := some (if ok then j1 else { j with outcome := some (2, 0) }) }

/-- What is left of a job after its block of `k` bytes. -/
def DmaJob.after (j : DmaJob) (k crc : Nat) : DmaJob :=
  let lo := if j.dir = 1 then j.lo else j.lo + k
  let hi := if j.dir = 1 then j.hi - k else j.hi
  { j with lo := lo, hi := hi, moved := j.moved + k, crc := crc, outcome := if lo = hi then some (0, 0) else none }

/-- The staged bytes of the job's next block. -/
def DmaJob.staged (j : DmaJob) : Option DmaGot := j.got.find? fun g => g.off == j.block.1

/-- The next block of channel `n` has its turn: its bytes are written or summed (R238, R239); a failed read, an uncorrectable staging word
or a write that cannot be issued ends the descriptor. -/
def State.dmaMove (s : State) (n i : Nat) (j0 : DmaJob) (g : DmaGot) : State :=
  let j := { j0 with got := j0.got.erase g }
  let put (t : State) (x : DmaJob) : State := t.editCh n fun c => { c with job := some x }
  let stop (t : State) (code : Nat) : State := put t { j with outcome := some (code, 0) }
  let (o, k) := j.block
  if ¬ g.ok then stop s 2
  else if g.bad then stop s 5
  else if j.op = 0 then
    if ¬ g.wok then stop s 3
    else if s.isoKind i j.dstPasid ≠ 0 then stop (s.countIso i j.dstPasid) 3
    else put (s.instWrite i j.dstPasid (j.dst + o) (g.data.take k) true false) (j.after k j.crc)
  else put s (j.after k (crc32cFrom j.crc (g.data.take k)))

/-- One block of a FILL is written: the byte at address `a` takes pattern byte `a` mod 4 (R238). (DEDUCED, log entry 132.) -/
def State.dmaFill (s : State) (n i : Nat) (j : DmaJob) : State :=
  let put (t : State) (x : DmaJob) : State := t.editCh n fun c => { c with job := some x }
  let (o, k) := j.block
  if s.isoKind i j.dstPasid ≠ 0 then put (s.countIso i j.dstPasid) { j with outcome := some (3, 0) }
  else if ¬ s.canIssue (s.instOf i).port then put s { j with outcome := some (3, 0) }
  else
    let data := (List.range k).map fun b => BitVec.ofNat 8 (j.src / 256 ^ ((j.dst + o + b) % 4))
    put (s.instWrite i j.dstPasid (j.dst + o) data true false) (j.after k j.crc)

/-- The descriptor of channel `n` has been read: it is judged, and its first requests wait for their turn (R236 to R239). -/
def State.dmaLoaded (s : State) (n : Nat) (j0 : DmaJob) (b : List Byte) : State :=
  let j := { j0 with bytes := b, loaded := true }
  let endNow (code detail : Nat) : State :=
    s.editCh n fun c => { c with job := some { j with dir := 2, outcome := some (code, detail) } }
  if s.on (Fd.DMA_CH_CTRL_STOP n) then endNow 4 0
  else if j.error ≠ 0 then endNow 1 j.error
  else if j.len = 0 ∨ j.onItself then endNow 0 0
  else
    let ov := j.overlaps
    let j1 := { j with overlap := ov, dir := b2n (ov && decide (j.dst > j.src)), lo := 0, hi := j.len, rlo := 0, rhi := j.len
                       crc := 0xFFFFFFFF }
    s.editCh n fun c => { c with job := some j1 }

/-- The read of a descriptor of channel `n` has ended. -/
def State.dmaDescDone (s : State) (n : Nat) (ok : Bool) (b : List Byte) : State :=
  match (s.ch n).job with
  | some j =>
    if j.loaded then s
    else if ok then s.dmaLoaded n j b
    else
      let code : Nat := if s.on (Fd.DMA_CH_CTRL_STOP n) then 4 else 2
      let blank := zeros 0x1E ++ leBytes 2 (Config.unreadTag n j.index)
      s.editCh n fun c => { c with job := some { j with bytes := blank, loaded := true, dir := 2, outcome := some (code, 0) } }
  | none => s

/-- The read of channel `n`'s next descriptor. -/
def State.dmaRead (s : State) (n i : Nat) (j : DmaJob) : State :=
  let base := s.get (Fd.DMA_CH_RING_LO_BASE_LO n) * 64 + s.get (Fd.DMA_CH_RING_HI_BASE_HI n) * 2 ^ 32
  let s1 := s.editCh n fun c => { c with job := some { j with asked := true } }
  let (s2, ok) := s1.instRead i (s.dmaPasid n) (base + (j.index % s.dmaSize n) * 32) 32 .dmaDesc n s.frame j.index
  if ok then s2 else s2.dmaDescDone n false []

/-- The job has a request ready: the read of its descriptor, a block of a FILL, a staged block, or a source read within its window. -/
def State.dmaWants (s : State) (n : Nat) (j : DmaJob) : Bool :=
  j.outcome.isNone &&
  (if ¬ j.loaded then !j.asked
   else if j.op = 1 then decide (j.lo < j.hi)
   else j.staged.isSome || (decide (j.rlo < j.rhi) && decide (s.dmaAhead n j < dmaWindow)))

/-- Channel `n` has a request ready on its port, and no class above its own has one there (R234). -/
def State.dmaReady (s : State) (port : Side) (n : Nat) : Bool :=
  match (s.ch n).job, (s.ch n).inst with
  | some j, some i => (s.instOf i).port == port && s.dmaWants n j && s.mayDma port
  | _, _ => false

/-- One request of channel `n`. -/
def State.dmaTurn (s : State) (n : Nat) : State :=
  match (s.ch n).job, (s.ch n).inst with
  | some j, some i =>
    if ¬ j.loaded then s.dmaRead n i j
    else if j.op = 1 then s.dmaFill n i j
    else match j.staged with
      | some g => s.dmaMove n i j g
      | none => s.dmaFetch n i j
  | _, _ => s

/-- The channel of a port whose turn it is: the first after the one served there last, round about, that has a request ready (R234). -/
def State.dmaNext (s : State) (port : Side) : Option Nat :=
  let last := SMap.get (fun _ => 0) s.xfer.dmaLast (b2n (port == .h1))
  ((List.range 32).map fun k => (last + k) % 32).find? (s.dmaReady port)

/-- DMA channels take every request slot of a port that classes 1 to 3 leave free, one request per turn in round robin (R234). (DEDUCED, log
entry 250.) (DEDUCED, log entry 250.) -/
def State.dmaPump (s : State) (port : Side) : Nat → State
  | 0 => s
  | k + 1 =>
    match s.dmaNext port with
    | some n =>
      let turn := SMap.put (fun _ => 0) (b2n (port == .h1)) ((n + 1) % 32) s.xfer.dmaLast
      (({ s with xfer := { s.xfer with dmaLast := turn } }).dmaTurn n).dmaPump port k
    | none => s

/-- The fuel of `dmaPump`: every request that can be ready, those of a FILL among them. -/
def State.dmaFuel (s : State) : Nat :=
  (List.range 32).foldl (fun (m : Nat) n => m + (((s.ch n).job.map fun j => (j.hi - j.lo) / 128 + 8).getD 0)) 8

def State.dmaGo (s : State) : State :=
  let t := s.dmaPump .h0 s.dmaFuel
  t.dmaPump .h1 t.dmaFuel

/-- Channel `n` has a descriptor to start: it is enabled, or stopping (R243), one is available, and a place for its record is free (R235, R241).
BIST test 0 holds the start (R403). -/
def State.dmaStartable (s : State) (n : Nat) : Bool :=
  let c := s.ch n
  let held : Bool := match s.scree.bist with
    | some b => bitAt b.tests 0
    | none => false
  (s.on (Fd.DMA_CH_CTRL_STOP n) || (s.on (Fd.DMA_CH_CTRL_EN n) && s.on Fd.DMA_CTRL_EN && !held)) && c.job.isNone &&
  c.enq != s.dmaDeq n && decide (since16 c.prod c.cons + c.resv < s.dmaCqSize n)

/-- Class 4 has a request ready on a port. -/
def State.dmaWaits (s : State) (port : Side) : Bool :=
  (List.range 32).any fun n =>
    (((s.ch n).inst.map fun i => (s.instOf i).port == port).getD false) && (s.dmaReady port n || s.dmaStartable n)

/-- R235: channel `n` starts its next available descriptor once a place for its record is reserved: the read of it takes its turn (R234), with
the requests of running descriptors that wait. -/
def execDmaDescriptorStart (n : Nat) (s : State) : Out :=
  let c := s.ch n
  match c.inst with
  | some _ =>
    if s.dmaStartable n then
      let j : DmaJob :=
        { index := s.dmaDeq n, bytes := [], overlap := false, dir := 2, lo := 0, hi := 0, crc := 0xFFFFFFFF, moved := 0
          outcome := none, loaded := false }
      let s1 := s.putCh n { c with job := some j, resv := c.resv + 1 }
      .next (s1.showCh n).dmaGo
    else .next s.dmaGo
  | none => .next s.dmaGo

/-! ### Data (R238, R239, R281, R282) -/

/-- A source read of channel `n` has ended: its bytes are staged, and what has its turn goes on. -/
def State.dmaSrcDone (s : State) (r : HostRead) (ok : Bool) (data : List Byte) (wok : Bool) (mem word errs : Nat) : State :=
  let n := r.key
  match (s.ch n).job with
  | some j =>
    if j.outcome.isSome ∨ j.index ≠ r.frame then s
    else
      let g : DmaGot := { off := r.off, data := data.drop ((j.src + r.off) % 4), ok := ok, wok := wok, bad := decide (errs ≥ 2) }
      let s1 := if ok then s.eccRead mem word errs else s
      (s1.editCh n fun c => { c with job := some { j with got := j.got ++ [g] } }).dmaGo
  | none => s

/-- R238: a source read completes; one marked at a reset of its instance is discarded and counted (R281, R282). -/
def execDmaReadCompletion (tag : Nat) (ok : Bool) (data : List Byte) (wok : Bool) (mem word errs : Nat) (s : State) : Out :=
  match s.findRead tag with
  | some r =>
    if r.use ≠ .dmaSrc then .next s
    else
      let s1 := s.dropRead tag
      if r.dead then .next (s1.countDiscard r.inst) else .next (s1.dmaSrcDone r ok data wok mem word errs)
  | none => .next s

/-! ### The end of a descriptor (R238, R240, R241) -/

/-- VALUE of the record (R240): the CRC of a CRC that succeeded, otherwise the bytes written or read. -/
def DmaJob.value (j : DmaJob) (code : Nat) : Nat :=
  if j.op = 2 ∧ code = 0 then (if j.len = 0 then 0 else crcOut j.crc) else j.moved

/-- The descriptor ends: DEQ advances and its record waits to be written (R240). -/
def State.dmaEnd (s : State) (n i : Nat) (j : DmaJob) (code detail : Nat) : State :=
  let bytes := leBytes 4 (j.tag * 2 ^ 16 + code * 2 ^ 8 + detail) ++
    leBytes 4 (j.index * 2 ^ 16 + b2n j.overlap * 4 + j.dir) ++ leBytes 4 (j.value code)
  let r : DmaRec :=
    { inst := i, gen := (s.instOf i).gen, bytes := bytes, frame := s.frame, code := code
      notify := decide (code ≠ 0) || bitAt j.word5 27, resv := true, last := false }
  let s1 := s.editCh n fun c => { c with job := none, recs := c.recs ++ [r] }
  (s1.put (Fd.DMA_CH_STATUS_DEQ n) ((j.index + 1) % 65536)).showCh n

/-- R240, R241: the descriptor of channel `n` ends. What a FILL has yet to write has its turn before; `ok` false: it cannot be issued. -/
def execDmaDescriptorEnd (n : Nat) (ok : Bool) (s : State) : Out :=
  let c := s.ch n
  match c.job, c.inst with
  | some j, some i =>
    match j.outcome with
    | some (code, detail) => .next (s.dmaEnd n i j code detail)
    | none =>
      if j.loaded ∧ j.op = 1 ∧ s.mayDma (s.instOf i).port then
        if ¬ ok then .next (s.dmaEnd n i j 3 0)
        else
          let t := s.dmaGo
          match (t.ch n).job with
          | some k =>
            match k.outcome with
            | some (code, detail) => .next (t.dmaEnd n i k code detail)
            | none => .next t
          | none => .next t
      else .next s
  | _, _ => .next s

/-- The record at its place: two writes, the second with PHASE and FRAME, then the event (R183, R240, R241). -/
def State.writeDmaRec (s : State) (n : Nat) (r : DmaRec) : State :=
  let c := s.ch n
  let base := s.get (Fd.DMA_CH_CQ_LO_BASE_LO n) * 64 + s.get (Fd.DMA_CH_CQ_HI_BASE_HI n) * 2 ^ 32
  let a := base + (c.prod % s.dmaCqSize n) * 16
  let phase := 1 - (c.prod / s.dmaCqSize n) % 2
  let s1 := s.instWrite r.inst (s.dmaPasid n) a r.bytes false false
  let s2 := s1.instWrite r.inst (s.dmaPasid n) (a + 12) (leBytes 4 (phase * 2 ^ 31 + r.frame % 2 ^ 24)) false false
  let s3 := s2.editCh n fun x => { x with prod := (x.prod + 1) % 65536, resv := x.resv - 1 }
  let s4 := if (1 ≤ r.code ∧ r.code ≤ 3) ∨ r.code = 5 then s3.bump Fd.DMA_ERR_ERRORS else s3
  if r.notify then s4.occur (514 + 8 * r.inst) (2 ^ s4.localCh r.inst n) else s4

/-- R240, R424: the oldest record of channel `n` is written, as class 3 of R234; one that cannot be issued is lost and counted. -/
def execDmaRecordWrite (n : Nat) (ok : Bool) (s : State) : Out :=
  let c := s.ch n
  match c.recs with
  | [] => .next s
  | r :: rest =>
    let port := (s.instOf r.inst).port
    if ¬ s.mayRecord port then .next s
    else
      let s1 := s.putCh n { c with recs := rest }
      let freed (t : State) : State := t.editCh n fun x => { x with resv := x.resv - 1 }
      let s2 :=
        if r.gen ≠ (s.instOf r.inst).gen then (freed s1).countDiscard r.inst
        else if s.isoKind r.inst (s.dmaPasid n) ≠ 0 then (freed (s1.countIso r.inst (s.dmaPasid n))).countLost r.inst
        else if ok ∧ s.portUp port then s1.writeDmaRec n r
        else (freed s1).countLost r.inst
      .next ((s2.stopDone n).showCh n)

end Sys2Proof.Machine
end

