-- ==== Sys2Proof/Machine/Inst.lean ====
section
/-! DEFINITION. Virtual instances: the pool, resets and the instance commands (10_instances.md, R272 to R288, R304). -/

namespace Sys2Proof.Machine

/-! ### The pool (R272, R273) -/

/-- Instances that exist, ascending. -/
def State.instList (s : State) : List Nat := (List.range 64).filter fun i => (s.instOf i).exist

def sumOf (l : List Nat) (f : Nat → Nat) : Nat := l.foldl (fun n i => n + f i) 0

/-- Controller-wide periodic share (R272). -/
def State.poolShare (s : State) : Nat := 128 * s.policyB * s.ports

/-- Share given to instances 1 to 63. -/
def State.givenShare (s : State) : Nat := sumOf (s.instList.filter (· != 0)) fun i => (s.instOf i).share

def State.freeShare (s : State) : Nat := s.poolShare - s.givenShare
def State.freeEntries (s : State) : Nat := 131072 - sumOf s.instList fun i => (s.instOf i).allot

/-- Physical channels and queues that no instance holds, ascending. -/
def State.freeDma (s : State) : List Nat :=
  (List.range 32).filter fun n => !(s.instList.any fun i => (s.instOf i).dma.contains n)
def State.freeQueues (s : State) : List Nat :=
  (List.range 256).filter fun n => !(s.instList.any fun i => (s.instOf i).queues.contains n)

/-- The registers that describe instance `i` (R278, R287). -/
def State.showInst (s : State) (i : Nat) : State :=
  let r := s.instOf i
  let p := if r.port = .h1 then 1 else 0
  let s1 := ((((((s.put (Fd.INS_I_STATE_EXISTS i) (b2n r.exist)).put (Fd.INS_I_STATE_PORT i) p).put
    (Fd.INS_I_STATE_TABLE_SET i) (b2n (r.table != 0))).put (Fd.INS_I_STATE_GENERATION i) r.gen).put
    (Fd.INS_I_STATE_DMA i) r.dma.length).put (Fd.INS_I_STATE_QUEUES i) r.queues.length)
  let s2 := (s1.put (Fd.INS_I_ENTRIES_ALLOT i) r.allot).put (Fd.INS_I_SHARE_SHARE i) r.share
  let lo := i < 32
  let s3 := s2.putBit (if lo then Reg.INS_EXIST_LO else Reg.INS_EXIST_HI) (i % 32) r.exist
  let s4 := s3.putBit (if lo then Reg.INS_PORT_LO else Reg.INS_PORT_HI) (i % 32) (r.exist && p == 1)
  ((((s4.put (Fd.INS_SELF_INSTANCE i) i).put (Fd.INS_SELF_GENERATION i) r.gen).put (Fd.INS_SELF_PORT i) p).put
    (Fd.INS_SELF_DMA i) r.dma.length).put (Fd.INS_SELF_QUEUES i) r.queues.length

def State.showPool (s : State) : State :=
  (((s.put Fd.INS_POOL_ENTRIES_FREE s.freeEntries).put Fd.INS_POOL_SHARE_FREE s.freeShare).put
    Fd.INS_POOL_MISC_FREE_QUEUES s.freeQueues.length).put Fd.INS_POOL_MISC_FREE_DMA s.freeDma.length

/-- R273: instance 0 holds what instances 1 to 63 leave of the share, recomputed at every tick. -/
def State.shareTick (s : State) : State :=
  ((s.putInst 0 { s.instOf 0 with share := s.freeShare }).showInst 0).showPool

/-- R215: the pool total follows the new budget, and instance 0 holds what the others leave of it (R273). -/
def execAllocSetPolicy (id : Nat) (s : State) : Out :=
  .next (s.run id 0x0200 fun c =>
    s.judged c [(s.badPolicy c.req, ST.invalid, 0), (s.policyOver c.req, ST.denied, 1),
        (decide (s.explPins > c.u 8 2), ST.denied, 2)]
      (let s1 := s.setPolicy c.req
       let s2 := { s1 with alloc := { s1.alloc with policy := some c.req } }
       ((s2.trimPins s2.pinnedCount).showCache.shareTick).okay c []))

/-- Channel `n` and queue `q` go to an instance, or to none (R235, R308). -/
def State.bindDma (s : State) (i : Option Nat) (n : Nat) : State :=
  ((s.editCh n fun c => { c with inst := i }).putBit Reg.DMA_BOUND n i.isSome)
def State.bindQueue (s : State) (i : Option Nat) (q : Nat) : State :=
  let v : Nat := match i with
    | some k => k + 1
    | none => 0
  { s with evq := { s.evq with qInst := SMap.put (fun _ => 0) q v s.evq.qInst } }

/-- Give instance `i` its record with other channels and queues than before: those it no longer lists are unbound. -/
def State.setInst (s : State) (i : Nat) (r : Instance) : State :=
  let o := s.instOf i
  let s1 := foldN (fun t n => t.bindDma none n) s (o.dma.filter fun n => !r.dma.contains n)
  let s2 := foldN (fun t n => t.bindDma (some i) n) s1 r.dma
  let s3 := foldN (fun t q => t.bindQueue none q) s2 (o.queues.filter fun q => !r.queues.contains q)
  let s4 := foldN (fun t q => t.bindQueue (some i) q) s3 r.queues
  ((s4.putInst i r).showInst i).showPool

/-! ### Ownership (R276) -/

/-- Device `a` goes to its owner: its record, its contexts and its handles' charges. -/
def State.retag (s : State) (a : Nat) : State :=
  let o := s.ownerOf a
  let s1 := s.editDev a fun d => { d with owner := o }
  let s2 := foldN (fun t k => t.editCtx k fun c => { c with inst := o }) s1 (s1.devKeys a)
  { s2 with alloc := { s2.alloc with grants := s2.alloc.grants.map fun g => if g.key / 16 = a then { g with owner := o } else g } }

/-- Every device whose owner has changed is retagged. -/
def State.retagAll (s : State) : State :=
  (s.devices.filter fun x => x.2.owner != s.ownerOf x.1).foldl (fun t x => t.retag x.1) s

/-! ### Resets (R280 to R284, R304) -/

/-- Commands of mailbox 0 in progress are abandoned without effect (Mailbox races), a live update among them. -/
def State.abandonManager (s : State) : State :=
  let s1 := ({ s with fw := { s.fw with switch := none } }).dropWork
  if s.fw.switch.isSome ∧ s.mode = 2 then ((s1.put Fd.MBX_FW_STATE_MODE 0).retake).resumeTaking else s1

/-- Clear mailbox `m`: slots return to the host with zero contents, commands and outcomes are dropped. (DEDUCED, log entry 125.) -/
def State.clearMailbox (s : State) (m : Nat) : State :=
  let s1 := s.slotStore m 0 0 (zeros 0x800)
  let s2 := (s1.wr (Reg.MBX_OWNER m) 0).wr (Reg.MBX_DONE m) 0
  let s3 := { s2 with mbx := { s2.mbx with
    rung := s2.mbx.rung.filter fun x => x.1 != m
    taken := s2.mbx.taken.filter fun c => c.mbx != m
    outcomes := s2.mbx.outcomes.filter fun o => o.mbx != m } }
  if m = 0 then s3.abandonManager else s3

/-- One open entry is unbound without a record (R280). -/
def State.unbind (s : State) (i e : Nat) : State :=
  match s.entry i e with
  | some x =>
    let s1 := s.putEntry i e none
    if e < 16 then s1
    else
      let k := seaKey x.sea
      let s2 := s1.editCtx k fun c => { c with state := 1, entry := 0, done := 0, retries := 0, runCrc := 0 }
      match s2.ctxEnt k with
      | some y => (s2.putCtxEnt k (some { y with autoPin := false })).showCache
      | none => s2
  | none => s

/-- OUT work of instance `i` that has been fetched and not sent: descriptors with packets in a bank, and periodic slots without a result.
Each is discarded and counted once (R281). (DEDUCED, log entry 248.) -/
def State.outFetched (s : State) (i : Nat) : Nat :=
  let unsent (o : BulkOut) : Bool := match (s.entry o.inst o.entry).bind (·.desc) with
    | some d => decide (since16 o.index d.index < 32768) && (o.index != d.index || decide (d.moved ≤ o.off))
    | none => true
  let ds := ((s.xfer.bulkOut.filter fun o => o.inst == i && decide (since32 o.frame s.frame < 2) && unsent o).map fun o =>
    (o.entry, o.index)).eraseDups
  let ss := s.xfer.outs.filter fun o => o.inst == i && decide (since32 o.frame s.frame < 2) &&
    !(s.xfer.results.any fun r => r.key == o.key && r.frame == o.frame)
  ds.length + ss.length

/-- The bus side of a reset of instance `i`: entries, rings, doorbells, services, recoveries, packets fetched (R280). -/
def State.resetWork (s : State) (i : Nat) : State :=
  let s0 := iterate (fun _ t => t.countDiscard i) (s.outFetched i) s
  let s1 := (s.instEntries i).foldl (fun t x => t.unbind i x.1) s0
  let goes (r : HostRead) : Bool := r.inst == i && r.use != .page && r.use != .directory
  let mark (r : HostRead) : HostRead := if goes r then { r with dead := true } else r
  let s2 := { s1 with
    rings := { s1.rings with
      crOpen := s1.rings.crOpen.filter fun x => x.1 != i
      doors := s1.rings.doors.filter fun d => d.inst != i }
    xfer := { s1.xfer with
      svcs := s1.xfer.svcs.filter fun v => v.entry == 0 || v.inst != i
      hists := s1.xfer.hists.filter fun h => h.inst != i
      outs := s1.xfer.outs.filter fun o => o.inst != i
      bulkOut := s1.xfer.bulkOut.filter fun o => o.inst != i }
    host := { s1.host with reads := (s1.host.reads.filter fun r => !(goes r && !(s1.host.flying r.port).contains r)).map mark } }
  ((s2.put (Fd.INS_CR_OPEN_OPEN i) 0).wr (Reg.INS_DB_ERR i) 0).showBound i

/-- Channel `n` stops without records (R280). Records that wait are discarded when their turn comes (R281). -/
def State.resetCh (s : State) (n : Nat) : State :=
  let s1 := ((s.put (Fd.DMA_CH_CTRL_STOP n) 0).put (Fd.DMA_CH_CTRL_EN n) 0).put (Fd.DMA_CH_STATUS_DEQ n) 0
  (s1.editCh n fun c => { c with enq := 0, prod := 0, cons := 0, resv := c.recs.length, job := none }).showCh n

/-- Queue `q` is emptied (R304). -/
def State.resetQueue (s : State) (q : Nat) : State :=
  (((s.put (Fd.EVQ_Q_CFG_EN q) 0).put (Fd.EVQ_Q_PROD_PROD q) 0).put (Fd.EVQ_Q_CONS_CONS q) 0).put (Fd.EVQ_Q_STATUS_ARMED q) 1

/-- Source `n` leaves its state (R304). (DEDUCED, log entry 123.) -/
def State.resetSource (s : State) (n : Nat) : State :=
  let st := if srcLevel n ∧ s.levelArg n ≠ 0 then SrcState.pending else SrcState.inactive
  (s.putSrc n { s.src n with
    st := st, occ := 0, arg := 0, sw := false, held := false, first := none, inQueues := [], server := none }).markHeld n

/-- Sources that instance `i` owns. -/
def State.ownedSources (s : State) (i : Nat) : List Nat :=
  ((List.range 1023).filter fun n => srcExists n && (s.src n).owner == i)

/-- R280 for instance `i`; `mail`: its mailbox is cleared. Resets that fall on one tick are one (R284). (DEDUCED, log entry 122.) -/
def State.resetInst (s : State) (i : Nat) (mail : Bool) : State :=
  if s.inst.resetOn.contains i then (if mail then s.clearMailbox i else s)
  else
    let r := s.instOf i
    let s1 := (s.putInst i { r with lateSeen := false }).resetWork i
    let s2 := foldN State.resetCh s1 r.dma
    let s3 := foldN State.resetQueue s2 r.queues
    let s4 := foldN State.resetSource s3 (s3.ownedSources i)
    let s5 := if mail then s4.clearMailbox i else s4
    let s6 := s5.putInst i { s5.instOf i with gen := ((s5.instOf i).gen + 1) % 256 }
    let s7 := { s6 with inst := { s6.inst with resetOn := i :: s6.inst.resetOn } }
    (s7.showInst i).setEvent 20 Fd.INS_EVENT_CHANGED

def State.putPortUp (s : State) (port : Side) (v : Bool) : State := match port with
  | .h0 => s.put Fd.GLB_STATUS_H0_UP (b2n v)
  | .h1 => s.put Fd.GLB_STATUS_H1_UP (b2n v)

/-- R283: a port reset of a host port resets every instance bound to it at the next tick. -/
def State.portReset (s : State) (port : Side) : State :=
  let l := s.instList.filter fun i => (s.instOf i).port = port
  { s with inst := { s.inst with
    resetAt := s.inst.resetAt ++ l.filter fun i => !s.inst.resetAt.contains i
    portRst := true } }

/-- The resets of R283 that wait take effect, with PORT_RESET. The links of both host ports are up again from that tick: no
row brings a link up (DESIGN CHOICE, log entry 46). -/
def State.portResets (s : State) : State :=
  let s1 := foldN (fun t i => if (t.instOf i).exist then t.resetInst i true else t) s s.inst.resetAt
  let s2 := if s.inst.portRst then s1.setEvent 20 Fd.INS_EVENT_PORT_RESET else s1
  let s3 := if s.inst.portRst then (s2.putPortUp .h0 true).putPortUp .h1 true else s2
  { s3 with inst := { s3.inst with resetAt := [], portRst := false, portOn := s.inst.resetAt } }

/-- R280: the reset of instance `i` at the tick; its mailbox is cleared, but that of instance 0 only where R283 resets it. (DEDUCED, log entry 124.) -/
def execInstanceReset (i : Nat) (s : State) : Out :=
  if i < 64 ∧ (s.instOf i).exist then
    let port := s.inst.resetAt.contains i
    let s1 := s.resetInst i (i != 0 || port)
    let rest := s.inst.resetAt.filter (· != i)
    let s2 := if port ∧ s.inst.portRst then s1.setEvent 20 Fd.INS_EVENT_PORT_RESET else s1
    .next { s2 with inst := { s2.inst with
      resetAt := rest, portRst := s.inst.portRst && !rest.isEmpty, portOn := if port then i :: s.inst.portOn else s.inst.portOn } }
  else .next s

def execFunctionLevelReset (port : Side) (s : State) : Out := .next (s.portReset port)

/-- R283: the port goes down: nothing is issued on it until its link is up again. -/
def execDataLinkDown (port : Side) (s : State) : Out :=
  .next ((s.putPortUp port false).portReset port)

/-- R415: PERST_N of a host port is handled as Data Link Down on it. -/
def execPerstAssert (port : Side) (s : State) : Out := execDataLinkDown port s

/-! ### Instance commands (R288) -/

/-- Ranges of a request: pairs of LO and HI from offset `o`. (DEDUCED, log entry 221.) -/
def Cmd.ranges (c : Cmd) (o : Nat) : List (Nat × Nat) := (List.range 4).map fun j => (c.u (o + 4 * j) 2, c.u (o + 4 * j + 2) 2)

/-- The ranges in use: a range with LO = 0 is unused. -/
def usedRanges (l : List (Nat × Nat)) : List (Nat × Nat) := l.filter fun r => r.1 != 0

def rangesMeet (a b : Nat × Nat) : Bool := decide (a.1 ≤ b.2 ∧ b.1 ≤ a.2)

def rangesDisjoint : List (Nat × Nat) → Bool
  | [] => true
  | a :: l => !(l.any (rangesMeet a)) && rangesDisjoint l

/-- DETAIL 5 of INST_CREATE. -/
def rangesBad (l : List (Nat × Nat)) : Bool :=
  let u := usedRanges l
  (u.any fun r => decide (r.1 > r.2 ∨ r.2 > 8191)) || !rangesDisjoint u

/-- A PASID window that keeps its rules (R277). -/
def windowOk (w : Nat) : Bool :=
  let lg := (w / 2 ^ 20) % 32
  decide (lg ≤ 20) && w % 2 ^ 20 % 2 ^ lg == 0

/-- A TABLE_PASID that satisfies the window (R277). -/
def tablePasidOk (tp w : Nat) : Bool :=
  let base := w % 2 ^ 20
  let lg := (w / 2 ^ 20) % 32
  if bitAt tp 31 then decide (base ≤ tp % 2 ^ 20 ∧ tp % 2 ^ 20 < base + 2 ^ lg) else !bitAt w 31

def inRanges (l : List (Nat × Nat)) (a : Nat) : Bool := l.any fun r => decide (r.1 ≤ a ∧ a ≤ r.2)

/-- A range overlaps one of another instance 1 to 63. -/
def State.rangesTaken (s : State) (i : Nat) (l : List (Nat × Nat)) : Bool :=
  s.instList.any fun j => j != 0 && j != i && (usedRanges (s.instOf j).ranges).any fun r => l.any (rangesMeet r)

/-- A device has a bound endpoint. -/
def State.devBound (s : State) (a : Nat) : Bool := (s.devKeys a).any fun k => (s.boundEntry k).isSome

/-- Share costs of the handles held in the ranges (R191). -/
def State.shareIn (s : State) (l : List (Nat × Nat)) : Nat :=
  s.alloc.grants.foldl (fun n g =>
    if inRanges l (g.key / 16) ∧ ¬ g.system then n + shareCost (s.grantCost s.retryReserve g) g.k else n) 0

def maskOf (l : List Nat) : Nat := l.foldl (fun v n => v + 2 ^ n) 0

/-- The instance number that INST_CREATE makes: 0xFF asks for the lowest free one. -/
def State.newInst (s : State) (n : Nat) : Option Nat :=
  if n = 0xFF then (List.range 64).find? fun i => i != 0 && !(s.instOf i).exist else some n

def State.createInst (s : State) (c : Cmd) (i : Nat) : State :=
  let r : Instance :=
    { exist := true, port := if c.u 1 1 = 1 then .h1 else .h0, gen := (s.instOf i).gen, dma := s.freeDma.take (c.u 2 1)
      queues := s.freeQueues.take (c.u 3 1), allot := c.u 4 2, share := c.u 8 4, table := c.u 12 8, tablePasid := c.u 20 4
      window := c.u 24 4, ranges := c.ranges 28, discards := 0, lateSeen := false }
  let s1 := (((s.setInst i r).retagAll).shareTick).setEvent 20 Fd.INS_EVENT_CHANGED
  s1.okay c (leBytes 1 i ++ leBytes 1 r.gen ++ zeros 2 ++ leBytes 4 (maskOf r.dma))

/-- (DEDUCED, log entry 127.) (DEDUCED, log entry 219.) -/
def execInstCreate (id : Nat) (s : State) : Out :=
  .next (s.run id 0x0300 fun c =>
    let n := c.u 0 1
    let l := usedRanges (c.ranges 28)
    let i := s.newInst n
    s.judged c
      [(decide ((n > 63 ∧ n ≠ 0xFF) ∨ c.u 2 1 > 32 ∨ c.u 3 1 = 0 ∨ c.u 3 1 > 16 ∨ c.u 4 2 > 16368), ST.invalid, 0),
       (n == 0, ST.invalid, 1), (decide (c.u 1 1 > 1), ST.invalid, 2), (c.u 12 8 % 4096 != 0, ST.invalid, 3),
       (!windowOk (c.u 24 4) || !tablePasidOk (c.u 20 4) (c.u 24 4), ST.invalid, 4),
       (rangesBad (c.ranges 28), ST.invalid, 5),
       (n != 0xFF && (s.instOf n).exist, ST.denied, 1), (s.rangesTaken 64 l, ST.denied, 2),
       ((s.devices.any fun x => inRanges l x.1 && s.devBound x.1), ST.denied, 3),
       (decide (c.u 8 4 < s.shareIn l), ST.denied, 4),
       (i.isNone, ST.noResource, 1), (decide (c.u 4 2 > s.freeEntries), ST.noResource, 2),
       (decide (c.u 8 4 > s.freeShare), ST.noResource, 3), (decide (c.u 2 1 > s.freeDma.length), ST.noResource, 4),
       (decide (c.u 3 1 > s.freeQueues.length), ST.noResource, 5)]
      (s.createInst c (i.getD 1)))

/-- The generation that a request names is that of instance `i`, before a port reset of the same tick where there was one: the two resets
are one (R284, Races). -/
def State.genNamed (s : State) (i g : Nat) : Bool :=
  g == (s.instOf i).gen || (s.inst.portOn.contains i && (g + 1) % 256 == (s.instOf i).gen)

/-- The rules that INST_DESTROY, INST_RESET and INST_RESIZE share: an instance that exists, of the generation named. -/
def State.namedRules (s : State) (c : Cmd) : List (Bool × Nat × Nat) :=
  [(decide (c.u 0 1 > 63) || !(s.instOf (c.u 0 1)).exist, ST.invalid, 6), (!s.genNamed (c.u 0 1) (c.u 1 1), ST.stale, 0)]

/-- R285, after the reset: resources, channels and queues return, devices and controller sources revert to instance 0. -/
def State.destroyInst (s : State) (i : Nat) : State :=
  let r := s.instOf i
  let s1 := s.setInst i { Instance.reset 1 with gen := r.gen, port := r.port, discards := r.discards }
  let s2 := foldN (fun t n => if n < 512 ∧ (t.src n).owner = i then t.putSrc n { t.src n with owner := 0, targets := 1 } else t)
    s1 (SMap.keys s1.evq.srcs)
  (s2.retagAll.shareTick).setEvent 20 Fd.INS_EVENT_CHANGED

/-- (DEDUCED, log entry 218.) -/
def execInstDestroy (id : Nat) (s : State) : Out :=
  .next (s.run id 0x0301 fun c =>
    let i := c.u 0 1
    s.judged c ((i == 0, ST.invalid, 1) :: s.namedRules c)
      (let t := (s.resetInst i true).destroyInst i
       t.okay c (leBytes 1 (t.instOf i).gen)))

/-- INST_RESET leaves mailbox 0 as it is. -/
def execInstReset (id : Nat) (s : State) : Out :=
  .next (s.run id 0x0302 fun c =>
    let i := c.u 0 1
    s.judged c (s.namedRules c)
      (let t := s.resetInst i (i != 0)
       t.okay c (leBytes 1 (t.instOf i).gen)))

/-- The 56 bytes of INST_GET. -/
def State.instBytes (s : State) (i : Nat) : List Byte :=
  let r := s.instOf i
  let pad := r.ranges ++ List.replicate (4 - r.ranges.length) (0, 0)
  leBytes 1 i ++ leBytes 1 r.gen ++ leBytes 1 (if r.port = .h1 then 1 else 0) ++ leBytes 1 r.queues.length ++
    leBytes 2 r.allot ++ leBytes 2 (s.get (Fd.INS_I_ENTRIES_BOUND i)) ++ leBytes 4 r.share ++
    leBytes 4 (s.shareUsed s.alloc.grants i) ++ leBytes 4 (maskOf r.dma) ++ leBytes 4 r.discards ++ leBytes 8 r.table ++
    leBytes 4 r.tablePasid ++ leBytes 4 r.window ++ pad.flatMap fun x => leBytes 2 x.1 ++ leBytes 2 x.2

def execInstGet (id : Nat) (s : State) : Out :=
  .next (s.run id 0x0303 fun c =>
    let i := if c.u 0 1 = 0xFF then c.mbx else c.u 0 1
    s.judged c [(c.mbx == 0 && (decide (i > 63) || !(s.instOf i).exist), ST.invalid, 6),
        (c.mbx != 0 && i != c.mbx, ST.denied, 1)]
      (s.okay c (s.instBytes i)))

/-- What INST_RESIZE makes of an instance's record. -/
def State.resized (s : State) (c : Cmd) : Instance :=
  let i := c.u 0 1
  let r := s.instOf i
  let f (b : Nat) : Bool := bitAt (c.u 6 2) b
  let d := c.u 2 1
  let q := c.u 3 1
  { r with
    allot := if f 0 then c.u 4 2 else r.allot
    share := if f 1 ∧ i ≠ 0 then c.u 8 4 else r.share
    dma := if f 2 then ((List.range 32).filter fun n =>
      ((r.dma.take d) ++ s.freeDma.take (d - r.dma.length)).contains n) else r.dma
    queues := if f 3 then ((List.range 256).filter fun n =>
      ((r.queues.take q) ++ s.freeQueues.take (q - r.queues.length)).contains n) else r.queues
    ranges := if f 4 ∧ i ≠ 0 then c.ranges 24 else r.ranges
    table := if f 5 then c.u 12 8 else r.table
    tablePasid := if f 5 then c.u 20 4 else r.tablePasid }

/-- The rules of INST_RESIZE, by status and DETAIL (R288, R426). A device that the change of ranges moves must have no bound
endpoint (Races). (DEDUCED, log entry 126.) -/
def State.resizeRules (s : State) (c : Cmd) : List (Bool × Nat × Nat) :=
  let i := c.u 0 1
  let f (b : Nat) : Bool := bitAt (c.u 6 2) b
  let r := s.instOf i
  let n := s.resized c
  let moves := f 4 && i != 0
  let top := ((s.instEntries i).filter fun x => 16 ≤ x.1).foldl (fun m x => max m x.1) 0
  let lostD := if f 2 then r.dma.drop (c.u 2 1) else []
  let lostQ := if f 3 then r.queues.drop (c.u 3 1) else []
  [(decide (c.u 6 2 ≥ 64 ∨ (f 2 ∧ c.u 2 1 > 32) ∨ (f 3 ∧ (c.u 3 1 = 0 ∨ c.u 3 1 > 16)) ∨ (f 0 ∧ c.u 4 2 > 16368)), ST.invalid, 0),
   (f 5 && c.u 12 8 % 4096 != 0, ST.invalid, 3), (f 5 && r.exist && !tablePasidOk (c.u 20 4) r.window, ST.invalid, 4),
   (moves && rangesBad (c.ranges 24), ST.invalid, 5)] ++ s.namedRules c ++
  [(moves && s.rangesTaken i (usedRanges n.ranges), ST.denied, 2),
   (moves && (s.devices.any fun x => (inRanges (usedRanges n.ranges) x.1 != inRanges (usedRanges r.ranges) x.1) && s.devBound x.1), ST.denied, 3),
   (moves && decide (n.share < s.shareIn (usedRanges n.ranges)), ST.denied, 4),
   (f 0 && decide (n.allot + 15 < top), ST.denied, 5),
   (f 1 && i != 0 && !moves && decide (n.share < s.shareUsed s.alloc.grants i), ST.denied, 6),
   (lostD.any fun k => s.on (Fd.DMA_CH_CTRL_EN k), ST.denied, 7), (lostQ.any s.qEn, ST.denied, 8),
   (f 5 && (n.table != r.table || n.tablePasid != r.tablePasid) && !(s.instEntries i).isEmpty, ST.denied, 9),
   (decide (n.allot > r.allot + s.freeEntries), ST.noResource, 2),
   (i != 0 && decide (n.share > r.share + s.freeShare), ST.noResource, 3),
   (f 2 && decide (c.u 2 1 > r.dma.length + s.freeDma.length), ST.noResource, 4),
   (f 3 && decide (c.u 3 1 > r.queues.length + s.freeQueues.length), ST.noResource, 5)]

def execInstResize (id : Nat) (s : State) : Out :=
  .next (s.run id 0x0304 fun c =>
    s.judged c (s.resizeRules c)
      (((((s.setInst (c.u 0 1) (s.resized c)).retagAll).shareTick).setEvent 20 Fd.INS_EVENT_CHANGED).okay c []))

def execInstGetPool (id : Nat) (s : State) : Out :=
  .next (s.run id 0x0305 fun c => s.okay c
    (leBytes 4 131072 ++ leBytes 4 s.freeEntries ++ leBytes 4 s.poolShare ++ leBytes 4 s.freeShare ++ leBytes 1 32 ++
      leBytes 1 s.freeDma.length ++ leBytes 2 256 ++ leBytes 2 s.freeQueues.length ++ zeros 2))

end Sys2Proof.Machine
end

