-- ==== Sys2Proof/Machine/Reset.lean ====
section
/-! DEFINITION. What the resets of the part keep and what they return to its reset value (00_scope.md, R3, R20, R30, R52, R86, R202, R215,
R283, R303, R304, R331, R341, R383), and the sequencer's rails (15_power_domains.md, R379). -/

namespace Sys2Proof.Machine

def State.setBoot (s : State) (b : Boot) : State := { s with boot := b }
def State.setStage (s : State) (x : BootStage) : State := { s with boot := { s.boot with stage := x } }
def State.editPdm (s : State) (f : Pdm → Pdm) : State := { s with pdm := f s.pdm }

/-! ### Registers -/

/-- Every register at its reset value but for the bits of its mask. -/
def State.resetRegs (s : State) (mask : Nat → Word) : SMap Word :=
  s.regs.foldl (fun m x =>
    let r := regReset s.part x.1
    SMap.put (regReset s.part) x.1 ((x.2 &&& mask x.1) ||| (r &&& ~~~ mask x.1)) m) []

def allBits : Word := 0xFFFFFFFF

/-- Bits of a register whose access is RO. -/
def roBits (a : Nat) : Word := match regDesc a with
  | some d => ~~~ BitVec.ofNat 32 (d.rw ||| d.w1c ||| d.rc ||| d.wo)
  | none => 0

/-- RWS bits (R7). -/
def rwsBits (a : Nat) : Word := match regDesc a with
  | some d => BitVec.ofNat 32 d.rws
  | none => 0

/-- The registers of the always-on domain (R303, R370, R378, R383). -/
def aoBits (a : Nat) : Word :=
  if (0xA0020 ≤ a ∧ a < 0xA0040) ∨ (0xE0008 ≤ a ∧ a < 0xE0010) ∨ a = Reg.PDM_FAIL then allBits else 0

/-- What a warm reset keeps of the register at `a`: RWS fields, the always-on domain, GLB_STATUS, the boot record, the time settings, the
instances, the event configuration, the port power that the power die holds, what follows the hardware, and the time source that the loop
follows (R86). -/
def warmMask (a : Nat) : Word :=
  let b := a / 0x10000
  let k : Word :=
    if a = Reg.GLB_STATUS ∨ a = Reg.MBX_BOOT_INFO ∨ a = Reg.MBX_FW_STATE then allBits
    else if a = Reg.PAR_STATUS then 0x1FC00000
    else if b = 2 ∨ b = 9 ∨ b = 0xB then roBits a
    else if a = Reg.EVQ_GROUP_MASK_LO ∨ a = Reg.EVQ_GROUP_MASK_HI ∨ (0xA8000 ≤ a ∧ a < 0xB0000 ∧ a % 0x40 ≠ 0x20) then allBits
    else if 0xA8000 ≤ a ∧ a < 0xB0000 then 0x80000000
    else if a = Reg.PDM_STATE then 0xC0
    else if a = Reg.PDM_DVFS then 0x80
    else if b = 0xF ∧ a < 0xF8000 then roBits a
    else if a ≥ 0x100000 ∧ (a % 0x10000 = 0x100C ∨ a % 0x10000 = 0x380C) then allBits
    else 0
  k ||| rwsBits a ||| aoBits a

/-- What sleep keeps of the register at `a`: the always-on and power dies' own, the boot record, and the TIM registers until the sleep
snapshot is taken. -/
def sleepMask (a : Nat) : Word :=
  let b := a / 0x10000
  (if a = Reg.MBX_BOOT_INFO ∨ a = Reg.GLB_STATUS ∨ a = Reg.CRN_MEDIA ∨ b = 2 then allBits else if b = 0xB then roBits a else 0) ||| aoBits a

/-! ### Blocks -/

/-- Cairn's totals since cold reset and the freeze's own counts start again; MRAM, shadow ring and holding queue stand, with the number of
records that found the queue full (R20, R392). (DEDUCED, log entry 31.) -/
def Cairn.cold (c : Cairn) : Cairn :=
  { Cairn.reset with
    mram := c.mram, shadow := c.shadow, hold := c.hold, holdLost := c.holdLost, raised := c.raised, undef := c.undef }

/-- A link port after a reset that is not a cold one: only its totals stand (R116). -/
def LinkPort.warm (p : Nat) (l : LinkPort) : LinkPort :=
  { LinkPort.reset p with errTotal := l.errTotal, recTotal := l.recTotal, failTotal := l.failTotal }

/-- Trims and totals of the mains observer stand over a warm reset (R341, R343). -/
def Mains.warm (m : Mains) : Mains :=
  let keep (c : Nat) (x : MainsCh) : MainsCh := { MainsCh.reset c with ppm := x.ppm, nextPpm := x.nextPpm }
  { Mains.reset with
    chs := SMap.map MainsCh.reset keep m.chs, dips := m.dips, swells := m.swells, ints := m.ints, excs := m.excs }

/-- Totals and the flash's settings of pairing stand, what a follower's time rests on (R86), and PFI_N's conditions while the pin is
asserted. -/
def Pair.warm (p : Pair) : Pair :=
  { Pair.reset with
    takeovers := p.takeovers, lostAll := p.lostAll, saved := p.saved, savedNo := p.savedNo, pfi := p.pfi, ringOff := p.ringOff
    srcEst := p.srcEst, srcHold := p.srcHold, base := p.base, lastMsg := p.lastMsg, holds := p.holds, fresh := p.fresh }

def Pair.cold (p : Pair) : Pair := { Pair.reset with saved := p.saved, savedNo := p.savedNo, pfi := p.pfi.map fun _ => 0 }

def Scree.warm (x : Scree) : Scree := { Scree.reset with jtag := x.jtag, halted := x.halted }

/-- What is the controller's own of the power domains after a reset: rails, capture, save area; what was under way is dropped. (DEDUCED, log entry 33.) -/
def Pdm.warm (p : Pdm) : Pdm :=
  { Pdm.reset with
    seq := p.seq, rail := p.rail, en := p.en, fails := p.fails, retry := p.retry, lost := p.lost, pfiStop := p.pfiStop
    waking := p.waking, fired := p.fired, capture := p.capture, saved := p.saved, alarmFrom := p.alarmFrom, alarmHit := p.alarmHit }

def Pdm.cold (p : Pdm) : Pdm := { Pdm.reset with en := p.en, capture := p.capture, saved := p.saved }

/-- What the hosts have seen stands; nothing more is outstanding but reads that the part discards when they complete (R282). -/
def HostSide.after (h : HostSide) : HostSide :=
  let old (r : HostRead) : Option HostRead := if isPagerRead r then none else some { r with dead := true }
  { h with reads := (h.flying .h0 ++ h.flying .h1).filterMap old }

/-- The functions' MSI-X tables and AER settings are lost with the logic die's supply or at a cold reset. -/
def HostSide.off (h : HostSide) : HostSide := { h.after with msixMask := [], msixPend := [], msixTab := [], ecrcGen := [], ecrcChk := [] }

/-- Scree locks with a LOCK record, if it is open (R399, R400). -/
def State.screeLost (s : State) (cause : Nat) : State :=
  if s.on Fd.SCR_STATUS_UNLOCKED then s.raiseCairn 9 2 cause else s

/-- Cairn after a cold reset. One that leaves the supplies standing ends an open Scree with its LOCK record, of which the commit queue holds the
only one until the boot (R399, R400; DESIGN CHOICE, log entry 278). -/
def State.coldCairn (s : State) (reason : Nat) : Cairn :=
  let c := if reason = 1 then s.cairn else ({ s with cairn := { s.cairn with queue := [] } }.screeLost 2).cairn
  { c.cold with queue := if reason = 1 then [] else c.queue }

/-! ### Cold reset (R3) -/

/-- Every register and every block at its reset value. Flash, fuses and MRAM stand, and Tarn with what is kept there (R20); the power
and always-on pins too. The part is held until T0. -/
def State.coldReset (s : State) (reason : Nat) : State :=
  let b := { Boot.reset with rstN := s.boot.rstN, vaoOk := s.boot.vaoOk, vinOk := s.boot.vinOk, reason := reason }
  { State.reset with
    part := s.part
    host := { s.host.off with reads := [] }
    boot := b
    fw := { Firmware.reset with fuses := s.fw.fuses, fresh := s.fw.fresh }
    mbx := { Mailbox.reset with nextId := s.mbx.nextId }
    time := { Time.reset with cyc := s.time.cyc, rtc := s.time.rtc }
    evq := { EventCtl.reset with wakeIn := s.evq.wakeIn }
    cairn := s.coldCairn reason
    pair := s.pair.cold
    pdm := s.pdm.cold
    scree := { Scree.reset with jtag := s.scree.jtag, halted := s.scree.halted }
    tarn := s.tarn
    flash := s.flash
    journal := s.journal
    pending := s.pending }

/-! ### Warm reset and sleep (R52, R375) -/

/-- Every cached context is written back with VALID = 0 (R52), where the manager's port can issue the write (R160). (DEDUCED, log entry 39.) -/
def State.writeBackAll (s : State) : State :=
  (SMap.keys s.pager.ctxs).foldl (fun t k => match t.ctxEnt k with
    | some e =>
      if e.st = .clean ∨ e.st = .dirty ∨ e.st = .writing then
        (t.putCtxEnt k (some { e with gone := true, ctx := { e.ctx with valid := false } })).writeBack k (t.canIssue t.boot.barPort)
      else t
    | none => t) s

/-- Every existing instance is reset once (R280, R283), mailbox 0 with it. (DEDUCED, log entry 34.) -/
def State.resetAll (s : State) : State := foldN (fun t i => t.resetInst i true) s s.instList

/-- What the logic die loses at a warm reset or in sleep; `mask` says what the registers keep. Records, slots and packets of the old
generations wait for their discard (R281). A calibration window of the RTC under way is dropped (R84; DESIGN CHOICE, log entry 260). -/
def State.wipe (s : State) (mask : Nat → Word) : State :=
  let n := s.notePow
  { State.reset with
    part := s.part
    regs := n.resetRegs mask
    host := s.host.after
    boot := { s.boot with barOpen := false, warm := none, gpio := 0 }
    fw := { Firmware.reset with fuses := s.fw.fuses, fresh := s.fw.fresh, lastCause := s.fw.lastCause, lastFrame := s.fw.lastFrame }
    mbx := { Mailbox.reset with nextId := s.mbx.nextId, slots := s.mbx.slots }
    time := { s.time with ticking := false, sofs := [], period := none, calStart := none, phase := .running }
    evq := { s.evq with outs := [] }
    inst := { s.inst with resetAt := [], portRst := false }
    cairn := s.cairn
    links := { Links.reset with tab := SMap.map LinkPort.reset LinkPort.warm s.links.tab }
    rings := { Rings.reset with recs := s.rings.recs }
    alloc := { Alloc.reset with policy := s.alloc.policy }
    xfer := { Xfer.reset with slots := s.xfer.slots, results := s.xfer.results, bulkIn := s.xfer.bulkIn }
    dma := s.dma
    scree := s.scree.warm
    power := n.power
    mains := s.mains.warm
    red := { Red.reset with slots := s.red.slots }
    pair := s.pair.warm
    pdm := s.pdm.warm
    tarn := s.tarn
    flash := s.flash
    journal := s.journal
    pending := s.pending }

/-- Level sources that are no longer asserted leave PENDING after their block's registers are reset (R304). -/
def State.settleSources (s : State) : State := foldN State.resetSource s ((List.range 27).filter srcExists)

/-- R52: at its tick, clocks running on as they are, the warm reset resets what the chapters do not keep and goes on from image selection. (DEDUCED, log
entry 30.) The fallback of R22 ends with it (R380). A correction under way pauses while no ticks come, and goes on with the next ticked Col
(R86; DESIGN CHOICE, log entry 259). (DEDUCED, log entry 30.) -/
def State.warmReset (s : State) (reason : Nat) : State :=
  let s1 := (s.screeLost 2).resetAll.writeBackAll
  let s2 := (s1.wipe warmMask).settleSources
  let s3 := ((s2.put Fd.GLB_STATUS_COLD_BOOT 0).put Fd.GLB_STATUS_FW_RUNNING 0).put Fd.GLB_STATUS_STANDBY_READY 0
  let s4 := ((s3.put Fd.GLB_STATUS_ACTIVE_PAIR 0).put Fd.MBX_FW_STATE_MODE 0).put Fd.GLB_STATUS_OSC_FALLBACK 0
  let s5 := s4.setBoot { s4.boot with stage := .rom, reason := reason }
  s5.setTime { s5.time with counting := true, ctrlEff := s5.rd Reg.TIM_CTRL, frameOut := false, ppsOut := false, ppsFall := none }

/-! ### Rails (R379, R413) -/

/-- The sequencer's first stage: every enable, or VDDIO's. -/
def State.startRails (s : State) (sequenced : Bool) : State :=
  (s.editPdm fun p => { p with
    seq := sequenced, rail := if sequenced then 1 else 0, en := if sequenced then p.en ||| 1 else 15, retry := false, lost := false
    pfiStop := false }).setStage .regulators

/-- Every enable is released, in the reverse order. -/
def State.dropRails (s : State) : State :=
  (s.editPdm fun p => { p with en := 0, rail := 0, dvs := none, dvsSel := 0 }).put Fd.PDM_DVFS_PG 0

/-- T0 of the boot sequence: RST_N is high, no test instruction holds the logic die and every supply is in range (R47, R405, R410). -/
def State.t0 (s : State) : Bool := s.boot.rstN && s.boot.vaoOk && s.boot.vinOk && !s.scree.halted

def State.tryBoot (s : State) : State := if s.t0 then (s.editPdm fun p => { p with fails := 0 }).startRails false else s

end Sys2Proof.Machine
end

