-- ==== Sys2Proof/Machine/Boot.lean ====
section
/-! DEFINITION. Power-on, RST_N, the supplies and the boot sequence (01_architecture.md, R20, R22, R27; 02_mailbox_and_firmware.md, R46 to
R52; 15_power_domains.md, R375 to R380; 18_electrical_and_package.md, R413), and the test access port's hold (R405). -/

namespace Sys2Proof.Machine

/-! ### Supplies and RST_N -/

def State.setCairn (s : State) (c : Cairn) : State := { s with cairn := c }

/-- A supply of the logic die fails with a record of Cairn to be written: at most the one record or header in flight is torn, and the header in
flight may not have come to be written (R393). (DESIGN CHOICE, log entry 274.) -/
def State.cairnCut (s : State) : State :=
  let c := s.cairn
  let n := s.fw.fresh
  let torn (c : Cairn) (a k : Nat) : Cairn := mramWrite c a ((List.range k).map fun i => Config.mramTorn n (a + i))
  let cut (r : CairnRec) : Cairn :=
    let c1 := mramWrite c (ringAddr c.next) (recBytes ((c.lastSeq + 1) % 2 ^ 32) r)
    match Config.mramCut n % 5 with
    | 1 => torn c (ringAddr c.next) 32
    | 2 => c1
    | 3 => torn c1 (hdrAddr (1 - c.copy)) 36
    | _ => c
  if ¬ s.dieRuns ∨ c.frozenAt.isSome ∨ c.clearing.isSome ∨ c.media then s
  else
    let c2 := match c.last, c.nextRecord with
      | some l, _ => if l.dirty ∧ Config.mramCut n % 5 = 4 then torn c (ringAddr l.slot) 32 else (c.nextRecord.map cut).getD c
      | none, some r => cut r
      | none, none => c
    { s with cairn := c2, fw := { s.fw with fresh := n + 1 } }

/-- Cairn's boot: what a media fault leaves in the holding queue goes to the shadow ring (R394). -/
def State.cairnBoots (s : State) (cold powerOn : Bool) : State :=
  let s1 := s.setCairn (cairnBoot s.cairn cold powerOn)
  if s1.cairn.media then s1.cairnDivert else s1.cairnDrained

/-- R47, R410: VAO and VIN_PD are in range; power-on is a cold reset, and T0 if RST_N is high. -/
def execPowerOn (s : State) : Out :=
  if s.boot.vaoOk ∧ s.boot.vinOk then .next s
  else
    let s1 := (s.setBoot { s.boot with vaoOk := true, vinOk := true }).coldReset 1
    .next (s1.editPdm fun p => { p with en := 0 }).tryBoot

/-- R3: RST_N low is a cold reset and holds the logic die; it ends the hold of a test instruction (R405). (DEDUCED, log entry 29.) After the loss
of a rail the boot of R413 follows when RST_N rises (18, Races). -/
def execRstNAssert (s : State) : Out :=
  let s1 := { s.setBoot { s.boot with rstN := false } with scree := { s.scree with halted := false } }
  .next (s1.coldReset (if s.pdm.lost then 1 else 2))

/-- R47: RST_N rises. -/
def execRstNRise (s : State) : Out :=
  if s.boot.rstN then .next s else .next (s.setBoot { s.boot with rstN := true }).tryBoot

/-- R20: VAO has left its range: every gate is off, VP is discharged (18, Races), and Tarn's contents are undefined. -/
def execVaoLoss (s : State) : Out :=
  let n := s.fw.fresh
  let s1 := (s.cairnCut.setBoot { s.boot with vaoOk := false }).coldReset 1
  let cell (a : Nat) : Option (Nat × Byte) := if Config.tarnUndefined n a = 0 then none else some (a, Config.tarnUndefined n a)
  let tarn : Memory := (List.range 0x10000).filterMap cell
  let held := ((Config.tarnHold n).take 32).map fun x => ({ x.1 with ord := 0 }, x.2)
  let drain (p : Nat) (x : PortPow) : PortPow := { PortPow.reset p with dis := x.gates || x.dis }
  let s2 := { s1 with tarn := tarn, power := { s1.power with tab := SMap.map PortPow.reset drain s.power.tab }, journal := Config.tarnJournal n, fw := { s1.fw with fresh := n + 1 }
                      cairn := { s1.cairn with hold := held, shadow := (Config.tarnShadow n).take 16, undef := true } }
  .next (s2.editPdm fun p => { p with en := 0, capture := Config.tarnCapture n, saved := Config.tarnSaved n })

/-- R323, R370: VIN_PD has left its range: the power die has no supply. Every SNS presents Rd, and port power stops. (DEDUCED, log entry 151.) -/
def execVinPdLoss (s : State) : Out :=
  let s1 := foldN (fun t p => t.sinkLost p (s.pp p).attached) s s.portList
  let ppw (x : Nat × Word) : Bool := x.1 / 0x10000 != 0xB
  .next ({ s1 with
    power := PortPower.reset, regs := s1.regs.filter ppw, boot := { s1.boot with vinOk := false } })

/-- R413: a rail in use is lost: the logic die is held in reset and every rail is disabled; the H24 boots as after power-on 1 s later. (DEDUCED, log entry 153.) -/
def execRailLoss (rail : Nat) (s : State) : Out :=
  if 1 ≤ rail ∧ bitAt s.pdm.en (rail - 1) then
    let s1 := (s.cairnCut.coldReset 1).dropRails
    .next ((s1.editPdm fun p => { p with lost := true }).setStage .stopped)
  else .next s

def execRailLossReboot (s : State) : Out := if s.pdm.lost then .next s.tryBoot else .next s

/-- R405: EXTEST, CLAMP or HIGHZ halts the logic die as RST_N does; the other instructions act on the access port alone (R404). (DEDUCED, log entry 215.) -/
def execJtagInstructionLoad (ins : JtagInstr) (s : State) : Out :=
  let s1 := { s with scree := { s.scree with jtag := ins } }
  match ins with
  | .extest | .clamp | .highz => .next ({ s1 with scree := { s1.scree with halted := true } }.coldReset 2)
  | _ => .next s1

/-- IDCODE of the part (R404). -/
def State.idcode (s : State) : Nat := match s.part with
  | .k8 => 0x12400B57
  | .k4 => 0x12401B57

/-! ### Regulators, reference and PLL (R47, R379, R380) -/

/-- A domain changes state (PDM_STATE), with PDM_EVENT.DOMAIN. -/
def State.setDomain (s : State) (f : Fld) (v : Nat) : State :=
  if s.get f = v then s else (s.put f v).setEvent 24 Fd.PDM_EVENT_DOMAIN

/-- A stage failure is recorded in PDM_FAIL and in the wake-failure capture (R380). -/
def State.failStage (s : State) (stage rail rtc : Nat) : State :=
  let s1 := ((s.put Fd.PDM_FAIL_STAGE stage).put Fd.PDM_FAIL_RAIL rail).bump Fd.PDM_FAIL_COUNT
  let c : Capture := { fail := (s1.rd Reg.PDM_FAIL).toNat, rtc := rtc % 2 ^ 32, pending := true }
  s1.editPdm fun p => { p with capture := some c }

/-- The oscillator stage starts; TPHY is on if its rail is. -/
def State.startOsc (s : State) (phy : Bool) : State :=
  ((s.put Fd.PDM_STATE_TPHY (if phy then 3 else 0)).put Fd.PDM_DVFS_PG 1).setStage .reference

/-- R47: the regulators of the fast order report ready. -/
def execRegulatorsReady (s : State) : Out :=
  if s.boot.stage = .regulators ∧ ¬ s.pdm.seq then .next (s.startOsc true) else .next s

/-- The Saddle links of a paired controller leave off once their PHYs may run (R345, R380). -/
def State.saddleTrain (s : State) : State :=
  if s.parMode = 0 ∨ ¬ s.phyOn then s else foldN (fun t l => if t.sadState l = 0 then t.setSad l 1 else t) s [0, 1]

/-- The PD_SET_STATE that brings TPHY up ends (R384). -/
def State.endTphy (s : State) (ok : Bool) : State :=
  match s.pdm.tphyCmd with
  | some id =>
    let s1 := s.editPdm fun p => { p with tphyCmd := none }
    let s2 := if ok then (s1.setDomain Fd.PDM_STATE_TPHY 3).saddleTrain else s1.editPdm fun p => { p with en := p.en % 8 }
    match s2.findCmd id with
    | some c => if ok then s2.okay c [] else s2.finish c ST.fault 1 []
    | none => s2
  | none => s

/-- R379: the power-good of the rail whose stage runs. -/
def execRegulatorStageComplete (s : State) : Out :=
  if s.boot.stage = .regulators ∧ s.pdm.seq then
    (if s.pdm.rail < 4 then
      let r := s.pdm.rail
      .next (s.editPdm fun p => { p with rail := r + 1, en := p.en ||| 2 ^ r })
     else .next (s.startOsc true))
  else .next (s.endTphy true)

/-- R380: no power-good within 2 ms. Without VDD_PHY the boot goes on with TPHY OFF; otherwise the rails are disabled, and retried after
1 s, for at most 3 attempts. -/
def execRegulatorTimeout (rail rtc : Nat) (s : State) : Out :=
  if s.boot.stage = .regulators then
    let r := if s.pdm.seq then s.pdm.rail else rail
    let s1 := s.failStage 1 r rtc
    if r = 4 then .next ((s1.editPdm fun p => { p with en := p.en % 8 }).startOsc false)
    else
      let n := s.pdm.fails + 1
      .next ((s1.dropRails.editPdm fun p => { p with fails := n, retry := decide (n < 3) }).setStage .stopped)
  else if s.pdm.tphyCmd.isSome then
    let s1 := ((s.put Fd.PDM_FAIL_STAGE 1).put Fd.PDM_FAIL_RAIL 4).bump Fd.PDM_FAIL_COUNT
    .next (s1.endTphy false)
  else .next s

/-- R380: one second after the failure the sequencer tries again. -/
def execWakeRetry (s : State) : Out :=
  if s.pdm.retry ∧ s.boot.stage = .stopped then .next (s.startRails s.pdm.seq) else .next s

/-- R47: the reference is ready, and the PLL runs from it (R22). -/
def execReferenceReady (s : State) : Out :=
  if s.boot.stage = .reference then .next ((s.put Fd.GLB_STATUS_OSC_FALLBACK 0).setStage .pll) else .next s

/-- R22, R380: the PLL runs from the internal oscillator. -/
def execOscStageTimeout (rtc : Nat) (s : State) : Out :=
  if s.boot.stage = .reference then .next (((s.failStage 2 0 rtc).put Fd.GLB_STATUS_OSC_FALLBACK 1).setStage .pll) else .next s

/-- R27, R47, R86: the PLL locks. SYSTIME starts at 0, to be reconstructed from a valid snapshot; the pairs start, and after a cold reset
the boot header fixes BAR0. Both host ports train, and the domains on VDD_DVS are ON (R372). (DEDUCED, log entry 152.) -/
def execPllLock (s : State) : Out :=
  if s.boot.stage = .pll then
    let tim (x : Nat × Word) : Bool := x.1 / 0x10000 != 2
    let s1 := { s with regs := if s.pdm.waking then s.regs.filter tim else s.regs }
    let d := s.time.disc
    let s2 := (s1.setCairn { s1.cairn with opFrom := s.time.cyc }).setTime { Time.reset with
      cyc := s.time.cyc, rtc := s.time.rtc, recon := s.snapValid
      disc := { Discipline.reset with accTotal := d.accTotal, rejTotal := d.rejTotal, accAge := d.accAge } }
    let bar := if s.pdm.waking then s.boot.barPort else s.mgrSide
    let s3 := s2.setBoot { s2.boot with stage := .rom, barPort := bar }
    let s4 := (s3.put Fd.GLB_STATUS_MGR_PORT (if bar = .h1 then 1 else 0)).put Fd.MBX_FW_STATE_SEC_COUNT s.fw.fuses.sec
    let on (t : State) (f : Fld) : State := t.put f 3
    .next ([Fd.PDM_STATE_PAIRA, Fd.PDM_STATE_PAIRB, Fd.PDM_STATE_CLU].foldl on ((s4.putPortUp .h0 true).putPortUp .h1 true))
  else .next s

/-! ### Image selection (R46, R49, R50) -/

/-- The slot that boots: the preferred one, or that which ran at sleep entry, if R46 accepts it, else the other; none is recovery. -/
def State.bootSlot (s : State) : Option Nat :=
  let p := match s.pdm.waking, s.pdm.saved with
    | true, some v => v.slot
    | _, _ => s.preferred
  if s.accepted p then some p else if s.accepted (1 - p) then some (1 - p) else none

/-- BOOT_ERR of the selection; one code, the image's outcome first (DEDUCED, log entry 60). -/
def State.bootErr (s : State) (one : Bool) : Nat :=
  match s.bootSlot with
  | none => 2
  | some t =>
    if s.accepted s.preferred = false ∧ t ≠ s.preferred then 1
    else if s.newestHdr.isNone then 4
    else if one then 5 else 0

/-- R49: the boot ROM selects and loads an image; `okA`, `okB`: self-tests of the pairs. Pair A is active unless it failed. (DEDUCED, log
entry 38.) In recovery mode no image runs, and MBX_FW_VER and RUN_SLOT show slot A's (DESIGN CHOICE, log entry 258). (DEDUCED, log entry 38.) -/
def execImageSelect (okA okB : Bool) (s : State) : Out :=
  if s.boot.stage = .rom ∧ (okA ∨ okB) then
    let t := s.bootSlot.getD 0
    let pair (ok act : Bool) : CtlPair := { mode := if ¬ ok then .halted else if act then .active else .loading, slot := t, wd := 0, back := none }
    let s1 := { s with fw := { s.fw with pairA := pair okA okA, pairB := pair okB (!okA) } }
    let s2 := (s1.put Fd.GLB_STATUS_ACTIVE_PAIR (b2n !okA)).put Fd.GLB_STATUS_STANDBY_READY 0
    let s3 := if s.pdm.waking then s2 else s2.put Fd.MBX_BOOT_INFO_BOOT_ERR (s.bootErr (!okA || !okB))
    let s4 := (s3.showRunning t).put Fd.MBX_FW_STATE_MODE (b2n s.bootSlot.isNone)
    .next (s4.setStage .loaded)
  else .next s

/-! ### The configuration store, the save area and FW_RUNNING (R47, R50, R51, R377) -/

/-- A setting in the form of a command's request. -/
def settingCmd (req : List Byte) : Cmd :=
  { id := 0, mbx := 0, slot := 0, tag := 0, gen := 0, opcode := 0, req := req, target := none, takeFrame := 0, timeout := 0
    pend := false, begun := false, ended := none }

/-- An item of the store, where it is accepted and names one. -/
def State.storeItem (s : State) (n : Nat) : Option (List Byte) :=
  if s.accepted 2 then Config.storeItem (s.imageIn 2) n else none

/-- Instance 0's resources (R273): the store's item `r`, within the limits of R272, or the defaults. -/
def State.bootInst0 (s : State) (r : Option (List Byte)) : State :=
  let b := { Instance.reset 0 with port := s.boot.barPort, gen := (s.instOf 0).gen }
  s.setInst 0 (match r with
    | some r =>
      { b with allot := min (leAt r 0 4) 16368, dma := List.range (min (leAt r 4 1) 32)
               queues := List.range (max 1 (min (leAt r 5 1) 16)), table := leAt r 8 8 / 4096 * 4096, tablePasid := leAt r 16 4 }
    | none => { b with dma := List.range 4, queues := List.range 2 })

/-- A port's policy before the first tick (R322, R333); port 0 keeps its own role in dead-battery operation (R323). -/
def State.bootPort (s : State) (p : Nat) : State :=
    let c := settingCmd ((s.storeItem (8 + p)).getD (leBytes 1 p ++ [0, 1, 1] ++ zeros 4 ++ leBytes 4 (50 * 2 ^ 20) ++ zeros 28))
    let f := c.u 2 1
    let n := min (c.u 3 1) 4
    let w := b2n (bitAt f 0) * 2 ^ 31 + n * 2 ^ 8 + b2n (bitAt f 3) * 16 + b2n (bitAt f 2) * 8 + b2n (bitAt f 1) * 4 +
      (if s.on (Fd.PPW_P_STATUS_DB p) then s.roleCap p else c.u 1 1 % 3)
    (s.wr (Reg.PPW_P_CFG p) (BitVec.ofNat 32 w)).editPp p fun y =>
      { y with srcPdos := (List.range n).map fun i => c.u (8 + 4 * i) 4
               snkPdos := (List.range (min (c.u 4 1) 4)).map fun i => c.u (24 + 4 * i) 4, frsOffer := c.u 6 2 % 512 }

/-- The settings that the firmware applies at a boot: the store's, or the defaults; those that survive a warm reset and those of the
flash's persistent data take precedence (R86, R215, R273, R333, R343, R369). `cold`: not after a warm reset. -/
def State.applySettings (s : State) (cold : Bool) : State :=
  let s1 := if cold then foldN State.bootPort (s.bootInst0 (s.storeItem 0)) s.portList else s
  let s2 := match cold, s1.storeItem 1 with
    | true, some r => let c := settingCmd r; s1.setPps (c.u 0 1) (c.u 1 1) (c.u 2 2) (c.u 4 4) (c.u 8 4) (c.u 12 4)
    | _, _ => s1
  let s3 := match s2.alloc.policy, s2.storeItem 2 with
    | some r, _ => s2.setPolicy r
    | none, some r => s2.setPolicy r
    | none, none => s2
  let s4 := match s3.storeItem 3 with
    | some r => s3.mainsSet (settingCmd r)
    | none => s3
  let s5 := match s4.pair.savedNo, s4.storeItem 5 with
    | some n, _ => s4.renumber n
    | none, some r => s4.renumber (leAt r 0 1 % 64)
    | none, none => s4
  let s6 := match s5.pair.saved, s5.storeItem 4 with
    | some r, _ => s5.configurePair (settingCmd r) (!cold)
    | none, some r => s5.configurePair (settingCmd r) (!cold)
    | none, none => s5
  s6.setBoot { s6.boot with gpio := match s6.storeItem 6 with
    | some r => leAt r 0 2
    | none => 0 }

/-- Bits of the register at `a` that the save area holds (R376): RW fields of its blocks, and policy values mirrored in RO fields. -/
def saveBits (a : Nat) : Word :=
  let b := a / 0x10000
  let rw : Word := match regDesc a with
    | some d => BitVec.ofNat 32 d.rw
    | none => 0
  let whole := a = Reg.TIM_CTRL ∨ a = Reg.TIM_PPS_CTRL ∨ a = Reg.TIM_PPS_WINDOW ∨ a = Reg.TIM_RATE ∨ a = Reg.SCH_POLICY0 ∨
    a = Reg.SCH_POLICY1 ∨ a = Reg.SCH_ADDR_WINDOW ∨ a = Reg.MNS_CTRL ∨ a = Reg.PAR_CTRL ∨
    a = Reg.EVQ_GROUP_MASK_LO ∨ a = Reg.EVQ_GROUP_MASK_HI ∨ (0xA8000 ≤ a ∧ a < 0xB0000) ∨
    (a ≥ 0x100000 ∧ (a % 0x10000 = 0x100C ∨ a % 0x10000 = 0x380C))
  if whole then allBits
  else if b = 9 then roBits a
  else if b = 0 ∨ (2 ≤ b ∧ b ≤ 8) ∨ b = 0xC ∨ b = 0xD ∨ b = 0xE then rw else 0

/-- A source's saved configuration (R376). -/
def savedSource (n : Nat) (x : Source) : Source :=
  { Source.reset n with mask := x.mask, claim := x.claim, holdoff := x.holdoff, prio := x.prio, targets := x.targets
                        owner := x.owner, quar := x.quar }

/-- The mains configuration that the save area holds, with the trims and totals that stand by themselves (R341, R376). -/
def Mains.asleep (m : Mains) : Mains :=
  let keep (c : Nat) (x : MainsCh) : MainsCh := { MainsCh.reset c with ppm := x.ppm, nextPpm := x.nextPpm, udin := x.udin, fsv := x.fsv }
  { m.warm with
    chs := SMap.map MainsCh.reset keep m.chs, wiring := m.wiring, dipAt := m.dipAt, swellAt := m.swellAt, intAt := m.intAt
    hyst := m.hyst, fLow := m.fLow, fHigh := m.fHigh }

/-- What the save logic writes at sleep entry (R376). (DESIGN CHOICE, log entry 36.) -/
def State.saveArea (s : State) : Save :=
  let part (m : SMap Word) (x : Nat × Word) : SMap Word :=
    let b := saveBits x.1
    if b = 0 then m else SMap.put (fun _ => 0) x.1 (x.2 &&& b) m
  { regs := s.regs.foldl part [], srcs := SMap.map Source.reset savedSource s.evq.srcs, inst := s.inst.tab, qInst := s.evq.qInst
    policy := s.alloc.policy, slot := s.runSlot, frame := s.frame, hoPpb := s.disc.hoPpb, sleepPpb := s.disc.sleepPpb
    mains := s.mains.asleep }

/-- R377: the firmware restores the save area; registers it holds at their reset value come back so. -/
def State.restore (s : State) (v : Save) : State :=
  let keys := (SMap.keys v.regs ++ SMap.keys s.regs).filter fun a => saveBits a != 0
  let one (t : State) (a : Nat) : State :=
    let b := saveBits a
    let w := if (SMap.keys v.regs).contains a then SMap.get (fun _ => 0) v.regs a else regReset t.part a &&& b
    t.wr a ((t.rd a &&& ~~~ b) ||| w)
  let s1 := foldN one s keys
  let s2 : State := { s1 with
    evq := { s1.evq with srcs := v.srcs, qInst := v.qInst }
    inst := { s1.inst with tab := v.inst }
    alloc := { s1.alloc with policy := v.policy }
    mains := v.mains }.put Fd.MNS_STATUS_WIRING v.mains.wiring
  let bind (t : State) (i : Nat) : State := foldN (fun u n => State.bindDma u (some i) n) t (t.instOf i).dma
  let s3 : State := foldN bind s2 s2.instList
  let s4 := s3.setDisc { s3.disc with hoPpb := v.hoPpb, sleepPpb := v.sleepPpb }
  let s5 := if s4.on Fd.TIM_PPS_CTRL_EN ∧ ¬ s4.time.recon ∧ s4.discState = 0 then s4.enterAcquire none else s4
  let s6 := s5.saddleTrain
  s6.setTime { s6.time with ctrlEff := s6.rd Reg.TIM_CTRL }

/-- Wake sources that have fired since sleep entry (R378): latches, the RTC alarm, and port-power events of the time asleep. -/
def State.wakeFired (s : State) : Nat :=
  let pow := s.portList.any fun p =>
    let h := (s.pp p).held
    bitAt h 0 || bitAt h 1 || bitAt h 6
  ((s.rd Reg.EVQ_WAKE_LATCH).toNat % 16 + 16 * b2n s.pdm.alarmHit + 32 * b2n pow) &&& s.get Fd.PDM_WAKE_CFG_EN

/-- R50: in recovery mode the ticks come at the default period, 250 µs. -/
def State.defaultPeriod (s : State) : State :=
  let s1 := s.put Fd.TIM_CTRL_PERIOD 1
  s1.setTime { s1.time with boundary := s1.time.boundary / periodNs 1 * periodNs 1 }

/-- R47, R50, R51, R377: the active pair has applied its settings and sets FW_RUNNING, `elapsed` units of 0.1 ms after T0, after the tick of
the warm reset, or after the wake trigger. The BAR0 window opens, and ticks run. (DEDUCED, log entry 32.) -/
def execFwRunning (elapsed : Nat) (s : State) : Out :=
  if s.boot.stage = .loaded then
    let recovery := s.mode = 1
    let wake := s.pdm.waking
    let cold : Bool := s.on Fd.GLB_STATUS_COLD_BOOT
    let bad := !recovery && !s.accepted 2
    let s1 := s.cairnBoots (cold && !wake) (s.boot.reason == 1)
    let off (t : State) (p : Nat) : State := (t.put (Fd.PPW_P_CFG_EN p) 0).powerOff p
    let s2 : State :=
      if recovery then (foldN off (if cold then s1.bootInst0 none else s1) s1.portList).defaultPeriod
      else match wake, s1.pdm.saved with
        | true, some v => s1.restore v
        | true, none => (s1.applySettings true).raiseCairn 1 7 0
        | false, _ => s1.applySettings cold
    let s3 := if bad ∧ ¬ wake then (if s2.get Fd.MBX_BOOT_INFO_BOOT_ERR = 0 then s2.put Fd.MBX_BOOT_INFO_BOOT_ERR 3 else s2) else s2
    let s4 := if wake then
        (((s3.put Fd.PDM_WAKE_CAUSE_FROM 2).put Fd.PDM_WAKE_CAUSE_DOORBELL 0).put Fd.PDM_WAKE_CAUSE_SOURCES
          (s3.pdm.fired ||| s3.wakeFired)).put Fd.PDM_WAKE_TIME_TIME (min elapsed 0xFFFF)
      else (s3.put Fd.MBX_BOOT_INFO_BOOT_TIME (min elapsed 0xFFFF)).put Fd.MBX_BOOT_INFO_REASON s3.boot.reason
    let s5 := if wake then s4 else s4.raiseCairn 1 1 (s4.rd Reg.MBX_BOOT_INFO).toNat
    let s6 := if recovery then s5.raiseCairn 1 2 (s5.get Fd.MBX_BOOT_INFO_BOOT_ERR)
      else if bad ∧ ¬ (wake ∧ s.pdm.saved.isSome) then s5.raiseCairn 1 3 0 else s5
    let s7 := (s6.put Fd.GLB_STATUS_FW_RUNNING 1).setBoot { s6.boot with
      stage := if recovery then .recovery else .running, barOpen := true }
    .next (s7.setTime { s7.time with ticking := true, ctrlEff := s7.rd Reg.TIM_CTRL }).showPool
  else .next s

def State.setFw (s : State) (f : Firmware) : State := { s with fw := f }

/-- R47, R55, R374: the standby pair has completed its checks; after a fault of the active pair in BUS_KEEP the takeover follows at the
second tick. -/
def execStandbyReadyCheck (ok : Bool) (s : State) : Out :=
  if s.boot.stage = .running ∧ s.otherPair.mode = .loading ∧ s.otherPair.back.isNone ∧ s.standbyOn ∧ ¬ s.bistStandby then
    let m : PairMode := if ok then .ready else .halted
    let s1 := (s.putOther { s.otherPair with mode := m }).put Fd.GLB_STATUS_STANDBY_READY (b2n ok)
    let s2 := if ok then s1.put Fd.MBX_FW_STATE_STBY_SLOT s.otherPair.slot else s1
    let s3 := (s2.editPdm fun p => { p with stdCmd := none, keepFault := p.keepFault && !ok }).setFw
      (if s.pdm.keepFault ∧ ok then { s2.fw with takeoverAt := some ((s.frame + 2) % 2 ^ 32) } else s2.fw)
    .next (match s.pdm.stdCmd.bind s3.findCmd with
      | some c => if ok then s3.okay c [] else s3.finish c ST.fault 0 []
      | none => s3)
  else .next s

end Sys2Proof.Machine
end

