-- ==== Sys2Proof/Machine/RedOps.lean ====
section
/-! DEFINITION. The reduction cluster's arithmetic, its operation library and the judgement of a graph table (09, R246 to R253). -/

namespace Sys2Proof.Machine

/-! ### Arithmetic (R247) -/

/-- Saturations counted by an execution: of the accumulator and of narrow. -/
structure Sat where
  acc : Nat
  nar : Nat
  deriving DecidableEq, Repr

/-- The 48-bit accumulator takes a sum (R247). -/
def acc48 (c : Sat) (x : Int) : Int × Sat :=
  if x > 2 ^ 47 - 1 then (2 ^ 47 - 1, { c with acc := c.acc + 1 })
  else if x < -2 ^ 47 then (-2 ^ 47, { c with acc := c.acc + 1 })
  else (x, c)

/-- `narrow` before its clamp: an arithmetic shift rounded half to even. -/
def shiftEven (x : Int) (sh : Nat) : Int := divRoundEven x (2 ^ sh)

/-- R247: narrow(acc, sh). -/
def narrow (c : Sat) (x : Int) (sh : Nat) : Int × Sat :=
  let q := shiftEven x sh
  if q > 8388607 then (8388607, { c with nar := c.nar + 1 })
  else if q < -8388608 then (-8388608, { c with nar := c.nar + 1 })
  else (q, c)

/-- The accumulator takes `x`, and the result is narrowed. -/
def accNarrow (c : Sat) (x : Int) (sh : Nat) : Int × Sat :=
  let y := acc48 c x
  narrow y.2 y.1 sh

/-- The accumulator takes one term after another (R247; saturation at each sum is DEDUCED). (DEDUCED, log entry 189.) -/
def accSum (c : Sat) (l : List Int) : Int × Sat := l.foldl (fun (y : Int × Sat) x => acc48 y.2 (y.1 + x)) (0, c)

/-- Division by a positive number, half to even. -/
def divEven (a : Int) (b : Nat) : Int := divRoundEven a b

/-- Nearest integer to the square root of `m` (R247). -/
def isqrtNear (m : Nat) : Nat :=
  let r := isqrtQ m 1 32 0
  if m - r * r > r then r + 1 else r

/-! ### Values (R246, R248) -/

/-- Element `k`, a value of length 1 being broadcast. -/
def RVal.at_ (x : RVal) (k : Nat) : RElem := if x.length = 1 then x.getD 0 (0, false) else x.getD k (0, false)

/-- Valid elements with their indexes. -/
def validFrom (i : Nat) : RVal → List (Nat × Int)
  | [] => []
  | (v, ok) :: l => if ok then (i, v) :: validFrom (i + 1) l else validFrom (i + 1) l

/-- Run `f` over 0 to n − 1 and carry the saturation counts. -/
def mapSat (f : Nat → Sat → RElem × Sat) (n : Nat) (c : Sat) : RVal × Sat :=
  (List.range n).foldl (fun (y : RVal × Sat) k => ((y.1 ++ [(f k y.2).1]), (f k y.2).2)) ([], c)

def GNode.par (x : GNode) (i : Nat) : Int := x.p.getD i 0
def GNode.parN (x : GNode) (i : Nat) : Nat := (x.par i).toNat

/-- A pool word, and a pool word as a signed number. -/
def poolAt (pool : List Nat) (i : Nat) : Nat := pool.getD i 0
def poolInt (pool : List Nat) (i : Nat) : Int := toSigned 24 (poolAt pool i)

/-! ### Elementwise operations (R253, codes 0x10 to 0x1D) -/

/-- LOOKUP of a value. -/
def lookup (pool : List Nat) (x : GNode) (v : Int) (c : Sat) : Int × Sat :=
  let t (i : Nat) : Int := poolInt pool (x.parN 0 + i)
  let size := x.parN 1
  let sh := x.parN 3
  let d := v - x.par 2
  let i := (d / (2 ^ sh : Nat)).toNat
  if d < 0 then (t 0, c)
  else if i ≥ size - 1 then (t (size - 1), c)
  else accNarrow c (t i * (2 ^ sh : Nat) + (t (i + 1) - t i) * (d - (i * 2 ^ sh : Nat))) sh

def cmpRel (rel : Nat) (a b : Int) : Bool :=
  match rel with
  | 0 => a == b
  | 1 => a != b
  | 2 => decide (a < b)
  | 3 => decide (a ≤ b)
  | 4 => decide (a > b)
  | _ => decide (a ≥ b)

def i01 (b : Bool) : Int := if b then 1 else 0

/-- The result of an elementwise operation on valid elements. -/
def elemOp (pool : List Nat) (x : GNode) (a b : Int) (c : Sat) : Int × Sat :=
  match x.op with
  | 0x10 => accNarrow c (a + b) 0
  | 0x11 => accNarrow c (a - b) 0
  | 0x12 => accNarrow c (a * x.par 0 + x.par 1 * (2 ^ x.parN 2 : Nat)) (x.parN 2)
  | 0x13 => accNarrow c (a * b) (x.parN 0)
  | 0x14 => accNarrow c a.natAbs 0
  | 0x15 => (min (max a (x.par 0)) (x.par 1), c)
  | 0x16 => (min a b, c)
  | 0x17 => (max a b, c)
  | 0x19 => (i01 (cmpRel (x.parN 0) a b), c)
  | 0x1A => (i01 (a != 0 && b != 0), c)
  | 0x1B => (i01 (a != 0 || b != 0), c)
  | 0x1C => (i01 (a == 0), c)
  | _ => lookup pool x a c

/-- Elementwise: valid where every connected input is valid (R248). -/
def elemwise (pool : List Nat) (x : GNode) (a : RVal) (b : Option RVal) (c : Sat) : RVal × Sat :=
  let n := max a.length ((b.map List.length).getD 0)
  mapSat (fun k c1 =>
    let u := a.at_ k
    let v := (b.map fun y => RVal.at_ y k).getD (0, true)
    if u.2 && v.2 then
      let r := elemOp pool x u.1 v.1 c1
      ((r.1, true), r.2)
    else ((0, false), c1)) n c

/-- SELECT: a where c ≠ 0, otherwise b; valid when c and the selected element are. -/
def select (a b c : RVal) : RVal :=
  (List.range (max a.length (max b.length c.length))).map fun k =>
    let s := c.at_ k
    let v := if s.1 ≠ 0 then a.at_ k else b.at_ k
    if s.2 && v.2 then (v.1, true) else (0, false)

/-! ### Stateful operations (R248, R253, codes 0x20 to 0x29) -/

/-- One step of an element: input, its state words, the output element and the new state. An empty state is the starting
value. An invalid input leaves the state as it is and repeats the last output, marked invalid. -/
def hystStep (x : GNode) (v : Int) (ok : Bool) (st : List Int) : RElem × List Int :=
  let y := st.getD 0 (x.par 3)
  let up : Bool := if x.par 2 = 0 then decide (v ≥ x.par 0) else decide (v ≤ x.par 1)
  let down : Bool := if x.par 2 = 0 then decide (v ≤ x.par 1) else decide (v ≥ x.par 0)
  let z := if up then 1 else if down then 0 else y
  if ok then ((z, true), [z]) else ((y, false), st)

/-- DEBOUNCE: state words are the output and the run of equal inputs, negative for zeros. -/
def debounceStep (x : GNode) (v : Int) (ok : Bool) (st : List Int) : RElem × List Int :=
  let y := st.getD 0 0
  let r := st.getD 1 0
  if ¬ ok then ((y, false), st)
  else
    let r1 : Int := if v ≠ 0 then (if r > 0 then min 4095 (r + 1) else 1) else (if r < 0 then max (-4095) (r - 1) else -1)
    let z := if r1 ≥ x.par 0 then 1 else if -r1 ≥ x.par 1 then 0 else y
    ((z, true), [z, r1])

/-- EDGE: 1 when a ≠ 0 has changed in the KIND sense since the last valid input. -/
def edgeStep (x : GNode) (v : Int) (ok : Bool) (st : List Int) : RElem × List Int :=
  if ¬ ok then ((st.getD 1 0, false), st)
  else
    let z : Int := match st with
      | [] => 0
      | w :: _ =>
        let rise := decide (v ≠ 0 ∧ w = 0)
        let fall := decide (v = 0 ∧ w ≠ 0)
        i01 (match x.parN 0 with
          | 0 => rise
          | 1 => fall
          | _ => rise || fall)
    ((z, true), [v, z])

/-- PREV and DELTA: state words are the last valid input and the last output. -/
def prevStep (x : GNode) (v : Int) (ok : Bool) (st : List Int) (c : Sat) : (RElem × List Int) × Sat :=
  if ¬ ok then (((st.getD 1 0, false), st), c)
  else match st with
    | [] => (((0, false), [v, 0]), c)
    | w :: _ =>
      let r := if x.op = 0x23 then (w, c) else accNarrow c (v - w) 0
      (((r.1, true), [v, r.1]), r.2)

/-- IIR1 and RATELIM: the first valid input sets y = a. -/
def trackStep (x : GNode) (v : Int) (ok : Bool) (st : List Int) (c : Sat) : (RElem × List Int) × Sat :=
  let y := st.getD 0 0
  if ¬ ok then (((y, false), st), c)
  else if st.isEmpty then (((v, true), [v]), c)
  else if x.op = 0x25 then
    let r := accNarrow c ((v - y) * x.par 0) 23
    (((y + r.1, true), [y + r.1]), r.2)
  else
    let z := y + clampInt (v - y) (-(x.par 0)) (x.par 0)
    (((z, true), [z]), c)

/-- BIQUAD: state words x1, x2, y1, y2. -/
def biquadStep (pool : List Nat) (x : GNode) (v : Int) (ok : Bool) (st : List Int) (c : Sat) : (RElem × List Int) × Sat :=
  let k (i : Nat) : Int := poolInt pool (x.parN 0 + i)
  let x1 := st.getD 0 0
  let x2 := st.getD 1 0
  let y1 := st.getD 2 0
  let y2 := st.getD 3 0
  if ¬ ok then (((y1, false), st), c)
  else
    let s := accSum c [k 0 * v, k 1 * x1, k 2 * x2, -(k 3 * y1), -(k 4 * y2)]
    let r := narrow s.2 s.1 22
    (((r.1, true), [v, x1, r.1, y1]), r.2)

/-- MOVAVG: state words are the last output and the last valid inputs, oldest first. -/
def movavgStep (x : GNode) (v : Int) (ok : Bool) (st : List Int) (c : Sat) : (RElem × List Int) × Sat :=
  let w := 2 ^ x.parN 0
  let o := st.getD 0 0
  if ¬ ok then (((o, false), st), c)
  else
    let l := st.drop 1 ++ [v]
    let buf := l.drop (l.length - w)
    if buf.length = w then
      let s := accSum c buf
      let r := narrow s.2 s.1 (x.parN 0)
      (((r.1, true), r.1 :: buf), r.2)
    else (((o, false), o :: buf), c)

/-- INTEGRATE: state words are s and the last output. -/
def integrateStep (x : GNode) (v : Int) (ok : Bool) (reset : Bool) (st : List Int) (c : Sat) : (RElem × List Int) × Sat :=
  if ¬ ok then (((st.getD 1 0, false), st), c)
  else
    let s0 := if reset then 0 else st.getD 0 0
    let s := acc48 c (s0 + v)
    let r := narrow s.2 s.1 (x.parN 0)
    (((r.1, true), [s.1, r.1]), r.2)

/-- One element of a stateful node. An invalid r of INTEGRATE leaves the state unchanged (R248). -/
def statefulStep (pool : List Nat) (x : GNode) (a : RElem) (r : Option RElem) (st : List Int) (c : Sat) :
    (RElem × List Int) × Sat :=
  match x.op with
  | 0x20 => (hystStep x a.1 a.2 st, c)
  | 0x21 => (debounceStep x a.1 a.2 st, c)
  | 0x22 => (edgeStep x a.1 a.2 st, c)
  | 0x23 => prevStep x a.1 a.2 st c
  | 0x24 => prevStep x a.1 a.2 st c
  | 0x25 => trackStep x a.1 a.2 st c
  | 0x26 => biquadStep pool x a.1 a.2 st c
  | 0x27 => movavgStep x a.1 a.2 st c
  | 0x28 => integrateStep x a.1 (a.2 && (r.map (·.2)).getD true) (decide ((r.map (·.1)).getD 0 ≠ 0)) st c
  | _ => trackStep x a.1 a.2 st c

def noWords (_ : Nat) : List Int := []

/-- The whole node: its output, its elements' new states, and the counts. -/
def stateful (pool : List Nat) (x : GNode) (a : RVal) (r : Option RVal) (st : SMap (List Int)) (c : Sat) :
    RVal × SMap (List Int) × Sat :=
  let n := max a.length ((r.map List.length).getD 0)
  (List.range n).foldl (fun (y : RVal × SMap (List Int) × Sat) k =>
    let e := statefulStep pool x (a.at_ k) (r.map fun z => RVal.at_ z k) (SMap.get noWords st k) y.2.2
    (y.1 ++ [e.1.1], SMap.put noWords k e.1.2 y.2.1, e.2)) ([], st, c)

/-! ### Reductions (R248, R253, codes 0x30 to 0x38) -/

/-- Of indexed values, the first with the largest key. -/
def bestBy (key : Int → Int) : List (Nat × Int) → Option (Nat × Int)
  | [] => none
  | x :: l => some (l.foldl (fun (b : Nat × Int) y => if key y.2 > key b.2 then y else b) x)

def sumInts (l : List Int) : Int := l.foldl (· + ·) 0

/-- The result of a reduction over its valid elements, at least MINV of them. -/
def reduceVals (x : GNode) (vs : List (Nat × Int)) (c : Sat) : List Int × Sat :=
  let l := vs.map (·.2)
  let n := l.length
  let mean := divEven (sumInts l) n
  let hi := ((bestBy id vs).map (·.2)).getD 0
  let lo := ((bestBy (fun v => -v) vs).map (·.2)).getD 0
  match x.op with
  | 0x31 => ([mean], c)
  | 0x32 => match bestBy (fun v => -v) vs with
    | some (k, v) => ([v, k], c)
    | none => ([0, 0], c)
  | 0x33 => match bestBy id vs with
    | some (k, v) => ([v, k], c)
    | none => ([0, 0], c)
  | 0x35 =>
    match bestBy (fun v => ((v - mean).natAbs : Int)) vs with
    | some (k, v) =>
      let r1 := accNarrow c (hi - lo) 0
      let r2 := accNarrow r1.2 (v - mean).natAbs 0
      ([r1.1, r2.1, k, mean], r2.2)
    | none => ([0, 0, 0, 0], c)
  | 0x36 =>
    let r := accNarrow c (isqrtNear (divEven (sumInts (l.map fun v => v * v)) n).toNat) 0
    ([r.1], r.2)
  | _ =>
    let s := accSum c l
    let r := narrow s.2 s.1 (x.parN 0)
    ([r.1], r.2)

/-- MINV of a reduction; 0 counts as 1 (R248), and so does a negative one (DEDUCED, log entry 191). -/
def GNode.minv (x : GNode) : Nat :=
  max 1 (match x.op with
    | 0x30 => x.parN 1
    | 0x37 => x.parN 1
    | 0x38 => x.parN 2
    | _ => x.parN 0)

/-- The products of DOT at the positions valid in both inputs. -/
def dotVals (a b : RVal) : RVal :=
  (List.range (max a.length b.length)).map fun k => ((a.at_ k).1 * (b.at_ k).1, (a.at_ k).2 && (b.at_ k).2)

def reduce (x : GNode) (a : RVal) (c : Sat) : RVal × Sat :=
  let vs := validFrom 0 a
  if x.op = 0x34 then ([((vs.length : Int), true)], c)
  else if vs.length < x.minv then (List.replicate x.outLen (0, false), c)
  else
    let r := reduceVals x vs c
    (r.1.map fun v => (v, true), r.2)

/-- SEGSUM: each segment judged alone. -/
def segsum (x : GNode) (a : RVal) (c : Sat) : RVal × Sat :=
  let seg := x.parN 0
  mapSat (fun k c1 =>
    let vs := validFrom 0 ((a.drop (k * seg)).take seg)
    if vs.length < x.minv then ((0, false), c1)
    else
      let s := accSum c1 (vs.map (·.2))
      let r := narrow s.2 s.1 (x.parN 1)
      ((r.1, true), r.2)) (a.length / seg) c

/-! ### Shaping (R253, codes 0x40 to 0x42) -/

/-- PICK: a[i_k]; invalid where i_k is invalid or outside a. -/
def pick (a i : RVal) : RVal :=
  i.map fun e => if e.2 ∧ 0 ≤ e.1 ∧ e.1.toNat < a.length then List.getD a e.1.toNat (0, false) else (0, false)

/-! ### The library table (R253) -/

/-- Inputs a, b, c of an operation (0 not used, 1 required, 2 optional) and the number of its parameters; `none` for a
reserved code. (DEDUCED, log entry 190.) -/
def libRow (op : Nat) : Option (Nat × Nat × Nat × Nat) :=
  match op with
  | 0x01 => some (0, 0, 0, 2)
  | 0x02 => some (0, 0, 0, 3)
  | 0x03 => some (0, 0, 0, 2)
  | 0x04 => some (0, 0, 0, 0)
  | 0x10 => some (1, 1, 0, 0)
  | 0x11 => some (1, 1, 0, 0)
  | 0x12 => some (1, 0, 0, 3)
  | 0x13 => some (1, 1, 0, 1)
  | 0x14 => some (1, 0, 0, 0)
  | 0x15 => some (1, 0, 0, 2)
  | 0x16 => some (1, 1, 0, 0)
  | 0x17 => some (1, 1, 0, 0)
  | 0x18 => some (1, 1, 1, 0)
  | 0x19 => some (1, 1, 0, 1)
  | 0x1A => some (1, 1, 0, 0)
  | 0x1B => some (1, 1, 0, 0)
  | 0x1C => some (1, 0, 0, 0)
  | 0x1D => some (1, 0, 0, 4)
  | 0x20 => some (1, 0, 0, 4)
  | 0x21 => some (1, 0, 0, 2)
  | 0x22 => some (1, 0, 0, 1)
  | 0x23 => some (1, 0, 0, 0)
  | 0x24 => some (1, 0, 0, 0)
  | 0x25 => some (1, 0, 0, 1)
  | 0x26 => some (1, 0, 0, 1)
  | 0x27 => some (1, 0, 0, 1)
  | 0x28 => some (1, 2, 0, 1)
  | 0x29 => some (1, 0, 0, 1)
  | 0x30 => some (1, 0, 0, 2)
  | 0x31 => some (1, 0, 0, 1)
  | 0x32 => some (1, 0, 0, 1)
  | 0x33 => some (1, 0, 0, 1)
  | 0x34 => some (1, 0, 0, 0)
  | 0x35 => some (1, 0, 0, 1)
  | 0x36 => some (1, 0, 0, 1)
  | 0x37 => some (1, 1, 0, 2)
  | 0x38 => some (1, 0, 0, 3)
  | 0x40 => some (1, 1, 0, 0)
  | 0x41 => some (1, 0, 0, 2)
  | 0x42 => some (1, 1, 0, 0)
  | 0x48 => some (1, 0, 0, 1)
  | 0x49 => some (1, 0, 0, 1)
  | 0x50 => some (1, 0, 0, 1)
  | 0x51 => some (1, 2, 0, 5)
  | 0x52 => some (1, 0, 0, 1)
  | _ => none

/-- Elementwise operations of several inputs: equal lengths, or 1 (R248). -/
def multiOps : List Nat := [0x10, 0x11, 0x13, 0x16, 0x17, 0x18, 0x19, 0x1A, 0x1B, 0x28, 0x37]

/-- N: the length of the longest connected input; a source's own length (R253). -/
def nodeN (lens : List Nat) (x : GNode) : Nat :=
  let l (i : Option Nat) : Nat := (i.map fun j => lens.getD j 0).getD 0
  if x.a.isNone then x.outLen else max (l x.a) (max (l x.b) (l x.c))

/-- Payload words of a BUS_CMD. -/
def payloadWords (lens : List Nat) (pool : List Nat) (x : GNode) : Nat := match x.b with
  | some j => lens.getD j 0
  | none => poolAt pool (x.parN 4)

/-- The Cycles column (R253), in DVS cycles. -/
def nodeCycles (lens : List Nat) (pool : List Nat) (x : GNode) : Nat :=
  let n := nodeN lens x
  match x.op with
  | 0x01 => 32 + 2 * x.parN 1 + (n + 7) / 8
  | 0x04 => 16
  | 0x1D => 16 + 3 * n
  | 0x20 => 16 + 2 * n
  | 0x21 => 16 + 2 * n
  | 0x25 => 16 + 2 * n
  | 0x26 => 16 + 6 * n
  | 0x27 => 16 + 2 * n
  | 0x28 => 16 + 2 * n
  | 0x29 => 16 + 2 * n
  | 0x31 => 40 + n
  | 0x35 => 40 + 2 * n
  | 0x36 => 64 + n
  | 0x41 => 16 + x.parN 1
  | 0x42 => 16 + x.outLen
  | 0x48 => 20
  | 0x49 => 20
  | 0x51 => 16 + payloadWords lens pool x
  | 0x52 => 16
  | _ => 16 + n

/-- The State words column (R253). -/
def nodeState (lens : List Nat) (x : GNode) : Nat :=
  let n := nodeN lens x
  match x.op with
  | 0x20 => n
  | 0x21 => 2 * n
  | 0x22 => n
  | 0x23 => n
  | 0x24 => n
  | 0x25 => n
  | 0x26 => 4 * n
  | 0x27 => (2 ^ x.parN 0 + 2) * n
  | 0x28 => 2 * n
  | 0x29 => n
  | 0x49 => 1
  | 0x51 => 1
  | 0x52 => 1
  | _ => 0

/-! ### Judging a graph table (R249 to R252, GRAPH_LOAD of R271) -/

/-- A bit pattern of an input field: 0xFFF is not connected. -/
def inputOf (v : Nat) : Option Nat := if v = 0xFFF then none else some v

/-- The node entry of 8 words. -/
def nodeOf (e : List Nat) : GNode :=
  let w (i : Nat) : Nat := e.getD i 0
  { op := w 0 / 2 ^ 16, trace := bitAt (w 0) 15, hint := if bitAt (w 0) 14 then some ((w 0 / 2 ^ 10) % 16) else none
    a := inputOf (w 1 / 2 ^ 12), b := inputOf (w 1 % 2 ^ 12), c := inputOf (w 2 / 2 ^ 12), outLen := w 2 % 2 ^ 11
    p := (List.range 5).map fun i => toSigned 24 (w (3 + i)) }

/-- `lo ≤ v ≤ hi`. -/
def inRange (v lo hi : Int) : Bool := decide (lo ≤ v ∧ v ≤ hi)

/-- A rule of the judgement: its DETAIL where it is broken. -/
def brk (ok : Bool) (d : Nat) : List Nat := if ok then [] else [d]

/-- An input is connected or missing against the library table, or names a node that is not below (DETAIL 6). -/
def inputRule (i need : Nat) (x : Option Nat) : List Nat :=
  match x with
  | none => brk (need != 1) 6
  | some j => brk (need != 0 && decide (j < i)) 6

/-- The entries of a gather list are well-formed (R252; DETAIL 8). -/
def gatherRule (pool : List Nat) (off n : Nat) : List Nat :=
  (List.range n).flatMap fun k =>
    let sea := poolAt pool (off + 2 * k)
    let w := poolAt pool (off + 2 * k + 1)
    let first := (w / 2 ^ 10) % 2 ^ 10
    let count := w % 2 ^ 10
    brk (bitAt sea 23 && decide (w / 2 ^ 20 = 0 ∧ 1 ≤ count ∧ first + count ≤ 1024)) 8

def gatherLen (pool : List Nat) (off n : Nat) : Nat :=
  (List.range n).foldl (fun t k => t + poolAt pool (off + 2 * k + 1) % 2 ^ 10) 0

/-- A pool block lies inside the pool (DETAIL 9). -/
def poolRule (pool : List Nat) (off : Int) (n : Nat) : List Nat := brk (decide (0 ≤ off ∧ off + n ≤ pool.length)) 9

/-- Parameter ranges of the library table and its pool references (DETAILs 8 and 9); `n` is N, `la` the length of a. (DEDUCED, log entry 191.) -/
def paramRule (pool : List Nat) (x : GNode) (n la : Nat) : List Nat :=
  let p := x.par
  let sh (i : Nat) : Bool := inRange (p i) 0 23
  match x.op with
  | 0x01 =>
    if inRange (p 1) 1 256 then
      (match poolRule pool (p 0) (2 * x.parN 1) with
        | [] => gatherRule pool (x.parN 0) (x.parN 1)
        | l => l)
    else [8]
  | 0x02 => brk (inRange (p 0) 0 15 && inRange (p 1) 1 16 && decide (p 0 + p 1 ≤ 16) && inRange (p 2) 0 1) 8
  | 0x03 => if inRange (p 1) 1 1024 then poolRule pool (p 0) (x.parN 1) else [8]
  | 0x12 => brk (sh 2) 8
  | 0x13 => brk (sh 0) 8
  | 0x15 => brk (decide (p 0 ≤ p 1)) 8
  | 0x19 => brk (inRange (p 0) 0 5) 8
  | 0x1D => brk (inRange (p 1) 2 256 && inRange (p 3) 0 16) 8 ++
      (if inRange (p 1) 2 256 then poolRule pool (p 0) (x.parN 1) else [])
  | 0x20 => brk (decide (p 1 < p 0) && inRange (p 2) 0 1 && inRange (p 3) 0 1) 8
  | 0x21 => brk (inRange (p 0) 1 4095 && inRange (p 1) 1 4095) 8
  | 0x22 => brk (inRange (p 0) 0 2) 8
  | 0x25 => brk (decide (1 ≤ p 0)) 8
  | 0x26 => poolRule pool (p 0) 5
  | 0x27 => brk (inRange (p 0) 1 6) 8
  | 0x28 => brk (sh 0) 8
  | 0x29 => brk (decide (1 ≤ p 0)) 8
  | 0x30 => brk (sh 0) 8
  | 0x37 => brk (sh 0) 8
  | 0x38 => brk (decide (1 ≤ p 0) && decide (n % (max 1 (x.parN 0)) = 0) && sh 1) 8
  | 0x41 => brk (decide (0 ≤ p 0 ∧ 1 ≤ p 1 ∧ p 0 + p 1 ≤ la)) 8
  | 0x48 => brk (inRange (p 0) 1 4096) 8
  | 0x49 => brk (inRange (p 0) 1 4096) 8
  | 0x50 => brk (inRange (p 0) 0 15) 8
  | 0x51 =>
    brk (inRange (p 0) 0 1 && inRange (p 1) 0 255 && inRange (p 2) 0 255 && inRange (p 3) 0 15) 8 ++
      (if x.b.isSome then brk (decide (p 4 = 0)) 8
       else match poolRule pool (p 4) 1 with
         | [] =>
           let len := poolAt pool (x.parN 4)
           if len ≤ 64 then poolRule pool (p 4) (1 + len) else [8]
         | l => l)
  | 0x52 => brk (inRange (p 0) 0 255) 8
  | _ => []

/-- OUT_LEN that the library table gives. -/
def libLen (pool : List Nat) (x : GNode) (n la lb : Nat) : Nat :=
  match x.op with
  | 0x01 => gatherLen pool (x.parN 0) (x.parN 1)
  | 0x02 => x.parN 1
  | 0x03 => x.parN 1
  | 0x04 => 2
  | 0x30 => 1
  | 0x31 => 1
  | 0x32 => 2
  | 0x33 => 2
  | 0x34 => 1
  | 0x35 => 4
  | 0x36 => 1
  | 0x37 => 1
  | 0x38 => n / (max 1 (x.parN 0))
  | 0x40 => la + lb
  | 0x41 => x.parN 1
  | 0x42 => lb
  | 0x48 => 1
  | 0x49 => 1
  | 0x50 => 0
  | 0x51 => 0
  | 0x52 => 0
  | _ => n

/-- The library table gives the node a length: not for a GATHER whose E or gather list is outside its range, nor for a SEGSUM whose SEG does
not divide N. -/
def lenKnown (pool : List Nat) (x : GNode) (n : Nat) : Bool :=
  match x.op with
  | 0x01 => inRange (x.par 1) 1 256 && (poolRule pool (x.par 0) (2 * x.parN 1)).isEmpty
  | 0x38 => decide (1 ≤ x.par 0) && decide (n % max 1 (x.parN 0) = 0)
  | _ => true

/-- Length rules of R246, R248 and the Inputs column, and OUT_LEN (DETAIL 7). -/
def lengthRule (lens : List Nat) (pool : List Nat) (x : GNode) : List Nat :=
  let ls := ([x.a, x.b, x.c].filterMap id).map fun j => lens.getD j 0
  let l (i : Option Nat) : Nat := (i.map fun j => lens.getD j 0).getD 0
  let n := nodeN lens x
  let out := libLen pool x n (l x.a) (l x.b)
  brk (!ls.contains 0) 7 ++
  brk (!multiOps.contains x.op || ls.all fun k => k == 1 || k == n) 7 ++
  brk (!(x.op == 0x48 || x.op == 0x49 || x.op == 0x51 || x.op == 0x52) || l x.a == 1) 7 ++
  brk (!(x.op == 0x51) || decide (l x.b ≤ 64)) 7 ++
  brk (!lenKnown pool x n || (x.outLen == out && (x.op ≥ 0x50 || inRange out 1 1024))) 7

/-- The DETAILs that node `i` breaks. `lens`: OUT_LENs of the table; `lists`: described lists; `emits`: lists that earlier
EMITs name. A parameter that its operation does not use must be 0. -/
def nodeRule (lens pool : List Nat) (lists : Nat) (emits : List Nat) (i : Nat) (x : GNode) : List Nat :=
  match libRow x.op with
  | none => [5]
  | some (na, nb, nc, np) =>
    match inputRule i na x.a ++ inputRule i nb x.b ++ inputRule i nc x.c with
    | [] =>
      let l (j : Option Nat) : Nat := (j.map fun k => lens.getD k 0).getD 0
      brk ((x.p.drop np).all fun v => v == 0) 8 ++ paramRule pool x (nodeN lens x) (l x.a) ++ lengthRule lens pool x ++
      (if x.op = 0x50 then brk (decide (x.parN 0 < lists) && !emits.contains (x.parN 0)) 12 else [])
    | l => l ++ brk ((x.p.drop np).all fun v => v == 0) 8

/-- Over the nodes in order. -/
def nodesRule (lens pool : List Nat) (lists : Nat) : Nat → List Nat → List GNode → List Nat
  | _, _, [] => []
  | i, emits, x :: l =>
    nodeRule lens pool lists emits i x ++
      nodesRule lens pool lists (i + 1) (if x.op = 0x50 then x.parN 0 :: emits else emits) l

/-- A table's nodes and pool. -/
def tableNodes (w : List Nat) (n : Nat) : List GNode := (List.range n).map fun i => nodeOf ((w.drop (16 + 8 * i)).take 8)
def tablePool (w : List Nat) (n : Nat) : List Nat := w.drop (16 + 8 * n)

/-- Value and state footprints (R252). -/
def valueFp (xs : List GNode) : Nat := xs.foldl (fun t x => t + x.outLen + (x.outLen + 23) / 24) 0
def stateFp (lens : List Nat) (xs : List GNode) : Nat := xs.foldl (fun t x => t + nodeState lens x) 0

/-- The words of a table image. -/
def imageWords (img : List Byte) (len : Nat) : List Nat := (List.range ((len - 4) / 3)).map fun j => leAt img (3 * j) 3

/-- The lowest DETAIL of a list. -/
def lowest : List Nat → Option Nat
  | [] => none
  | d :: l => some (l.foldl min d)

/-- The judgement of an image of IMAGE_LEN `len` with `lists` descriptors: the lowest DETAIL of 1 to 12 that it breaks
(R271, R426). A header that breaks DETAIL 3 or 4 ends the judgement: its nodes cannot be told from its pool. (DEDUCED, log entry 192.) (DEDUCED, log entry 193.) -/
def judgeImage (img : List Byte) (len lists : Nat) : Option Nat :=
  let w := imageWords img len
  let h (i : Nat) : Nat := w.getD i 0
  let n := h 1 % 2 ^ 11
  let xs := tableNodes w n
  let pool := tablePool w n
  let lens := xs.map (·.outLen)
  if h 0 ≠ 0x47524C ∨ h 1 / 2 ^ 16 ≠ 1 then some 1
  else if crc32c (img.take (len - 4)) ≠ leAt img (len - 4) 4 then some 2
  else if len ≠ 3 * (16 + 8 * n + h 3) + 4 ∨ len > 49156 then some 3
  else if n = 0 ∨ n > 1024 then some 4
  else lowest (nodesRule lens pool lists 0 [] xs ++ brk (decide (valueFp xs ≤ 24576)) 10 ++
    brk (decide (stateFp lens xs ≤ 12288)) 11)

end Sys2Proof.Machine
end

