-- ==== Sys2Proof/Machine/RedRun.lean ====
section
/-! DEFINITION. Runs, the core scheduler, the delay list and the decision trace of the reduction cluster (09, R254 to R269). -/

namespace Sys2Proof.Machine

def State.setRed (s : State) (r : Red) : State := { s with red := r }

/-- Instants of the cluster in one DVS cycle, by the DVFS point in force (R244). -/
def State.dvs (s : State) : Nat := match s.get Fd.PDM_DVFS_POINT with
  | 0 => 3
  | 1 => 4
  | _ => 6

/-- The instant of the current tick. -/
def State.redTickAt (s : State) : Nat := s.time.tickCyc * 3

/-- The cluster domain is ON (R371). (DEDUCED, log entry 211.) -/
def State.cluOn (s : State) : Bool := s.get Fd.PDM_STATE_CLU == 3

def Red.bank (r : Red) (b : Nat) : Option GBank := if b = 0 then r.bank0 else r.bank1
def Red.setBank (r : Red) (b : Nat) (x : Option GBank) : Red := if b = 0 then { r with bank0 := x } else { r with bank1 := x }

/-- The bank that GRAPH_LOAD writes (R266). With no active bank it is the one that was not active last, and bank 0 before
any was (DESIGN CHOICE). (DESIGN CHOICE, log entry 196.) -/
def Red.idleBank (r : Red) : Nat := match r.active with
  | some b => 1 - b
  | none => r.other

def Red.nodes (r : Red) (b : Nat) : List GNode := ((r.bank b).map (·.nodes)).getD []
def Red.pool (r : Red) (b : Nat) : List Nat := ((r.bank b).map (·.pool)).getD []
def Red.node (r : Red) (b i : Nat) : Option GNode := (r.nodes b)[i]?
def Red.lens (r : Red) (b : Nat) : List Nat := (r.nodes b).map (·.outLen)
def Red.core (r : Red) (c : Nat) : GCore := SMap.get GCore.reset r.cores c
def Red.setCore (r : Red) (c : Nat) (x : GCore) : Red := { r with cores := SMap.put GCore.reset c x r.cores }
def Red.run (r : Red) (n : Nat) : Option GRun := r.live.find? fun x => x.n == n
def Red.setRun (r : Red) (x : GRun) : Red := { r with live := r.live.map fun y => if y.n = x.n then x else y }

/-- Node instances of a run not yet complete. -/
def Red.left (r : Red) (x : GRun) : Nat := (r.nodes x.bank).length - x.ended.length

/-- OUTSTANDING (R260). -/
def Red.outstanding (r : Red) : Nat := r.live.foldl (fun t x => t + r.left x) 0

/-- A bank that its own last run has left is empty once it is unloaded (R271). -/
def Red.sweep (r : Red) : Red :=
  let one (r : Red) (b : Nat) : Red := match r.bank b with
    | some g => if g.dying ∧ ¬ r.live.any (fun x => x.bank == b) then r.setBank b none else r
    | none => r
  one (one r 0) 1

/-- RED_STATUS, RED_DELAY.USED and each DEPTH.NOW follow the cluster. -/
def State.redSync (s : State) : State :=
  let r := s.red
  let s1 := ((((s.put Fd.RED_STATUS_BP (b2n r.bp)).put Fd.RED_STATUS_SWAP_PENDING (b2n r.swap.isSome)).put
    Fd.RED_STATUS_ACTIVE_BANK (r.active.getD 0)).put Fd.RED_STATUS_ACTIVE (b2n r.active.isSome)).put
    Fd.RED_STATUS_LOADED0 (b2n r.bank0.isSome)
  let s2 := (((s1.put Fd.RED_STATUS_LOADED1 (b2n r.bank1.isSome)).put Fd.RED_STATUS_LIVE_RUNS r.live.length).put
    Fd.RED_STATUS_OUTSTANDING r.outstanding).put Fd.RED_DELAY_USED r.delay.length
  foldN (fun t c => t.put (Fd.RED_CORE_DEPTH_NOW c) (r.core c).list.length) s2 (List.range 16)

/-- Change one core's sums of the window (R271). -/
def State.redStat (s : State) (c : Nat) (f : GStat → GStat) : State :=
  let w := s.red.window
  s.setRed { s.red with window := { w with cores := SMap.put GStat.reset c (f (SMap.get GStat.reset w.cores c)) w.cores } }

/-! ### The decision trace (R268) -/

/-- Words of the staging area of a result slot and of a trace record, three bytes each; what it holds at present (R245). The spec gives no
measure. (DESIGN CHOICE, log entry 251.) -/
def slotWords (w : GSlot) : Nat := 6 + w.value.length + (w.value.length + 23) / 24

def Red.staged (r : Red) : Nat := r.slots.foldl (fun n w => n + slotWords w) (6 * r.recs.length)

/-- The words of the staging area. -/
def stagingWords : Nat := 16384

/-- A decision of kind `k` of run `n` released at instant `rel`, made at instant `t`. Kinds 2 to 7 are written only for nodes
with TRACE, or with ALL_NODES. A record that finds the staging area full is dropped and counted. (DESIGN CHOICE, log entry 251.) -/
def State.tracePut (s : State) (k core node n arg rel t : Nat) (nodeTrace : Bool) : State :=
  match s.red.trace with
  | some c =>
    if bitAt c.mask k ∧ (k < 2 ∨ k > 7 ∨ c.all ∨ nodeTrace) then
      let q := s.red.tseq
      let r : GTraceRec :=
        { addr := c.base + (q % 2 ^ c.log2) * 16, pasid := c.pasid, made := t
          words := [k * 2 ^ 28 + core * 2 ^ 24 + node * 2 ^ 12 + n % 256, ((t - rel) / 3) % 2 ^ 32, arg % 2 ^ 32,
            (1 - (q / 2 ^ c.log2) % 2) * 2 ^ 31 + q % 2 ^ 24] }
      if s.red.staged + 6 ≤ stagingWords then s.setRed { s.red with tseq := q + 1, recs := s.red.recs ++ [r] }
      else (s.setRed { s.red with tseq := q + 1 }).bump Fd.RED_TRACE_LOST
    else s
  | none => s

/-- The node's TRACE bit. -/
def State.traced (s : State) (b i : Nat) : Bool := ((s.red.node b i).map (·.trace)).getD false

/-! ### Ready lists (R256, R257) -/

/-- The first enabled core from `c` upward, wrapping. -/
def nextEnabled (en c : Nat) : Nat :=
  (((List.range 16).map fun k => (c + k) % 16).find? fun k => bitAt en k).getD c

/-- The core whose list a ready instance joins, and whether it is AFF (R257). -/
def Red.pickCore (r : Red) (b i : Nat) : Nat × Bool :=
  let aff : Nat := ((r.bank b).map fun g => SMap.get (fun _ => 0) g.aff i).getD 0
  let hint := ((r.node b i).bind (·.hint)).filter fun c => bitAt r.enEff c
  if aff ≠ 0 ∧ bitAt r.enEff (aff - 1) then (aff - 1, true)
  else match hint with
    | some c => (c, false)
    | none => (nextEnabled r.enEff (i % 16), false)

/-- Insert in the order of R256: older run first, then lower node. -/
def insertReady (e : GReady) : List GReady → List GReady
  | [] => [e]
  | x :: l => if e.rel < x.rel ∨ (e.rel = x.rel ∧ e.node < x.node) then e :: x :: l else x :: insertReady e l

/-- Put a ready instance into its list; `t` is the instant of the decision. -/
def State.enlist (s : State) (b : Nat) (e : GReady) (t : Nat) : State :=
  let (c, isAff) := s.red.pickCore b e.node
  let k := s.red.core c
  let l := insertReady e k.list
  let s1 := s.setRed (s.red.setCore c { k with list := l })
  let s2 := s1.put (Fd.RED_CORE_DEPTH_MAX c) (max (s1.get (Fd.RED_CORE_DEPTH_MAX c)) l.length)
  let s3 := s2.redStat c fun x => { x with depth := max x.depth l.length }
  s3.tracePut 2 c e.node e.run (l.length + b2n isAff * 2 ^ 12) e.rel t (s.traced b e.node)

/-- Node `i` of a run becomes ready at instant `t`. -/
def State.makeReady (s : State) (x : GRun) (i t : Nat) : State :=
  s.enlist x.bank { run := x.n, rel := x.rel, node := i, at_ := t } t

/-- CORE_EN has changed: the lists of cores that it disables move to other cores, in list order (Races). -/
def State.redMove (s : State) : State :=
  let en := s.get Fd.RED_CTRL_CORE_EN
  if en = s.red.enEff then s
  else
    let s1 := s.setRed { s.red with enEff := en }
    foldN (fun t c =>
      if bitAt en c then t
      else
        let k := t.red.core c
        let t1 := t.setRed (t.red.setCore c { k with list := [] })
        k.list.foldl (fun u e => match u.red.run e.run with
          | some x => u.enlist x.bank e u.redTickAt
          | none => u) t1) s1 (List.range 16)

/-! ### Starting a node (R257, R258) -/

/-- The list an idle core takes from: its own, else the longest of a core that executes a node, the lowest number on a
tie (R258). -/
def Red.source (r : Red) (c : Nat) : Option Nat :=
  if ¬ (r.core c).list.isEmpty then some c
  else
    ((List.range 16).filter fun d => (r.core d).busy.isSome && !(r.core d).list.isEmpty).foldl
      (fun (b : Option Nat) d => match b with
        | none => some d
        | some x => if (r.core d).list.length > (r.core x).list.length then some d else some x) none

/-- The instant at which core `c` takes entry `e` of list `d`: ready, idle, at least two cycles after the release (R254), and
for a second steal of one cycle in the next. (DEDUCED, log entry 197.) -/
def State.startAt (s : State) (c d : Nat) (e : GReady) : Nat :=
  let t := max (max e.at_ (s.red.core c).free) (e.rel + 2 * s.dvs)
  if c = d then t
  else
    let u := max t s.red.clk
    if s.red.stole = some u then u + s.dvs else u

/-- Core `c` is idle and looks for work. -/
def Red.idle (r : Red) (c : Nat) : Bool := bitAt r.enEff c && (r.core c).busy.isNone

/-- Another idle core takes entry `e` of list `d` before core `c`: in an earlier cycle, or in the same one with a lower number (R258). -/
def State.outrun (s : State) (c d : Nat) (e : GReady) : Bool :=
  (List.range 16).any fun x =>
    x != c && s.red.idle x && s.red.source x == some d &&
    decide (s.startAt x d e < s.startAt c d e ∨ (s.startAt x d e = s.startAt c d e ∧ x < c))

/-- Core `c` starts the head `e` of list `d`; a node not on its AFF core takes its state words in cycles more. (DEDUCED, log entry 198.) (DEDUCED, log entry 199.) -/
def State.startNode (s : State) (c d : Nat) (e : GReady) (x : GRun) : State :=
  let r := s.red
  let t := s.startAt c d e
  let k := (r.core d)
  let r1 := r.setCore d { k with list := k.list.drop 1 }
  let g := r.node x.bank e.node
  let cost := match g with
    | some y => nodeCycles (r.lens x.bank) (r.pool x.bank) y +
        (if ((r.bank x.bank).map fun z => SMap.get (fun _ => 0) z.aff e.node).getD 0 = c + 1 then 0
         else nodeState (r.lens x.bank) y)
    | none => 0
  let wait := (t - e.at_) / s.dvs
  let r2 := r1.setCore c { r1.core c with busy := some { run := e.run, node := e.node, start := t, stop := t + cost * s.dvs } }
  let s1 := s.setRed { r2 with clk := max r.clk t, stole := if c = d then r.stole else some t }
  let s2 := (s1.bump (Fd.RED_CORE_WAIT_SUM_WAIT_SUM c) wait).put (Fd.RED_CORE_WAIT_MAX_WAIT_MAX c)
    (max (s.get (Fd.RED_CORE_WAIT_MAX_WAIT_MAX c)) (min (wait / 16) 0xFFFF))
  let s3 := s2.redStat c fun y =>
    { y with waitSum := y.waitSum + (t - e.at_), waitMax := max y.waitMax (t - e.at_), started := y.started + 1 }
  let tr := s.traced x.bank e.node
  let s4 := if c = d then s3 else s3.tracePut 5 c e.node e.run d e.rel t tr
  s4.tracePut 3 c e.node e.run wait e.rel t tr

/-- R257, R258: idle core `c` takes the head of its ready list, or steals one that no other core takes first, and starts the node
instance. -/
def execNodeStart (core : Nat) (s : State) : Out :=
  if core < 16 ∧ s.cluOn ∧ s.red.idle core then
    match s.red.source core with
    | some d =>
      match (s.red.core d).list with
      | e :: _ =>
        match s.red.run e.run with
        | some x => if d ≠ core ∧ s.outrun core d e then .next s else .next (s.startNode core d e x).redSync
        | none => .next s
      | [] => .next s
    | none => .next s
  else .next s

/-! ### The delay list (R259) -/

/-- Insert by due run, after the entries with the same or an earlier one. -/
def insertDelay (now : Nat) (e : GDelay) : List GDelay → List GDelay
  | [] => [e]
  | x :: l =>
    let k (y : GDelay) : Int := toSigned 32 (since32 y.due now)
    if k e < k x then e :: x :: l else x :: insertDelay now e l

/-- An insertion is refused: counted and raised. -/
def State.delayFull (s : State) : State := (s.bump Fd.RED_DELAY_FULL).setEvent 19 Fd.RED_EVENT_DELAY_FULL

/-- Insert an entry of node `i` of run `x`, due D runs later. -/
def State.delayPut (s : State) (x : GRun) (i : Nat) (d : Nat) (v : Int) (t : Nat) : State :=
  let due := (x.n + d) % 2 ^ 32
  let e : GDelay := { due := due, node := i, bank := x.bank, value := v, seq := s.red.seq }
  let s1 := s.setRed { s.red with delay := insertDelay x.n e s.red.delay, seq := s.red.seq + 1 }
  s1.tracePut 6 0 i x.n due x.rel t (s.traced x.bank i)

/-- Entries of node `i` that joined the run. -/
def GRun.dueOf (x : GRun) (i : Nat) : List GDelay := x.due.filter fun e => e.node == i

/-- The latest inserted of some entries. -/
def latest (l : List GDelay) : Option GDelay :=
  l.foldl (fun (b : Option GDelay) e => match b with
    | none => some e
    | some y => if e.seq > y.seq then some e else some y) none

/-- WAIT: its insertion. -/
def State.waitIn (s : State) (x : GRun) (i : Nat) (g : GNode) (a : RElem) (t : Nat) : State :=
  if a.2 ∧ a.1 ≠ 0 then
    (if s.red.delay.length < 1024 then s.delayPut x i (g.parN 0) a.1 t else s.delayFull)
  else s

/-- Entries of node `i` of bank `b` in the list. -/
def GDelay.of (e : GDelay) (b i : Nat) : Bool := e.node == i && e.bank == b

/-- HOLD: its insertion, and the output it holds from then on. A refused insertion outputs 1 in this run only. (DEDUCED, log entry 202.) -/
def State.holdIn (s : State) (x : GRun) (i : Nat) (g : GNode) (a : RElem) (o : Int) (t : Nat) : State × Int × Int :=
  if a.2 ∧ a.1 ≠ 0 then
    let rest := s.red.delay.filter fun e => !e.of x.bank i
    if rest.length < 1024 then ((s.setRed { s.red with delay := rest }).delayPut x i (g.parN 0) 1 t, 1, 1)
    else (s.delayFull, 1, 0)
  else if ¬ (x.dueOf i).isEmpty then (s, 0, 0)
  else (s, o, o)

/-! ### Bus commands (R264) -/

/-- Words of the command queue in use. -/
def Red.queued (r : Red) : Nat := r.cmds.foldl (fun t c => t + c.words.length + 2) 0

/-- A BUS_CMD fires: one command for each present port of PORT_MASK, all or none. -/
def State.fireCmd (s : State) (x : GRun) (i : Nat) (g : GNode) (words : List Nat) (t : Nat) : State :=
  let ports := s.portList.filter fun p => bitAt (g.parN 2) p
  let group := g.parN 1
  if s.red.queued + (words.length + 2) * ports.length > 4096 then
    (s.bump Fd.RED_CMD_DROPPED).setEvent 19 Fd.RED_EVENT_CMD_DROPPED
  else
    let l := ports.map fun p =>
      let c : GCmd := { port := p, group := group, ep := g.parN 3, words := words, frame := s.frame }
      c
    let mask := ports.foldl (fun m p => m + 2 ^ p) 0
    (s.setRed { s.red with cmds := s.red.cmds ++ l }).tracePut 8 0 i x.n (group * 2 ^ 8 + mask) x.rel t (s.traced x.bank i)

/-- A trigger's rise, whether it is set, and its new state (R248). -/
def trigger (a : RElem) (st : List Int) : Bool × Bool × List Int :=
  if a.2 then (decide (a.1 ≠ 0) && decide (st.getD 0 0 = 0), decide (a.1 ≠ 0), [i01 (a.1 != 0)]) else (false, false, st)

/-! ### Result slots (R263) -/

/-- Queue the slot of list `k` of a bank for run `n`; one that finds the staging area full waits for its place behind the others. (DESIGN
CHOICE, log entry 251.) -/
def State.emitSlot (s : State) (b k n result : Nat) (swapped : Bool) (v : RVal) : State :=
  match s.red.bank b with
  | some g =>
    match g.lists[k]? with
    | some l =>
      let w : GSlot := { list := l, index := k, bank := b, load := g.load, n := n, result := result, swapped := swapped, value := v }
      s.setRed { s.red with slots := s.red.slots ++ [w] }
    | none => s
  | none => s

/-- A run ends (R254): RED_RUN_LAST, RUN_DONE. -/
def State.endRun (s : State) (x : GRun) : State :=
  let s1 := s.setRed ({ s.red with live := s.red.live.filter fun y => y.n != x.n }).sweep
  (s1.put Fd.RED_RUN_LAST_FRAME x.n).setEvent 19 Fd.RED_EVENT_RUN_DONE

/-! ### Memory errors (R269) -/

/-- The effects of R24 for each word, and the counts of R269 for the uncorrectable ones. -/
def State.redErrors (s : State) (errs : List MemErr) : State :=
  errs.foldl (fun t e =>
    let t1 := t.eccRead e.mem e.word e.errs
    if e.errs ≥ 2 then
      (match e.use with
        | .sample => t1.bump Fd.RED_MEM_GATHER_MARKED
        | .table => t1.bump Fd.RED_MEM_TABLE_ERR
        | _ => t1.bump Fd.RED_MEM_STATE_ERR).setEvent 19 Fd.RED_EVENT_MEM_ERR
    else t1) s

/-- A value of a live run whose word is uncorrectable: the element is invalid. -/
def State.valueBad (s : State) (n i e : Nat) : State :=
  match s.red.run n with
  | some x => s.setRed (s.red.setRun
      { x with out := SMap.put (fun _ => []) i (((SMap.get (fun _ => []) x.out i).zipIdx.map fun y => if y.2 = e then (y.1.1, false) else y.1)) x.out })
  | none => s

/-- A state word that is uncorrectable: the element's state is back at its starting value, and its output is invalid in the node's next
run. -/
def State.stateBad (s : State) (b i e : Nat) : State :=
  match s.red.bank b with
  | some g => s.setRed (s.red.setBank b
      (some { g with st := SMap.put (fun _ => []) i (SMap.put noWords e [] (SMap.get (fun _ => []) g.st i)) g.st
                     lost := (i, e) :: g.lost }))
  | none => s

/-- R269: the scrubber finds an uncorrectable word of the shared scratch or of a core's local memory. The areas are those of R245; node
entry i stands at word 16 + 8i of its table (R250); which node's value or state another word holds, and which node another word of a table
concerns, the spec does not give (free, log entry 251). The other areas have no effect beside R24. -/
def State.clusterWordBad (s : State) (mem word errs : Nat) : State :=
  if errs < 2 then s
  else if mem = 2 ∧ word < 0x8000 then
    let b := word / 16384
    let o := word % 16384
    match s.red.bank b with
    | some g =>
      let i := if 16 ≤ o ∧ (o - 16) / 8 < g.nodes.length then (o - 16) / 8 else Config.tableWord o % (max g.nodes.length 1)
      ((s.setRed (s.red.setBank b (some { g with bad := i :: g.bad }))).bump Fd.RED_MEM_TABLE_ERR).setEvent 19 Fd.RED_EVENT_MEM_ERR
    | none => s
  else if mem = 2 ∧ word < 0x14000 then
    match s.red.live.find? fun x => x.n % 2 == (word - 0x8000) / 24576 with
    | some x =>
      let k := Config.valueWord ((word - 0x8000) % 24576)
      if (SMap.get (fun _ => []) x.out k.1).length ≤ k.2 then s
      else ((s.valueBad x.n k.1 k.2).bump Fd.RED_MEM_STATE_ERR).setEvent 19 Fd.RED_EVENT_MEM_ERR
    | none => s
  else if mem = 2 ∧ word < 0x1A000 ∨ mem = 3 then
    let k := Config.stateWord mem word
    let b := if mem = 2 then (word - 0x14000) / 12288 else k.1 % 2
    match s.red.bank b with
    | some g =>
      if ((g.nodes[k.2.1]?).map fun y => nodeState (g.nodes.map (·.outLen)) y).getD 0 = 0 then s
      else ((s.stateBad b k.2.1 k.2.2).bump Fd.RED_MEM_STATE_ERR).setEvent 19 Fd.RED_EVENT_MEM_ERR
    | none => s
  else s

/-- Elements that a use finds uncorrectable. -/
def badElems (errs : List MemErr) (u : MemUse) : List Nat :=
  (errs.filter fun e => e.use == u && decide (e.errs ≥ 2)).map (·.elem)

/-- The state words of node `i` found uncorrectable since it last ran, which its run then has met. -/
def State.stateLost (s : State) (b i : Nat) : List Nat :=
  ((s.red.bank b).map fun g => (g.lost.filter fun y => y.1 == i).map (·.2)).getD []

def State.stateMet (s : State) (b i : Nat) : State :=
  match s.red.bank b with
  | some g => s.setRed (s.red.setBank b (some { g with lost := g.lost.filter fun y => y.1 != i }))
  | none => s

/-- Mark elements invalid. -/
def invalidate (bad : List Nat) (v : RVal) : RVal :=
  v.zipIdx.map fun y => if bad.contains y.2 then (y.1.1, false) else y.1

/-- A node whose table word is uncorrectable stays bad until its bank is loaded again. -/
def State.markBad (s : State) (b i : Nat) (errs : List MemErr) : State :=
  if (badElems errs .table).isEmpty then s
  else match s.red.bank b with
    | some g => s.setRed (s.red.setBank b (some { g with bad := i :: g.bad }))
    | none => s

def State.isBad (s : State) (b i : Nat) : Bool := ((s.red.bank b).map fun g => g.bad.contains i).getD false

/-! ### Completion of a node (R248, R252, R253, R256) -/

/-- GATHER: a word is valid if this controller collected it in frame n with DATA and it is no marked word (R252). A sample whose slot has
turned out not to take DATA is no longer collected (`State.dropColl`); a GATHER that copies before its slot's write uses the collected
one (DEDUCED, log entry 252). -/
def State.gatherVal (s : State) (x : GRun) (g : GNode) (bad : List Nat) : RVal :=
  let pool := s.red.pool x.bank
  let v := (List.range (g.parN 1)).flatMap fun k =>
    let sea := poolAt pool (g.parN 0 + 2 * k)
    let w := poolAt pool (g.parN 0 + 2 * k + 1)
    let ws : List Nat := if seaCtrl sea = s.ctrlNo ∧ seaDir sea then
        ((s.xfer.coll.find? fun c => c.key == seaKey sea && c.frame == x.n).map Coll.words).getD []
      else []
    (List.range (w % 2 ^ 10)).map fun j =>
      match ws[(w / 2 ^ 10) % 2 ^ 10 + j]? with
      | some u => (toSigned 24 u, true)
      | none => (0, false)
  invalidate bad v

/-- MAINS: elements of the captured word; with STALE_OK 0 invalid where it belongs to another frame (R18). -/
def GRun.mainsVal (x : GRun) (g : GNode) : RVal :=
  let ok := decide (x.mains.getD 15 0 = x.n % 2 ^ 24 ∨ g.par 2 = 1) && decide (x.mains.length = 16)
  (List.range (g.parN 1)).map fun k => (toSigned 24 (x.mains.getD (g.parN 0 + k) 0), ok)

/-- FRAME: FRAME_NO[23:0], and the flags. -/
def State.frameVal (s : State) (x : GRun) : RVal :=
  let p := (x.n + 2 ^ 32 - 1) % 2 ^ 32
  [(toSigned 24 x.n, true),
   (((x.flags % 4 + b2n (s.red.declined.contains p) * 4 + b2n (s.red.stopped.contains p) * 8 : Nat) : Int), true)]

/-- Output, new state words and saturations of a node that is no sink, no delay and no source of samples. -/
def evalNode (pool : List Nat) (g : GNode) (a b c : RVal) (st : SMap (List Int)) : RVal × SMap (List Int) × Sat :=
  let z : Sat := { acc := 0, nar := 0 }
  let plain (v : RVal × Sat) : RVal × SMap (List Int) × Sat := (v.1, st, v.2)
  if g.op = 0x03 then plain ((List.range (g.parN 1)).map fun k => (poolInt pool (g.parN 0 + k), true), z)
  else if g.op = 0x18 then plain (select a b c, z)
  else if g.op < 0x20 then plain (elemwise pool g a (if g.b.isSome then some b else none) z)
  else if g.op < 0x30 then stateful pool g a (if g.b.isSome then some b else none) st z
  else if g.op = 0x37 then plain (reduce g (dotVals a b) z)
  else if g.op = 0x38 then plain (segsum g a z)
  else if g.op < 0x40 then plain (reduce g a z)
  else if g.op = 0x40 then plain (a ++ b, z)
  else if g.op = 0x41 then plain ((a.drop (g.parN 0)).take (g.parN 1), z)
  else plain (pick a b, z)

/-- Store the state words of node `i` of bank `b`. -/
def State.nodeState (s : State) (b i : Nat) : SMap (List Int) :=
  ((s.red.bank b).map fun g => SMap.get (fun _ => []) g.st i).getD []

def State.setNodeState (s : State) (b i : Nat) (st : SMap (List Int)) : State :=
  match s.red.bank b with
  | some g => s.setRed (s.red.setBank b (some { g with st := SMap.put (fun _ => []) i st g.st }))
  | none => s

/-- A sink acts (R248): EMIT, BUS_CMD, EVENT. -/
def State.sinkAct (s : State) (x : GRun) (i : Nat) (g : GNode) (a d : RVal) (t : Nat) : State :=
  let st := SMap.get noWords (s.nodeState x.bank i) 0
  let tr := trigger (a.at_ 0) st
  let s1 := s.setNodeState x.bank i (SMap.put noWords 0 tr.2.2 [])
  if g.op = 0x50 then s.emitSlot x.bank (g.parN 0) x.n 0 x.swapped a
  else if g.op = 0x51 then
    let fires := if g.par 0 = 0 then tr.2.1 else tr.1
    if fires ∧ d.all (·.2) then
      let pool := s.red.pool x.bank
      let len := poolAt pool (g.parN 4)
      let words := if g.b.isSome then d.map fun e => ofSigned 24 e.1 else (pool.drop (g.parN 4 + 1)).take len
      s1.fireCmd x i g words t
    else s1
  else if tr.1 then
    ((((s1.put Fd.RED_NODE_EVENT_CODE (g.parN 0)).put Fd.RED_NODE_EVENT_NODE i).bump Fd.RED_NODE_EVENT_COUNT)).setEvent 19
      Fd.RED_EVENT_NODE_EVENT
  else s1

/-- The node instance takes effect: its output, its state and what it does. (DEDUCED, log entry 203.) -/
def State.runNode (s : State) (x : GRun) (i : Nat) (g : GNode) (errs : List MemErr) (t : Nat) : State × RVal :=
  let input (j : Option Nat) (u : MemUse) : RVal :=
    invalidate (badElems errs u) ((j.map fun k => SMap.get (fun _ => []) x.out k).getD [])
  let a := input g.a .inputA
  let b := input g.b .inputB
  let c := input g.c .inputC
  let lost := s.stateLost x.bank i ++ badElems errs .state
  let invalid : RVal := List.replicate g.outLen (0, false)
  if s.isBad x.bank i then
    ((if g.op = 0x50 then s.emitSlot x.bank (g.parN 0) x.n 2 x.swapped [] else s), invalid)
  else if g.op ≥ 0x49 ∧ g.op ≠ 0x50 ∧ ¬ lost.isEmpty then (s.setNodeState x.bank i [], invalid)
  else if g.op = 0x01 then (s, s.gatherVal x g (badElems errs .sample))
  else if g.op = 0x02 then (s, x.mainsVal g)
  else if g.op = 0x04 then (s, s.frameVal x)
  else if g.op = 0x48 then
    (s.waitIn x i g (a.at_ 0) t, [match latest (x.dueOf i) with
      | some e => (e.value, true)
      | none => (0, false)])
  else if g.op = 0x49 then
    let o := (SMap.get noWords (s.nodeState x.bank i) 0).getD 0 0
    let h := s.holdIn x i g (a.at_ 0) o t
    (h.1.setNodeState x.bank i (SMap.put noWords 0 [h.2.2] []), [(h.2.1, true)])
  else if g.op ≥ 0x50 then (s.sinkAct x i g a b t, [])
  else
    let r := evalNode (s.red.pool x.bank) g a b c (s.nodeState x.bank i)
    let st := foldN (fun (m : SMap (List Int)) k => SMap.put noWords k [] m) r.2.1 lost
    let s1 := (s.setNodeState x.bank i st).bump Fd.RED_ARITH_ACC_SAT r.2.2.acc
    (s1.bump Fd.RED_ARITH_NARROW_SAT r.2.2.nar, invalidate lost r.1)

/-- Nodes that become ready when node `i` completes: those it feeds whose inputs have all completed (R256). -/
def Red.readied (r : Red) (x : GRun) (i : Nat) : List Nat :=
  (r.nodes x.bank).zipIdx.filterMap fun y =>
    let ins := [y.1.a, y.1.b, y.1.c].filterMap id
    if ins.contains i && ins.all fun j => x.ended.contains j then some y.2 else none

/-- Node `i` of run `x` completes at instant `t`. -/
def State.nodeDone (s : State) (x : GRun) (i : Nat) (g : GNode) (errs : List MemErr) (t : Nat) : State :=
  let s0 := (s.redErrors errs).markBad x.bank i errs
  let (s1, v) := let r := s0.runNode x i g errs t; (r.1.stateMet x.bank i, r.2)
  let x1 := { x with out := SMap.put (fun _ => []) i v x.out, ended := i :: x.ended }
  let s2 := s1.setRed { s1.red.setRun x1 with clk := max s1.red.clk t }
  let s3 := (s2.red.readied x1 i).foldl (fun u j => u.makeReady x1 j t) s2
  if s3.red.left x1 = 0 then
    let s4 := (s3.endRun x1).tracePut 10 0 0 x.n ((t - x.rel) / 3) x.rel t false
    s4.setRed { s4.red with window := { s4.red.window with done := s4.red.window.done + 1 } }
  else s3

/-- R256: core `core` completes its node instance. -/
def execNodeComplete (core : Nat) (errs : List MemErr) (s : State) : Out :=
  let k := s.red.core core
  match k.busy with
  | some y =>
    match s.red.run y.run with
    | some x =>
      match s.red.node x.bank y.node with
      | some g =>
        if s.cluOn then
          let cycles := (y.stop - y.start) / s.dvs
          let s1 := s.setRed (s.red.setCore core { k with busy := none, free := y.stop })
          let s2 := match s1.red.bank x.bank with
            | some z => s1.setRed (s1.red.setBank x.bank (some { z with aff := SMap.put (fun _ => 0) y.node (core + 1) z.aff }))
            | none => s1
          let s3 := ((s2.bump (Fd.RED_CORE_BUSY_BUSY core) cycles).bump (Fd.RED_CORE_NODES_NODES core)).redStat core fun z =>
            { z with busy := z.busy + (y.stop - y.start), nodes := z.nodes + 1 }
          let s4 := s3.tracePut 4 core y.node y.run cycles x.rel y.stop (s.traced x.bank y.node)
          .next (s4.nodeDone x y.node g errs y.stop).redSync
        else .next s
      | none => .next s
    | none => .next s
  | none => .next s

/-- The GATHER that the unit copies: of the older run first, in node order (R254). -/
def Red.nextGather (r : Red) : Option (GRun × Nat × GNode) :=
  r.live.findSome? fun x =>
    (r.nodes x.bank).zipIdx.findSome? fun y => if y.1.op = 1 ∧ ¬ x.ended.contains y.2 then some (x, y.2, y.1) else none

/-- R254: the gather unit completes the copy of a GATHER node, 32 + 2E + ⌈N ÷ 8⌉ cycles after it was free for it. -/
def execGatherComplete (errs : List MemErr) (s : State) : Out :=
  match s.red.nextGather with
  | some (x, i, g) =>
    if s.cluOn then
      let t := max s.red.gather (x.rel + 2 * s.dvs) + nodeCycles (s.red.lens x.bank) (s.red.pool x.bank) g * s.dvs
      .next ((s.setRed { s.red with gather := t }).nodeDone x i g errs t).redSync
    else .next s
  | none => .next s

end Sys2Proof.Machine
end

