-- ==== Sys2Proof/Machine/Red.lean ====
section
/-! DEFINITION. The cluster's tick, result slots, bus commands, trace records and graph commands (09, R254 to R271). -/

namespace Sys2Proof.Machine

/-! ### The deadline and the swap (R255, R267) -/

/-- Stop run `x` at instant `t` (R255). (DEDUCED, log entry 204.) -/
def State.stopRun (s : State) (x : GRun) (t : Nat) : State :=
  let s1 := foldN (fun u c =>
    let k := u.red.core c
    let mine := (k.busy.map fun y => y.run == x.n).getD false
    let ran := (k.busy.map fun y => min t y.stop - y.start).getD 0
    let k1 := { k with list := k.list.filter fun e => e.run != x.n, busy := if mine then none else k.busy
                       free := if mine then t else k.free }
    let u1 := u.setRed (u.red.setCore c k1)
    if mine then (u1.bump (Fd.RED_CORE_BUSY_BUSY c) (ran / s.dvs)).redStat c fun z => { z with busy := z.busy + ran } else u1)
    s (List.range 16)
  let s2 := (s.red.nodes x.bank).zipIdx.foldl (fun u y =>
    if y.1.op = 0x50 ∧ ¬ x.ended.contains y.2 then u.emitSlot x.bank (y.1.parN 0) x.n 2 x.swapped [] else u) s1
  let s3 := s2.tracePut 9 0 0 x.n (s.red.left x) x.rel t false
  let w := s3.red.window
  let s4 := s3.setRed { s3.red with stopped := (x.n :: s3.red.stopped).take 4, window := { w with stopped := w.stopped + 1 } }
  ((s4.bump Fd.RED_RUN_COUNT_OVERRUN).setEvent 19 Fd.RED_EVENT_OVERRUN).endRun x

/-- Stop every run whose deadline is the tick of frame `f`, at instant `t`. -/
def State.redStop (s : State) (f t : Nat) : State :=
  (s.red.live.filter fun x => decide (since32 f x.n ≥ 3 ∧ since32 f x.n < 2 ^ 31)).foldl (fun u x => u.stopRun x t) s

/-- The pending swap takes effect at the tick of frame `f` (R267), if that is its target or after it; its command completes. -/
def State.redSwap (s : State) (f t : Nat) : State :=
  match s.red.swap with
  | some (id, target) =>
    if since32 f target < 2 ^ 31 then
      let b := s.red.idleBank
      match s.red.bank b with
      | some g =>
        let old := s.red.active.getD (1 - b)
        let r := s.red.setBank b (some { g with fresh := true })
        let s1 := s.setRed { r with active := some b, other := old, swap := none, delay := [], window := GWindow.reset }
        let s2 := (s1.setEvent 19 Fd.RED_EVENT_SWAPPED).tracePut 11 0 0 ((f + 2 ^ 32 - 1) % 2 ^ 32) g.id t t false
        match s2.findCmd id with
        | some c => s2.finishAt c ST.ok 0 f (leBytes 3 g.id ++ leBytes 1 b)
        | none => s2
      | none => s.setRed { s.red with swap := none }
    else s
  | none => s

/-- The frame of the next tick, and its instant. -/
def State.redNext (s : State) : Nat × Nat := ((s.frame + 1) % 2 ^ 32, (s.time.cyc + s.cyclesTo s.nextBoundary) * 3)

/-- R255: at the coming tick, the runs whose deadline it is are stopped. FRAME_TICK stops those that are left. (DESIGN CHOICE, log entry 200.) -/
def execRunDeadline (s : State) : Out := .next (s.redStop s.redNext.1 s.redNext.2).redSync

/-- R267: at the coming tick, the swap whose target it is takes effect. FRAME_TICK makes one that is left. -/
def execGraphSwapEffect (s : State) : Out := .next (s.redSwap s.redNext.1 s.redNext.2).redSync

/-! ### The tick (R254, R260, R261) -/

/-- The runs that a swapped graph's first run still waits for: SWAPPED, and the mark ends. -/
def State.takeFresh (s : State) (b : Nat) : Bool × State :=
  match s.red.bank b with
  | some g => (g.fresh, s.setRed (s.red.setBank b (some { g with fresh := false })))
  | none => (false, s)

/-- Decline run `n` (R261). (DEDUCED, log entry 205.) -/
def State.declineRun (s : State) (b n : Nat) : State :=
  let (fresh, s1) := s.takeFresh b
  let lists := ((s1.red.bank b).map (·.lists)).getD []
  let s2 := lists.zipIdx.foldl (fun u y => u.emitSlot b y.2 n 1 fresh []) s1
  let slots := s2.xfer.slots.map fun w => if w.bank = n ∧ s2.gathers w.key then { w with notRed := true } else w
  let w := s2.red.window
  let s3 := { s2 with xfer := { s2.xfer with slots := slots } }
  let s4 := s3.setRed { s3.red with declined := (n :: s3.red.declined).take 4, window := { w with declined := w.declined + 1 } }
  ((s4.bump Fd.RED_RUN_COUNT_DECLINED).setEvent 19 Fd.RED_EVENT_DECLINED).tracePut 1 0 0 n s4.red.outstanding s4.redTickAt
    s4.redTickAt false

/-- Release run `n` of bank `b` (R254, R259). -/
def State.releaseRun (s : State) (b n : Nat) : State :=
  let (fresh, s1) := s.takeFresh b
  let t := s1.redTickAt
  let cap := s1.red.caps.find? fun c => c.frame == n
  let isDue (e : GDelay) : Bool := decide (since32 n e.due < 2 ^ 31)
  let x : GRun :=
    { n := n, bank := b, rel := t, out := [], ended := [], due := s1.red.delay.filter fun e => isDue e && e.bank == b
      swapped := fresh, mains := (cap.map (·.word)).getD [], flags := (cap.map (·.flags)).getD 0 }
  let s2 := s1.setRed { s1.red with delay := s1.red.delay.filter fun e => !isDue e, live := s1.red.live ++ [x], clk := max s1.red.clk t }
  let s3 := s2.tracePut 0 0 0 n s2.red.outstanding t t false
  let s4 := x.due.foldl (fun u e => u.tracePut 7 0 e.node n (ofSigned 32 e.value) t t (s.traced b e.node)) s3
  (s4.red.nodes b).zipIdx.foldl (fun u y =>
    if y.1.op = 2 ∨ y.1.op = 3 ∨ y.1.op = 4 then u.makeReady x y.2 t else u) s4

/-- Back-pressure is judged on OUTSTANDING after the stop (R260); the CLUSTER_BP injection forces it (R402). -/
def State.redJudge (s : State) : State :=
  let n := s.red.outstanding
  let bp := if n > s.get Fd.RED_BP_BP_HIGH then true else if n ≤ s.get Fd.RED_BP_BP_LOW then false else s.red.bp
  s.setRed { s.red with bp := bp || (s.scree.inj 7).isSome }

/-- A GRAPH_UNLOAD of the active bank takes effect at this tick, from which no run is released (R271). -/
def State.unloadDue (s : State) : Bool :=
  s.red.swap.isNone && s.mbx.taken.any fun c =>
    c.opcode == 0x0702 && s.due c && !c.begun && c.u 0 1 == 1

/-- Commands not sent in their frame wait for this one's bulk region; those of a port that has left L0 are dropped (R265). -/
def State.redCmds (s : State) : State :=
  let old (c : GCmd) : Bool := c.frame != s.frame
  let gone := s.red.cmds.filter fun c => old c && s.linkState c.port != 7
  let wait := s.red.cmds.filter fun c => old c && s.linkState c.port == 7
  let keep := (s.red.cmds.filter fun c => !(old c && s.linkState c.port != 7)).map fun c => { c with frame := s.frame }
  ((s.setRed { s.red with cmds := keep }).bump Fd.RED_CMD_DROPPED gone.length).bump Fd.RED_CMD_DEFERRED wait.length

/-- A result-list descriptor of 32 bytes. -/
def listOf (d : List Byte) : RList :=
  { log2 := (leAt d 0 4 / 2 ^ 12) % 16, unpacked := leAt d 0 4 % 2 = 1, inst := (leAt d 4 4 / 2 ^ 8) % 64
    gen := leAt d 4 1, base := leAt d 8 8, pasid := leAt d 16 4, len := 0, wcount := 0 }

/-- A descriptor that R262 allows, of an instance that exists. -/
def State.listOk (s : State) (d : List Byte) : Bool :=
  let l := listOf d
  leAt d 0 4 / 2 ^ 16 == 0 && (leAt d 0 4 / 2) % 2 ^ 11 == 0 && inRange l.log2 3 12 && leAt d 4 4 / 2 ^ 14 == 0 &&
  l.base % 64 == 0 && (l.pasid / 2 ^ 20) % 2 ^ 11 == 0 && (d.drop 20).all (fun b => b == 0) && (s.instOf l.inst).exist

/-- A graph bank from a judged image (R266). -/
def bankOf (w : List Nat) (lists : List RList) (load : Nat) : GBank :=
  let xs := tableNodes w (w.getD 1 0 % 2 ^ 11)
  let lens := xs.map (·.outLen)
  let fill (l : RList) (k : Nat) : RList :=
    match xs.find? fun x => x.op == 0x50 && x.parN 0 == k with
    | some x => { l with len := (x.a.map fun j => lens.getD j 0).getD 0 }
    | none => l
  { id := w.getD 2 0, nodes := xs, pool := tablePool w xs.length, lists := lists.zipIdx.map fun y => fill y.1 y.2, st := [], aff := []
    bad := [], fresh := false, dying := false, load := load }

/-- GRAPH_LOAD judged: `data` is the image followed by the descriptors; in the order of R426: INVALID by the lowest DETAIL,
STALE_GENERATION, DENIED. `go`: what a load that breaks no rule does with the bank. (DESIGN CHOICE, log entry 195.) -/
def State.graphJudged (s : State) (c : Cmd) (data : List Byte) (go : GBank → State) : State :=
  let len := c.u 8 4
  let img := data.take len
  let n := c.u 20 1
  let ds := (List.range n).map fun k => slice data (len + 32 * k) 32
  let lists := ds.map listOf
  let b := s.red.idleBank
  match judgeImage img len n with
  | some d => s.finish c ST.invalid d []
  | none =>
    s.judged c [(!(ds.all s.listOk), ST.invalid, 13),
        (lists.any fun l => l.gen != (s.instOf l.inst).gen, ST.stale, 0),
        (s.red.swap.isSome, ST.denied, 1),
        (s.red.live.any fun x => x.bank == b, ST.denied, 2),
        (s.bistHolds, ST.denied, 3)]
      (go (bankOf (imageWords img len) lists (s.red.loads + 1)))

/-- A GRAPH_LOAD whose image has been read fills the idle bank at this tick, if its rules still hold. -/
def State.redLoad (s : State) : State :=
  match s.red.image with
  | some (id, data) =>
    let s1 := s.setRed { s.red with image := none }
    match s1.findCmd id with
    | some c => s1.graphJudged c data fun g =>
        let b := s1.red.idleBank
        let s2 := s1.setRed { s1.red.setBank b (some g) with loads := s1.red.loads + 1 }
        s2.okay c (leBytes 1 b ++ zeros 1 ++ leBytes 2 (valueFp g.nodes) ++ leBytes 2 (stateFp (g.nodes.map (·.outLen)) g.nodes) ++
          leBytes 2 g.nodes.length)
    | none => s1
  | none => s

/-- The cluster at the tick of the current frame: deadline, swap, back-pressure, decline or release of the run of the frame
before, and the capture of the mains word (R254). (DEDUCED, log entry 201.) -/
def State.redTick (s : State) : State :=
  let f := s.frame
  let n := (f + 2 ^ 32 - 1) % 2 ^ 32
  let s1 := ((s.redCmds.redMove.redStop f s.redTickAt).redSwap f s.redTickAt).redLoad.redJudge
  let s2 := match s1.red.active with
    | some b =>
      if s1.unloadDue then s1
      else if s1.on Fd.RED_CTRL_EN ∧ ¬ s1.red.bp then s1.releaseRun b n
      else s1.declineRun b n
    | none => s1
  let cap : GCap :=
    { frame := f, word := s2.mains.word, flags := s2.get Fd.TIM_STATUS_TIME_ESTIMATED + 2 * b2n (decide (s2.discState = 3)) }
  let w := s2.red.window
  (s2.setRed { s2.red with
    caps := (cap :: s2.red.caps).take 2
    window := { w with frames := w.frames + 1, span := w.span + frameWt s2.period * 15 } }).redSync

/-! ### Result slots (R263) -/

/-- The write count of a queued slot's list: the bank's own, while it holds the load that queued the slot. -/
def State.listCount (s : State) (w : GSlot) : Nat :=
  match s.red.bank w.bank with
  | some g => if g.load = w.load then ((g.lists[w.index]?).map (·.wcount)).getD w.list.wcount else w.list.wcount
  | none => w.list.wcount

def State.stepCount (s : State) (w : GSlot) : State :=
  match s.red.bank w.bank with
  | some g =>
    if g.load = w.load then
      let up (l : RList) : RList := { l with wcount := (l.wcount + 1) % 2 ^ 31 }
      s.setRed (s.red.setBank w.bank (some { g with lists := g.lists.zipIdx.map fun y => if y.2 = w.index then up y.1 else y.1 }))
    else s
  | none => s

/-- Bits of eight elements' flags, lowest first. -/
def flagByte (l : RVal) : Nat := (l.take 8).zipIdx.foldl (fun n y => n + b2n y.1.2 * 2 ^ y.2) 0

/-- Payload and bitmap of a value: an invalid element is written as 0 (R263). -/
def slotPayload (l : RList) (v : RVal) : List Byte :=
  packWords l.unpacked (v.map fun e => if e.2 then ofSigned 24 e.1 else 0) ++
    (List.range ((v.length + 7) / 8)).flatMap fun k => leBytes 1 (flagByte (v.drop (8 * k)))

def RList.stride (l : RList) : Nat := 16 + 16 * (((if l.unpacked then 4 else 3) * l.len + (l.len + 7) / 8 + 15) / 16)

/-- Bytes 0x00 to 0x0B of a result slot. -/
def slotHeader (w : GSlot) (pay : List Byte) : List Byte :=
  let bad := (w.value.filter fun e => !e.2).length
  leBytes 4 ((w.n + 2 ^ 32 - 1) % 2 ^ 32) ++
  leBytes 4 (w.result * 2 ^ 29 + b2n w.swapped * 2 ^ 28 + (if w.result = 0 then w.value.length * 2 ^ 16 + min bad 0xFFFF else 0)) ++
  leBytes 4 (if w.result = 0 then crc32c pay else 0)

/-- The four writes of a result slot in the order of R186. -/
def State.writeResult (s : State) (w : GSlot) : State :=
  let l := w.list
  let pay := if w.result = 0 then slotPayload l w.value else []
  let a := l.base + (((w.n + 2 ^ 32 - 1) % 2 ^ 32) % 2 ^ l.log2) * l.stride
  let k := s.listCount w
  let p := pasidOf l.pasid
  let s1 := s.instWrite l.inst p (a + 12) (leBytes 4 (2 * k + 1)) false false
  let s2 := if pay.isEmpty then s1 else s1.instWrite l.inst p (a + 16) pay true false
  ((s2.instWrite l.inst p a (slotHeader w pay) false false).instWrite l.inst p (a + 12) (leBytes 4 (2 * k)) false false).stepCount w

/-- R263: the oldest result slot whose port takes a write of class 2 (R234) is written; one of an older generation is discarded and counted (R281); one
that R160 keeps from being issued is not written. (DEDUCED, log entry 208.) -/
def execEmitSlotWrite (ok : Bool) (s : State) : Out :=
  match s.red.slots.find? fun w => s.mayDrain (s.instOf w.list.inst).port with
  | some w =>
    let s1 := s.setRed { s.red with slots := s.red.slots.erase w }
    let i := w.list.inst
    if w.list.gen ≠ (s.instOf i).gen ∨ ¬ (s.instOf i).exist then .next (s1.countDiscard i)
    else if s.isoKind i (pasidOf w.list.pasid) ≠ 0 then .next (s1.countIso i (pasidOf w.list.pasid))
    else if ok ∧ s.portUp (s.instOf i).port then .next (s1.writeResult w)
    else .next s1
  | none => .next s

/-! ### Bus commands (R265) -/

/-- The command that goes next on port `p`. -/
def State.nextCmd (s : State) (p : Nat) : Option GCmd := s.red.cmds.find? fun c => c.port == p && c.frame == s.frame

/-- What a bus command occupies: LEN + 5 wt and the guard, without an answer; it passes every hub (R264). -/
def State.cmdNeed (s : State) (p : Nat) (c : GCmd) : Need :=
  { Need.nothing with
    down := c.words.length + 6, path := (s.portDevices p).foldl (fun (m : Nat) (x : Nat × Device) => max m x.2.down) 0 }

/-- R265: the oldest queued command of port `p` is sent as a BCAST token and a BDATA packet; one that does not fit waits
for the next frame, one whose port is not in L0 is dropped. (DEDUCED, log entry 207.) -/
def execBusCommandLaunch (p : Nat) (fits : Bool) (s : State) : Out :=
  match s.nextCmd p with
  | some c =>
    let rest := s.setRed { s.red with cmds := s.red.cmds.erase c }
    let n := s.cmdNeed p c
    if s.linkState p ≠ 7 then .next (rest.bump Fd.RED_CMD_DROPPED)
    else if s.bulkOpen p ∧ fits ∧ s.bulkFits p 0 n then
      let at1 := s.launchAt p 0 n (s.lane p).tail
      let s1 := rest.sendToken p 5 c.group c.ep 0 (some (sopBody 4 0 c.words.length)) c.words false false
      .next (((s1.takeWt p n at1 false).placeSent p at1).bump Fd.RED_CMD_SENT)
    else if s.time.phase = .running ∧ ¬ s.bulkOpen p then .next s
    else
      let later := { c with frame := (s.frame + 1) % 2 ^ 32 }
      let cmds := s.red.cmds.map fun x => if x = c then later else x
      .next ((s.setRed { s.red with cmds := cmds }).bump Fd.RED_CMD_DEFERRED)
  | none => .next s

/-! ### Trace records (R268) -/

/-- The manager's port has no request of classes 1 to 4 ready: trace records go last. -/
def State.traceFree (s : State) : Bool := s.mayDma s.boot.barPort && !s.dmaWaits s.boot.barPort

/-- More than one frame has passed since the decision of record `r`. -/
def State.traceLate (s : State) (r : GTraceRec) : Bool := decide (s.time.cyc * 3 > r.made + frameWt s.period * 15)

/-- R268: the oldest trace record whose frame has not passed is written as two posted writes. -/
def execTraceRecordWrite (ok : Bool) (s : State) : Out :=
  match s.red.recs.find? fun r => !s.traceLate r with
  | some r =>
    if ¬ s.traceFree ∨ ¬ ok ∨ ¬ s.portUp s.boot.barPort then .next s
    else
      let w (o : Nat) (b : List Byte) : HostWrite :=
        { port := s.boot.barPort, pasid := r.pasid, addr := r.addr + o, data := b, relaxed := false, poisoned := false }
      let s1 := s.setRed { s.red with recs := s.red.recs.erase r }
      .next ((s1.issue (w 0 ((r.words.take 3).flatMap (leBytes 4)))).issue (w 12 ((r.words.drop 3).flatMap (leBytes 4))))
  | none => .next s

/-- R268: trace records older than one frame are dropped and counted. -/
def execTraceRecordDrop (s : State) : Out :=
  let n := (s.red.recs.filter s.traceLate).length
  .next ((s.setRed { s.red with recs := s.red.recs.filter fun r => !s.traceLate r }).bump Fd.RED_TRACE_LOST n)

/-! ### Graph commands (R271) -/

/-- GRAPH_LOAD completes PENDING and the firmware reads the image and the descriptors through the manager's port; PENDING_OUTCOME carries
what the reads returned. (DEDUCED, log entry 194.) -/
def execGraphLoad (id : Nat) (s : State) : Out :=
  .next (s.run id 0x0700 fun c =>
    s.judged c [(decide (c.u 0 8 % 4 ≠ 0 ∨ c.u 20 1 > 16 ∨ c.u 21 1 > 1 ∨ c.u 24 4 ≥ 2 ^ 20), ST.invalid, 0)]
      (let p := if c.u 21 1 = 1 then some (c.u 24 4) else none
       let s1 := (s.fwReadsEnd c.id).fwRead c.id p (c.u 0 8) (c.u 8 4) 0
       (if c.u 20 1 = 0 then s1 else s1.fwRead c.id p (c.u 12 8) (32 * c.u 20 1) 1).goPending c s.frame))

/-- The image is in the firmware: a failed read ends the command FAULT; one that breaks no rule takes effect at the next tick (R38). -/
def State.outcomeGraphLoad (s : State) (c : Cmd) (ok : Bool) (data : List Byte) : State :=
  if ¬ ok then s.finish c ST.fault 0 []
  else s.graphJudged c data fun _ => s.setRed { s.red with image := some (c.id, data) }

/-- GRAPH_SWAP: the target tick is that of AT_FRAME, or of the second frame after the take. -/
def execGraphSwap (id : Nat) (s : State) : Out :=
  .next (s.runNow id 0x0701 fun c =>
    let t := c.target.getD ((c.takeFrame + 2) % 2 ^ 32)
    let empty := ((s.red.bank s.red.idleBank).map fun g => g.dying).getD true
    s.judged c [(empty, ST.denied, 1), (s.red.swap.isSome, ST.denied, 2)]
      ((s.setRed { s.red with swap := some (c.id, t) }).redSync.begin c))

/-- The unload of the inactive bank, or of the active one: its live runs finish, and the bank is empty when the last ends. -/
def State.unloadBank (s : State) (which : Nat) : State :=
  if which = 0 then s.setRed (s.red.setBank s.red.idleBank none)
  else match s.red.active with
    | some b =>
      let g := (s.red.bank b).map fun x => { x with dying := true }
      s.setRed ({ s.red.setBank b g with active := none, other := 1 - b, delay := [] }).sweep
    | none => s

def execGraphUnload (id : Nat) (s : State) : Out :=
  .next (s.run id 0x0702 fun c =>
    let which := c.u 0 1
    s.judged c [(decide (which > 1), ST.invalid, 0), (s.red.swap.isSome, ST.denied, 1),
        (which == 0 && s.red.live.any fun x => x.bank == s.red.idleBank, ST.denied, 2)]
      ((s.unloadBank which).redSync.okay c []))

/-- A quotient of GRAPH_GET_STATS, its rounding free. (DEDUCED, log entry 209.) -/
def statsDiv (field a b : Nat) : Nat :=
  if b = 0 then Config.statsNone field
  else if a % b ≠ 0 ∧ Config.statsUp a b then a / b + 1 else a / b

/-- The 12 bytes of core `c`: 40 ns are 48 cluster instants. -/
def GWindow.coreBytes (w : GWindow) (c : Nat) : List Byte :=
  let g := SMap.get GStat.reset w.cores c
  leBytes 2 (statsDiv (16 + 12 * c) (g.busy * 1000) w.span) ++ leBytes 2 g.depth ++
  leBytes 2 (statsDiv (20 + 12 * c) g.waitSum (48 * g.started)) ++ leBytes 2 (min (statsDiv (22 + 12 * c) g.waitMax 48) 0xFFFF) ++
  leBytes 4 g.nodes

def execGraphGetStats (id : Nat) (s : State) : Out :=
  .next (s.run id 0x0703 fun c =>
    let w := s.red.window
    let gid := (s.red.active.bind fun b => (s.red.bank b).map (·.id)).getD 0
    let resp := leBytes 4 w.frames ++ leBytes 4 w.done ++ leBytes 2 w.declined ++ leBytes 2 w.stopped ++ leBytes 3 gid ++
      leBytes 1 (s.get Fd.PDM_DVFS_POINT) ++ (List.range 16).flatMap w.coreBytes
    s.judged c [(decide (c.u 0 1 > 1), ST.invalid, 0)]
      ((if c.u 0 1 = 1 then s.setRed { s.red with window := GWindow.reset } else s).okay c resp))

/-- (DESIGN CHOICE, log entry 210.) -/
def execGraphTraceConfig (id : Nat) (s : State) : Out :=
  .next (s.run id 0x0704 fun c =>
    let lg := c.u 8 1
    let t : GTrace :=
      { base := c.u 0 8, log2 := lg, all := bitAt (c.u 9 1) 1, mask := c.u 10 2
        pasid := if bitAt (c.u 9 1) 0 then some (c.u 12 4 % 2 ^ 20) else none }
    s.judged c [(decide (c.u 0 8 % 64 ≠ 0 ∨ (lg ≠ 0 ∧ (lg < 8 ∨ lg > 16)) ∨ c.u 9 1 > 3 ∨ c.u 12 4 ≥ 2 ^ 20), ST.invalid, 0)]
      ((s.setRed { s.red with trace := if lg = 0 then none else some t, tseq := 0 }).okay c []))

end Sys2Proof.Machine
end

