-- ==== Sys2Proof/Machine/Link.lean ====
section
/-! DEFINITION. The commands of the root ports' link layer (04_tsucel_link.md, R93 to R116; 05, R151). Each received word
takes one word time of the descrambler (R95). -/

namespace Sys2Proof.Machine

/-! ### Training words (R101, R102) -/

/-- R102, R115: a TS1 arrives. `inverted`: 32 words in a row become valid TS1 only after inverting every bit; `adapted`: this
receiver has adapted to the partner's announced preset. -/
def execTs1 (p body : Nat) (adapted inverted : Bool) (s : State) : Out :=
  let s0 := s.rxWords p 1 0
  let st := s0.linkState p
  let c := (s0.lp p).ctrlEff
  if inverted then
    (if st = 2 ∧ bitAt c.toNat 8 then
      .next ((s0.put (Fd.LNK_STATUS_INVERTED p) 1).editLp p fun l => { l with inverted := true })
    else .next s0)
  else if st = 2 ∨ (st = 8 ∧ ¬ (s0.lp p).ts1Seen) then .next ((s0.editLp p fun l => { l with ts1Seen := true }).pollDone p)
  else if st = 3 then
    let req := (body / 2 ^ 10) % 16
    let s1 := (s0.editLp p fun l => { l with presetNeg := if req ≤ 7 then req else l.presetNeg }).usePreset p
    let s2 := (s1.put (Fd.LNK_STATUS_PRESET_RX p) ((body / 2 ^ 6) % 16)).editLp p fun l =>
      { l with ts1Done := if bitAt body 14 then l.ts1Done + 1 else 0, adapted := l.adapted || adapted }
    let l := s2.lp p
    let s2 := if l.adapted ∧ ¬ (s1.lp p).adapted then s2.sendTraining p 3 else s2
    .next (if 8 ≤ l.ts1Done ∧ l.adapted then s2.enterStage p 4 else s2)
  else if (st = 1 ∨ st = 10) ∧ s0.isDm p then
    .next ((s0.startTraining p (if st = 1 then .full else .l2exit)).editLp p fun l => { l with ts1Seen := true })
  else .next s0

/-- R101, R102: a TS2 arrives in CONFIG, or in the CONFIG of RECOVERY, where it only counts (R109). Sixteen in a row with LINK_VER = 1 end the stage: DELAY follows. (DEDUCED, log entry 77.) -/
def execTs2 (p body : Nat) (s : State) : Out :=
  let s0 := s.rxWords p 1 0
  let l0 := s0.lp p
  if s0.linkState p = 8 ∧ l0.wordLock ∧ l0.ts1Seen then
    .next (s0.editLp p fun l => { l with ts2Rx := if (body / 2 ^ 8) % 16 = 1 then l.ts2Rx + 1 else 0 })
  else if s0.linkState p ≠ 4 then .next s0
  else if (body / 2 ^ 8) % 16 = 1 then
    let s1 := (s0.put (Fd.LNK_STATUS_PARTNER_HUB p) ((body / 2 ^ 14) % 2)).put (Fd.LNK_STATUS_PARTNER_DUAL p) ((body / 2 ^ 13) % 2)
    let s2 := s1.editLp p fun l => { l with ts2Rx := l.ts2Rx + 1 }
    .next (if 16 ≤ (s2.lp p).ts2Rx then s2.enterStage p 5 else s2)
  else .next (s0.editLp p fun l => { l with ts2Rx := 0, verBad := true })

/-! ### Measurement (R104, R105) -/

/-- R104: the DFP sends its next PING, launched at `stamp` (1/64 wt). A PING that falls due after the last of a measurement
finds an exchange missing: that measurement is refused and another begins with it (R105). (DEDUCED, log entry 79.) -/
def execPingSend (p stamp : Nat) (s : State) : Out :=
  let add (t : State) : State := (t.say p 0x27 ((t.lp p).pings * 2 ^ 8)).editLp p fun l =>
    { l with exch := l.exch ++ [{ seq := l.pings, launch := stamp, echo := none, trip := none }], pings := l.pings + 1 }
  let l := s.lp p
  if s.linkState p = 5 ∧ ¬ s.isDm p then
    (if l.pings < 64 then .next (add s)
    else
      let s1 := s.judgeStage p
      .next (if s1.linkState p = 5 then add s1 else s1))
  else if s.linkState p = 7 ∧ l.slot = some 0 ∧ l.pings < 8 then .next (add s)
  else .next s

/-- R104: the ECHO of PING `SEQ` arrives at `stamp`. -/
def execLnkEcho (p body stamp : Nat) (s : State) : Out :=
  let f (e : Exchange) : Exchange := if e.seq = body / 2 ^ 8 ∧ e.echo.isNone then { e with echo := some stamp } else e
  .next ((s.rxWords p 1 0).editLp p fun l => { l with exch := l.exch.map f })

/-- The TURN belongs to the exchange whose ECHO has come last and has no trip yet. -/
def setTrip (turn : Nat) : List Exchange → List Exchange
  | [] => []
  | e :: t =>
    match e.echo, e.trip with
    | some a, none => { e with trip := some ((a : Int) - (e.launch : Int) - (turn : Int)) } :: t
    | _, _ => e :: setTrip turn t

/-- R104, R105: a TURN arrives; that of the last exchange has a DELAY stage's measurement judged. -/
def execLnkTurn (p body : Nat) (s : State) : Out :=
  let s1 := ((s.rxWords p 1 0).put (Fd.LNK_DELAY_INFO_TURN p) body).editLp p fun l => { l with exch := setTrip body l.exch }
  let last : Bool := match (s1.lp p).exch.getLast? with
    | some e => e.seq == 63 && e.trip.isSome
    | none => false
  .next (if s1.linkState p = 5 ∧ last then s1.judgeStage p else s1)

/-- R104: a PING reaches a root port in device mode and is answered with ECHO and TURN; `turn` is the turnaround the port
measures. (DESIGN CHOICE, log entry 82.) -/
def execLnkPing (p body turn : Nat) (s : State) : Out :=
  let s0 := s.rxWords p 1 0
  if s0.isDm p then
    .next (((s0.editLp p fun l => { l with echoed := some (body / 2 ^ 8, turn) }).say p 0x2B (body / 2 ^ 8 * 2 ^ 8)).say p 0x2D turn)
  else .next s0

/-! ### Failures, waits and word lock (R96, R101, R103, R109) -/

/-- R101: the window of the stage has passed; training fails with the stage's code. -/
def execTrainingTimeout (p : Nat) (s : State) : Out :=
  match s.linkState p with
  | 2 => .next (s.trainFail p 1)
  | 3 => .next (s.trainFail p 2)
  | 4 => .next (s.trainFail p (if (s.lp p).verBad then 7 else 3))
  | 5 => .next (s.trainFail p 4)
  | _ => .next s

/-- R103: the wait after a failed training is over; only detects from now on count. (DEDUCED, log entry 76.) -/
def execDetectWaitEnd (p : Nat) (s : State) : Out :=
  match (s.lp p).waitUntil with
  | some f =>
    if since32 s.frame f < 2 ^ 31 then .next (s.editLp p fun l => { l with waitUntil := none, detects := 0 }) else .next s
  | none => .next s

/-- R96: the receiver reports 64 consecutive valid words, most of which no row of their own has brought: word lock (DESIGN CHOICE, log
entry 237). -/
def execWordLockGain (p : Nat) (s : State) : Out := .next (s.gainWordLock p)

/-- R96: the receiver reports 16 failing words of 64: word lock is lost; a link in L0 enters RECOVERY. -/
def execWordLockLoss (p : Nat) (s : State) : Out := .next (s.loseWordLock p)

/-- A line word fails HEADER or CHECK (R93, R94). -/
def wordBad (w : Nat) : Bool := w / 2 ^ 28 % 4 = 0 || w / 2 ^ 28 % 4 = 3 || crc4 w != w % 16

/-- R96: a received line word that fails R93 is counted and otherwise not received. -/
def execWordError (p word : Nat) (s : State) : Out := .next (s.rxWords p 1 (b2n (wordBad word)))

/-! ### Control words (R97) -/

/-- R97: the body of an IDLE is the low 16 bits of this word time's mask; a mismatch is counted. (DEDUCED, log entry 78.) -/
def execLnkIdle (p body : Nat) (s : State) : Out :=
  let l := s.lp p
  let s0 := s.rxWords p 1 0
  if ¬ l.descrOn then .next s0
  else if body = l.descr % 2 ^ 16 then .next (s0.editLp p fun x => { x with mism := if x.mism ≥ 4 then 4 else 0 })
  else .next ((s0.bump (Fd.LNK_ERR_SCRAMBLE p)).editLp p fun x => { x with mism := min (x.mism + 1) 4 })

/-- The control-word codes that R97 assigns. -/
def knownCodes : List Nat := [0x0F, 0x17, 0x1B, 0x1D, 0x1E, 0x27, 0x2B, 0x2D, 0x2E, 0x33, 0x35, 0x36, 0x39, 0x3A]

/-- R97: a control word with any other code is discarded and counted. -/
def execUnknownControlWord (p code : Nat) (s : State) : Out :=
  let s0 := s.rxWords p 1 0
  if knownCodes.contains code then .next s0 else .next (s0.bump (Fd.LNK_ERR_UNKNOWN p))

/-- R95, R97: UMARK reloads the descrambler for the word time after it. -/
def execLnkUmark (p _body : Nat) (s : State) : Out :=
  .next ((s.rxWords p 1 0).editLp p fun l => { l with descr := 0xFFFFFF, descrOn := true, mism := 0 })

/-! ### RECOVERY, L1 and L2 (R108, R109, R110, R151) -/

/-- R109: RECOVERY has run POLL, with word lock on TS1, and CONFIG, with 16 consecutive TS2; the link returns to L0 at the next tick. -/
def execRecoveryComplete (p : Nat) (s : State) : Out :=
  let l := s.lp p
  if s.linkState p = 8 ∧ l.wordLock ∧ l.ts1Seen ∧ 16 ≤ l.ts2Rx then .next (s.editLp p fun l => { l with l0Next := true }) else .next s

/-- R109: RECOVERY has failed: the link enters DETECT and trains in full. -/
def execRecoveryTimeout (p : Nat) (s : State) : Out :=
  if s.linkState p = 8 ∧ ¬ (s.lp p).l0Next then
    let s1 := (s.bump (Fd.LNK_RECOV_RETRAINS p)).put (Fd.LNK_STATUS_LAST_FAIL p) 8
    .next (((s1.enterDetect p).editLp p fun l => { l with kind := .recovery }).loseLink 1 (rootLink p))
  else .next s

/-- R108: a PM word. An ACK of the request outstanding schedules the entry, NAK ends the request; a port in device mode
acknowledges the far host's request. -/
def execPm (p body : Nat) (s : State) : Out :=
  let s0 := s.rxWords p 1 0
  let k := body / 2 ^ 12
  let r := (s0.lp p).pmReq
  let enter (st : Nat) : State := s0.editLp p fun l => { l with pmReq := 0, pmEnter := st, pmAt := s0.time.cyc }
  if s0.isDm p then
    (if s0.linkState p = 7 ∧ (k = 1 ∨ k = 3) then .next ((enter (if k = 1 then 9 else 10)).say p 0x2E ((k + 1) * 2 ^ 12)) else .next s0)
  else if k = 2 ∧ r = 1 then .next (enter 9)
  else if k = 4 ∧ r = 3 then .next (enter 10)
  else if k = 5 then .next (s0.editLp p fun l => { l with pmReq := 0 })
  else .next s0

/-- R108: silence counts as NAK. -/
def execPmAnswerTimeout (p : Nat) (s : State) : Out := .next (s.editLp p fun l => { l with pmReq := 0 })

/-- R151: a beacon in L1 or L2 raises WAKE, and resumes the link if AUTO_RESUME is 1. -/
def execLnkBeacon (p : Nat) (s : State) : Out :=
  if s.linkState p = 9 ∨ s.linkState p = 10 then
    let s1 := (s.linkEvent p Fd.LNK_EVENT_WAKE).setEvent 16 Fd.TRE_EVENT_WAKE
    .next (if s.on Fd.TRE_CTRL_AUTO_RESUME then s1.resumeLink p else s1)
  else .next s

/-- R110: the detect that a link in L1 or L2 runs every 256 frames; two absent results in a row are a removal. (DEDUCED, log entry 95.) -/
def execLowPowerDetect (p : Nat) (found : Bool) (s : State) : Out :=
  let l := s.lp p
  if (s.linkState p = 9 ∨ s.linkState p = 10) ∧ since32 s.frame l.lowFrame ≥ 256 then
    let s1 := s.editLp p fun x => { x with lowFrame := s.frame, absents := if found then 0 else x.absents + 1 }
    .next (if (s1.lp p).absents ≥ 2 then s1.removal p else s1)
  else .next s

/-! ### Recalibration (R111 to R113, R115) -/

/-- R112: the interval of kind 0 (DELAY) or 1 (RX) has passed and its slot is scheduled. -/
def execRecalDue (p kind : Nat) (s : State) : Out :=
  let l := s.lp p
  let n : Nat := if kind = 0 then bits l.ctrlEff 19 16 else bits l.ctrlEff 23 20
  let base : Nat := if kind = 0 then l.dlyBase else l.rxBase
  let gap : Nat := if kind = 0 then 2 ^ (8 + n) else 2 ^ (12 + n)
  if s.linkState p = 7 ∧ kind ≤ 1 ∧ n ≤ 8 ∧ since32 s.frame base ≥ gap then
    .next (s.editLp p fun x => { x with dlyDue := x.dlyDue || kind == 0, rxDue := x.rxDue || kind == 1 })
  else .next s

/-- R111, R113: the slot that runs is over: a DELAY slot's measurement is judged, the commands for its kind are satisfied, and
a slot of the other kind may follow it in the same Col. -/
def execRecalSlotComplete (p : Nat) (s : State) : Out :=
  match (s.lp p).slot with
  | some k =>
    let s1 := if k = 0 then s.judgeSlot p else s
    let s2 := (s1.recalDone p k).editLp p fun l => { l with slot := none, exch := [], pings := 0 }
    let f (r : RecalCmd) : RecalCmd := if r.port = p ∧ r.kind = k then { r with ran := true } else r
    let s3 := { s2 with links := { s2.links with recals := s2.links.recals.map f } }
    .next (s3.startSlot p ((s.lp p).slotWt + slotLen k))
  | none => .next s

/-- A write to LNK_CTRL (R115): its RW fields, and RETRAIN. One that writes a reserved encoding (R9), or that would set EN or clear
DISABLE while BIST test 0 holds its prerequisites (R403), is ineffective. -/
def State.lnkCtrlWrite (s : State) (p val : Nat) : State :=
  let old := s.rd (Reg.LNK_CTRL p)
  let held := s.bistHolds && ((bitAt val 0 && !bitAt old.toNat 0) || (!bitAt val 1 && bitAt old.toNat 1))
  if p < s.ports ∧ writable (Reg.LNK_CTRL p) val ∧ ¬ held then
    let s1 := s.storeReg (Reg.LNK_CTRL p) val
    if bitAt val 2 then s1.editLp p fun l => { l with retrain := true } else s1
  else s

def execLnkRetrainWrite (port : Side) (p val : Nat) (s : State) : Out :=
  .next (s.hostWriteVia port .manager (s.lnkCtrlWrite p val))

/-! ### Link commands (R116) -/

/-- A hub's link is in L0 as far as the H24 knows it. (DEDUCED, log entry 83.) -/
def State.hubLinkUp (s : State) (l : LinkSel) : Bool :=
  (match (s.childOf l).bind s.dev with
    | some d => !d.susp
    | none => false) ||
  (s.tree.waiting.any fun w => w.1 == l) || (s.tree.enums.any fun e => e.link == l)

/-- R364: the partner carries every dual-homed hub below the link, and this controller holds no handle below it other than
system grants. -/
def State.partnerCarries (s : State) (l : LinkSel) : Bool :=
  let below := s.devsBelow l
  s.get Fd.PAR_CTRL_MODE == 2 &&
  (below.all fun a => match s.dev a with
    | some d => !(d.isHub && d.dual) || d.covered
    | none => true) &&
  !(s.alloc.grants.any fun g => g.handle != 0 && !g.system && below.contains (g.key / 16))

/-- R116: LINK_RECALIBRATE. (DEDUCED, log entry 84.) -/
def execLinkRecalibrate (id : Nat) (s : State) : Out :=
  .next (s.run id 0x0108 fun c =>
    let l := c.link 0 3 4
    let kind := c.u 1 1
    let up : Bool := if l.hub = 0 then s.linkState l.port == 7 else s.hubLinkUp l
    s.judged c [(s.badLink l || decide (kind > 2), ST.invalid, 0),
        (kind == 2 && c.u 2 1 % 2 == 0 && !s.partnerCarries l, ST.denied, 1), (!up, ST.denied, 2)]
      (if l.hub = 0 then
        let r : RecalCmd := { cmd := id, port := l.port, kind := kind, ran := false }
        let s1 := { s with links := { s.links with recals := s.links.recals ++ [r] } }
        if kind = 2 then
          (((s1.goPending c s.frame).say l.port 0x3A (2 * 2 ^ 12)).editLp l.port fun x =>
            { x with kind := .recal, adapted := false, slot := none }).enterStage l.port 3
        else s1.begin c
      else
        let r : HubRecal := { cmd := id, link := l, setAt := none }
        let s1 := { s with tree := { s.tree with hubRecals := s.tree.hubRecals ++ [r] } }
        (s1.goPending c s.frame).hubSet l.hub 0x21 4 (kind * 16 + l.hport) (.command id)))

/-- The response of LINK_GET_STATUS for a root link. -/
def State.linkBytes (s : State) (p : Nat) : List Byte :=
  let l := s.lp p
  leBytes 1 (s.linkState p) ++ leBytes 1 (s.get (Fd.LNK_STATUS_LAST_FAIL p)) ++ leBytes 1 (s.get (Fd.LNK_STATUS_PRESET_TX p)) ++
    leBytes 1 (s.get (Fd.LNK_STATUS_PRESET_RX p)) ++
    leBytes 1 (s.get (Fd.LNK_STATUS_INVERTED p) + 2 * s.get (Fd.LNK_STATUS_PARTNER_HUB p) + 4 * s.get (Fd.LNK_STATUS_PARTNER_DUAL p)) ++
    zeros 3 ++ s.delayBytes p ++ leBytes 4 l.errTotal ++ leBytes 2 (min l.recTotal 0xFFFF) ++ leBytes 2 (min l.failTotal 0xFFFF) ++
    leBytes 4 (s.get (Fd.LNK_RECAL_FRAME_FRAME p))

/-- R116: LINK_GET_STATUS; a hub's link is read from the hub first. -/
def execLinkGetStatus (id : Nat) (s : State) : Out :=
  .next (s.run id 0x0109 fun c =>
    let l := c.link 0 1 2
    s.judged c [(s.badLink l, ST.invalid, 0)]
      (if l.hub = 0 then s.okay c (s.linkBytes l.port)
      else
        let s1 := { s with tree := { s.tree with hubGets := s.tree.hubGets ++ [(id, l)] } }
        (s1.begin c).readPort l.hub l.hport (.command id)))

end Sys2Proof.Machine
end

