-- ==== Sys2Proof/Machine/Tree.lean ====
section
/-! DEFINITION. The tree in host mode: enumeration, bus reset, deadlines of control transfers, and the tree commands 0x0100 to
0x0107 (05_tsucel_tree.md, R131, R146 to R158). -/

namespace Sys2Proof.Machine

/-! ### Enumeration (R146, R147) -/

/-- The link on port `p` that is enumerated next: the first that waits, with AUTO_ENUM, or one that TREE_ENUMERATE waits for, but no
dual-homed hub whose serving port is the partner's (R353). -/
def State.nextEnum (s : State) (p : Nat) : Option (LinkSel × Bool × Nat × Nat) :=
  s.tree.waiting.find? fun w => w.1.port == p && !s.partnerServes w.1 w.2.1 &&
    (s.on Fd.TRE_CTRL_AUTO_ENUM || s.tree.enumCmds.any fun c => c.waits.contains w.1)

/-- The reason for which a device is refused before its first request (R146); a hub that announces itself at tier 2 or deeper beyond the
1,015 that the maps track is refused with it (R194). -/
def State.enumReason (s : State) (e : Enum) : Option Nat :=
  if e.tier > 7 ∨ (e.hubInfo ∧ e.tier > 6) then some 1
  else if (s.portDevices e.link.port).length ≥ 1024 then some 2
  else if s.devices.length ≥ s.maxDevices then some 3
  else if s.accBase e.link.port + e.down + 16 * 64 > s.strobeOffset * 64 then some 4
  else if (respE e.down e.turn + 63) / 64 + 4 > s.get Fd.SCH_POLICY0_TAIL_WT ∨ (e.hubInfo ∧ s.hubsFull e.tier) then some 8
  else none

/-- R146: enumeration of a device that has reached L0 starts on port `p`. -/
def execEnumerationStart (p : Nat) (s : State) : Out :=
  .next (match s.enumOn p, s.nextEnum p with
  | none, some (l, hub, delay, turn) =>
    let s1 := { s with tree := { s.tree with waiting := s.tree.waiting.filter fun w => w.1 != l } }
    let path := s1.pathOf l
    let e : Enum :=
      { link := l, step := .route0, pos := 0, path := path, addr := 0, tier := path.length + 1, down := s1.downTo l delay
        turn := turn, hubInfo := hub, dev := [], eps := [], hubd := [], repeats := 0, page := none, waiting := false }
    let s2 := ({ s1 with tree := { s1.tree with enums := s1.tree.enums ++ [e] } }).showEnums
    match s2.enumReason e with
    | some r => s2.refuseDev e r
    | none => s2.enumNext e
  | _, _ => s)

/-- R146: a request of the enumeration on port `p` has ended. -/
def execEnumerationRequestComplete (p : Nat) (s : State) : Out :=
  .next (match s.enumOn p, s.xfer.ctls.find? fun c => c.use == SysUse.enumerate && c.port == p && c.result.isSome with
  | some e, some c =>
    (({ s with xfer := { s.xfer with ctls := s.xfer.ctls.erase c } }).sysEnded c (c.result.getD 0)).enumResult
      { e with waiting := false } c (c.result.getD 0)
  | _, _ => s)

/-- R164, R209: a directory entry has been read, for the pager and for an enumeration. -/
def execPageDirectoryComplete (tag : Nat) (ok : Bool) (data : List Byte) (s : State) : Out :=
  .next (match s.findRead tag with
  | some r =>
    if r.use = .directory then
      let s1 := s.dropRead tag
      if r.dead then s1.countDiscard r.inst
      else (s1.dirDone r.key (dirPage ok data)).enumPage r.key (dirPage ok data)
    else s
  | none => s)

/-- Frames that make up `ms` milliseconds. -/
def State.msFrames (s : State) (ms : Nat) : Nat := ms * 1000000 / periodNs s.period

/-- R131: the status stage has not come within 5 ms of the launch of the SETUP token, 50 ms for SET_CONFIGURATION. The request
ends without a response; a transaction of it that is open no longer counts. (DEDUCED, log entry 94.) -/
def execControlDeadline (p addr : Nat) (s : State) : Out :=
  .next (match s.sysAt p addr with
  | some c =>
    let w0 := c.setup.getD 0 0
    let conf := (w0 / 2 ^ 21) % 4 = 0 ∧ (w0 / 2 ^ 8) % 256 = 0x09
    match c.begun with
    | some f =>
      if since32 s.frame f ≥ s.msFrames (if conf then 50 else 5) then
        let cut (t : Txn) : Txn := if t.port = p ∧ t.addr = addr ∧ t.kind = .system then { t with abort := true } else t
        let s1 := { s with xfer := { s.xfer with opens := s.xfer.opens.map cut } }
        (s1.editSys p addr fun y => { y with result := some 2 }).sysDone
      else s
    | none => s
  | none => s)

/-- R148: the 1,600 wt of electrical idle are over; the DFP trains from DETECT, and TREE_PORT_RESET completes at the next
tick. -/
def execBusResetIdleEnd (p : Nat) (s : State) : Out :=
  .next (if (s.lp p).resetIdle then
    let f (c : LinkCmd) : LinkCmd := if c.op = 0x0102 ∧ c.link = rootLink p ∧ c.stage = .wait then { c with stage := .done } else c
    let s1 := s.editLp p fun l => { l with resetIdle := false }
    { s1 with tree := { s1.tree with linkCmds := s1.tree.linkCmds.map f } }
  else s)

/-- R204: the response is posted: maps and context (R199 to R201), DONE, ALLOC_DONE. `ans`: the refusal of a partner that
judged the intent too (R354), none where it admits it. Requests of the H24's own that wait follow. -/
def execAllocResponsePost (ans : Option PartnerRefusal) (s : State) : Out :=
  match s.alloc.req with
  | none => .next s
  | some q0 =>
    let (q, sp) := s.partnerSays q0 ans
    let s0 := { sp with alloc := { sp.alloc with req := none } }
    let f := (s.frame + 2) % 2 ^ 32
    let (s1, q1) : State × AllocReq :=
      match q.op, q.result with
      | 1, 0 | 1, 1 | 3, 0 | 3, 1 =>
        let sa := if q.op = 3 then s0.leaveAt q.old f false else s0
        let (sb, g) := sa.makeGrant q.sea q.k q.phase q.words false
        (sb, { q with handle := g.handle, phase := g.phase, first := g.first })
      | 2, 3 => (s0.leaveAt q.old f true, q)
      | _, _ => (s0, q)
    .next ((s1.postRegs q1).setEvent 17 Fd.SCH_EVENT_ALLOC_DONE).grantWaits

/-! ### What the tree commands do at a tick (R150, R152, R158) -/

def State.dropLinkCmd (s : State) (c : LinkCmd) : State :=
  { s with tree := { s.tree with linkCmds := s.tree.linkCmds.filter fun x => x.cmd != c.cmd } }

/-- Complete a command on a link. -/
def State.endLinkCmd (s : State) (c : LinkCmd) (resp : List Byte) : State :=
  match s.findCmd c.cmd with
  | some k => (s.dropLinkCmd c).okay k resp
  | none => s.dropLinkCmd c

/-- Response of TREE_RESUME: devices with WAKE_PENDING below the link, and the lowest. -/
def State.wakeBytes (s : State) (l : LinkSel) : List Byte :=
  let w := (s.devsBelow l).filter fun a => ((s.dev a).map (·.wake)).getD false
  leBytes 2 w.length ++ leBytes 2 (w.foldl min 0xFFFF)

/-- A GET_STATUS of R152 is still to be answered below the link. -/
def State.wakesPending (s : State) (l : LinkSel) : Bool :=
  let b := s.devsBelow l
  s.xfer.ctls.any fun c => c.use == SysUse.wake && c.result.isNone && b.contains c.addr

/-- One command on a link at a tick. (DEDUCED, log entry 88.) -/
def State.linkCmdTick (s : State) (c : LinkCmd) : State :=
  let root := c.link.hub = 0
  let st := s.linkState c.link.port
  if (s.findCmd c.cmd).isNone then s.dropLinkCmd c
  else if c.op = 0x0102 then
    (if c.stage = .done then s.endLinkCmd c []
     else if root ∧ c.stage = .asked ∧ st = 7 then (s.busReset c.link.port).setLinkCmd { c with stage := .wait }
     else s)
  else if c.op = 0x0103 then
    (if c.stage = .done then s.endLinkCmd c [] else if root ∧ st = 7 then s.pmAsk c.link.port 3 else s)
  else
    let waking := c.stage = .wakes ∨ (root ∧ c.stage = .wait ∧ st = 7)
    if waking ∧ ¬ s.wakesPending c.link then s.endLinkCmd c (s.wakeBytes c.link)
    else if waking then s.setLinkCmd { c with stage := .wakes }
    else s

/-- TREE_ENUMERATE completes once every attachment it waits for has ended. -/
def State.enumCmdTick (s : State) (c : EnumCmd) : State :=
  let drop := { s with tree := { s.tree with enumCmds := s.tree.enumCmds.filter fun x => x.cmd != c.cmd } }
  match s.findCmd c.cmd with
  | none => drop
  | some k =>
    if c.waits.isEmpty ∧ c.rescan.isEmpty then
      drop.okay k (leBytes 2 c.added ++ leBytes 2 c.refused ++ leBytes 4 (s.rd Reg.TRE_REFUSE).toNat)
    else s

def State.treeTick (s : State) : State :=
  let s1 := s.tree.linkCmds.foldl State.linkCmdTick s
  s1.tree.enumCmds.foldl State.enumCmdTick s1

/-! ### The tree commands (R158) -/

/-- One entry of TREE_GET_TOPOLOGY. -/
def topoEntry (x : Nat × Device) : List Byte :=
  let d := x.2
  leBytes 2 x.1 ++ leBytes 2 (if d.link.hub = 0 then 0xFFFF else d.link.hub) ++ leBytes 1 d.link.hport ++ leBytes 1 d.tier ++
    leBytes 1 (b2n d.isHub + 2 * b2n d.dual + 4 * b2n d.susp + 8 * b2n d.wake) ++ leBytes 1 d.cls

/-- R158: TREE_GET_TOPOLOGY. (DEDUCED, log entry 217.) -/
def execTreeGetTopology (id : Nat) (s : State) : Out :=
  .next (s.run id 0x0100 fun c =>
    let p := c.u 0 1
    let start := c.u 2 2
    s.judged c [(decide (p ≥ s.ports), ST.invalid, 0)]
      (let all := s.portDevices p
       let l := all.filter fun x => decide (start ≤ x.1)
       let next := ((l.drop 29).head?.map (·.1)).getD 0xFFFF
       s.okay c (leBytes 2 (min l.length 29) ++ leBytes 2 next ++ leBytes 2 all.length ++ zeros 2 ++
         ((l.take 29).map topoEntry).flatten)))

/-- R158: TREE_ENUMERATE. -/
def execTreeEnumerate (id : Nat) (s : State) : Out :=
  .next (s.run id 0x0101 fun c =>
    let p := c.u 0 1
    let on (q : Nat) : Bool := p == 0xFF || p == q
    s.judged c [(decide (p ≥ s.ports) && p != 0xFF, ST.invalid, 0), (s.bistHolds, ST.denied, 3)]
      (let hubs := if c.u 1 1 % 2 = 1 then s.devices.filter fun x => x.2.isHub && on x.2.link.port else []
       let ports (x : Nat × Device) : List Nat := (List.range x.2.ports).map fun q => x.1 * 16 + q + 1
       let reads := (hubs.map ports).flatten
       let served (l : LinkSel) : Bool := s.placedOn l || s.pair.foreign.contains l
       let waits := ((s.tree.enums.map (·.link)) ++ s.tree.waiting.map (·.1)).filter fun l => on l.port && !served l
       let e : EnumCmd := { cmd := id, waits := waits, rescan := reads, added := 0, refused := 0 }
       let s1 := s.goPending c s.frame
       let s2 := { s1 with tree := { s1.tree with enumCmds := s1.tree.enumCmds ++ [e] } }
       foldN (fun t x => t.readPort (x / 16) (x % 16) (.portStatus (x % 16))) s2 reads))

/-- Put a command on a link on the list. -/
def State.addLinkCmd (s : State) (id op : Nat) (l : LinkSel) (st : LinkCmdStage) : State :=
  let c : LinkCmd := { cmd := id, op := op, link := l, stage := st, takeFrame := s.frame, count := 0 }
  { s with tree := { s.tree with linkCmds := s.tree.linkCmds ++ [c] } }

/-- The link is no longer kept disabled. -/
def State.onLink (s : State) (l : LinkSel) : State :=
  { s with tree := { s.tree with offLinks := s.tree.offLinks.filter fun o => o.link != l } }

/-- R158: TREE_PORT_RESET. (DEDUCED, log entry 90.) -/
def execTreePortReset (id : Nat) (s : State) : Out :=
  .next (s.run id 0x0102 fun c =>
    let l := c.link 0 1 2
    let p := l.port
    s.judged c [(s.badLink l, ST.invalid, 0), (decide (l.hub = 0) && s.isDm p, ST.denied, 1),
        (decide (l.hub = 0) && s.bistHolds, ST.denied, 3)]
      (let off := s.isOff l
       let power := s.tree.offLinks.any fun o => o.link == l && o.power
       let s1 := (s.begin c).onLink l
       if l.hub = 0 then
         let s2 := if off then s1.putDisable p false else s1
         if s.linkState p = 9 ∨ s.linkState p = 10 then (s2.resumeLink p).addLinkCmd id 0x0102 l .asked
         else ((s2.busReset p).dropNow s).addLinkCmd id 0x0102 l .wait
       else
         let s2 := if power then s1.hubSet l.hub 0x21 3 l.hport .plain else s1
         (((s2.loseLink 2 l).dropNow s).hubSet l.hub 0x21 1 l.hport (.command id)).addLinkCmd id 0x0102 l .asked))

/-- R158: TREE_SUSPEND. -/
def execTreeSuspend (id : Nat) (s : State) : Out :=
  .next (s.run id 0x0103 fun c =>
    let l := c.link 0 1 2
    let up : Bool := if l.hub = 0 then s.linkState l.port == 7 else s.hubLinkUp l
    s.judged c [(s.badLink l, ST.invalid, 0), (!up, ST.denied, 1)]
      (if l.hub = 0 then ((s.begin c).pmAsk l.port 3).addLinkCmd id 0x0103 l .wait
       else ((s.begin c).hubSet l.hub 0x21 2 l.hport (.command id)).addLinkCmd id 0x0103 l .asked))

/-- R158: TREE_RESUME. (DEDUCED, log entry 89.) -/
def execTreeResume (id : Nat) (s : State) : Out :=
  .next (s.run id 0x0104 fun c =>
    let l := c.link 0 1 2
    s.judged c [(s.badLink l, ST.invalid, 0)]
      (if l.hub = 0 then ((s.begin c).resumeLink l.port).addLinkCmd id 0x0104 l .wait
       else ((s.begin c).hubSet l.hub 0x22 2 l.hport (.command id)).addLinkCmd id 0x0104 l .asked))

/-- Device mode starts on port `p` (R153): what was on the link goes, and the port waits for the far host as a UFP. -/
def State.dmStart (s : State) (p : Nat) (info : List Byte) : State :=
  if s.isDm p then { s with tree := { s.tree with dm := { s.tree.dm with info := info } } }
  else
    let s1 := (s.loseLink 2 (rootLink p)).enterDetect p
    let s2 := { s1 with tree := { s1.tree with dm := { DevMode.reset with port := p, on := true, info := info, buf := s.tree.dm.buf } } }
    ((s2.put Fd.TRE_DM_CTRL_PORT p).put Fd.TRE_DM_CTRL_ACTIVE 1).wr Reg.TRE_DM_STATUS 0

/-- Device mode ends; the link is reset. -/
def State.dmStop (s : State) (p : Nat) : State :=
  if s.isDm p then
    let s1 := { s with tree := { s.tree with dm := { s.tree.dm with on := false } } }
    ((s1.put Fd.TRE_DM_CTRL_ACTIVE 0).wr Reg.TRE_DM_STATUS 0).busReset p
  else s

/-- R158: TREE_DEVICE_MODE. -/
def execTreeDeviceMode (id : Nat) (s : State) : Out :=
  .next (s.run id 0x0105 fun c =>
    let p := c.u 0 1
    let en := c.u 1 1
    s.judged c [(decide (p ≥ s.ports) || decide (en > 1), ST.invalid, 0), (!(s.portDevices p).isEmpty, ST.denied, 1),
        (s.tree.dm.on && s.tree.dm.port != p, ST.denied, 2), (s.bistHolds, ST.denied, 3)]
      ((if en = 1 then s.dmStart p (slice c.req 2 11) else s.dmStop p).okay c []))

/-- The requests that only the H24 itself issues (R158): TYPE and REQUEST. -/
def ownRequest (w0 : Nat) : Bool :=
  let r := ((w0 / 2 ^ 21) % 4, (w0 / 2 ^ 8) % 256)
  r == (0, 0x05) || r == (0, 0x09) || r == (1, 0x23) || r == (1, 0x24)

/-- R158: TREE_CONTROL_XFER. (DEDUCED, log entry 91.) -/
def execTreeControlXfer (id : Nat) (s : State) : Out :=
  .next (s.run id 0x0106 fun c =>
    let a := c.u 0 2
    let w := [c.u 4 3, c.u 7 3, c.u 10 3]
    s.judged c [((s.dev a).isNone || decide (c.u 10 3 / 2 ^ 12 > 192), ST.invalid, 0), (ownRequest (c.u 4 3), ST.denied, 1)]
      (match s.dev a with
      | some d => (s.begin c).issueSys d.link.port a w (c.req.drop 16) (.command id)
      | none => s))

/-- R158: TREE_REMOVE_DEVICE. -/
def execTreeRemoveDevice (id : Nat) (s : State) : Out :=
  .next (s.run id 0x0107 fun c =>
    let a := c.u 0 2
    s.judged c [((s.dev a).isNone, ST.invalid, 0)]
      (match s.dev a with
      | some d =>
        let l := d.link
        let off : Bool := c.u 2 1 % 2 == 1
        let n := (s.devsBelow l).length
        let s1 := ((s.disableLink l off).loseLink 1 l).dropNow s
        let s2 := if ¬ off then s1
          else if l.hub = 0 then s1.powerOff l.port
          else s1.hubSet l.hub 0x22 3 l.hport .plain
        s2.okay c (leBytes 2 n ++ zeros 2)
      | none => s))

end Sys2Proof.Machine
end

