-- ==== Sys2Proof/Machine/Control.lean ====
section
/-! DEFINITION. The warm reset (R52), the scrubber (R25), the ends of commands that are not the opcode rows' own (R37 to R40), and
TIME_SET_FRAME_PERIOD (R88). -/

namespace Sys2Proof.Machine

/-- R30, R52: at its tick the warm reset that waits begins. -/
def execWarmReset (s : State) : Out :=
  match s.boot.warm with
  | some w => if since32 s.frame w.frame < 2 ^ 31 then .next (s.warmReset w.reason) else .next s
  | none => .next s

/-! ### The scrubber (R24, R25) -/

/-- Bytes of a protected memory (the table of on-chip memories). -/
def memBytes (mem : Nat) : Nat := match mem with
  | 0 => 2097152
  | 1 => 1572864
  | 2 => 524288
  | 3 => 524288
  | 4 => 524288
  | 5 => 16384
  | 6 => 65536
  | _ => 0

/-- The memory's domain is ON: the cluster's for 2 and 3, the pair's whose half holds the word for 4. -/
def State.memOn (s : State) (mem word : Nat) : Bool :=
  match mem with
  | 2 => s.get Fd.PDM_STATE_CLU == 3
  | 3 => s.get Fd.PDM_STATE_CLU == 3
  | 4 => s.get (if word * 3 < 0x40000 then Fd.PDM_STATE_PAIRA else Fd.PDM_STATE_PAIRB) ≥ 2
  | _ => true

/-- A map word marked uncorrectable makes its entry count as full (R194). -/
def State.mapWordBad (s : State) (mem word errs : Nat) : State :=
  if mem = 1 ∧ errs ≥ 2 ∧ ¬ s.alloc.full.contains (Config.mapOfWord word) then
    { s with alloc := { s.alloc with full := s.alloc.full ++ [Config.mapOfWord word] } }
  else s

/-- A word of Tarn marked uncorrectable fails the CRC that covers it: the save area's, and the wake then boots with the configuration store
(R377), or the wake-failure capture's (R380). -/
def State.tarnWordBad (s : State) (mem word errs : Nat) : State :=
  let a := word * 3
  if mem = 6 ∧ errs ≥ 2 then
    { s with pdm := { s.pdm with
        saved := if 0xC00 < a + 3 ∧ a < 0xBC0C then none else s.pdm.saved
        capture := if 0xBC0C < a + 3 ∧ a < 0xBC1C then none else s.pdm.capture } }
  else s

/-- R25: the scrubber reads word `word` of memory `mem` and finds `errs` bits in error. (DEDUCED, log entry 25.) -/
def execScrubberRead (mem word errs : Nat) (s : State) : Out :=
  if s.dieRuns ∧ word * 3 < memBytes mem ∧ s.memOn mem word then 
    .next ((((s.eccRead mem word errs).mapWordBad mem word errs).tarnWordBad mem word errs).clusterWordBad mem word errs)
  else .next s

/-! ### TIMEOUT (R37) -/

/-- What a command in progress gives up when it completes TIMEOUT: a slot of LINK_RECALIBRATE, the request of TREE_SUSPEND. -/
def State.giveUp (s : State) (c : Cmd) : State :=
  let s1 := { s with
    links := { s.links with recals := s.links.recals.filter fun r => r.cmd != c.id }
    tree := { s.tree with linkCmds := s.tree.linkCmds.filter fun l => l.cmd != c.id } }
  foldN (fun t p =>
    if s.tree.linkCmds.any fun l => l.cmd == c.id && l.op == 0x0103 && l.link.hub == 0 && l.link.port == p then
      t.editLp p fun l => { l with pmReq := 0 }
    else t.editPp p fun x => { x with cmds := x.cmds.filter (· != c.id) }) s1 s.portList

/-- R37, R40: a taken command has reached TIMEOUT frames: one whose work has not begun, LINK_RECALIBRATE on a root link (R116) and
TREE_SUSPEND (R158) complete TIMEOUT, and so does PWR_REQUEST_CONTRACT, whose final status it is (R333); any other is PENDING from now on. (DESIGN CHOICE, log entry 15.) -/
def execCommandTimeout (id : Nat) (s : State) : Out :=
  match s.findCmd id with
  | some c =>
    if ¬ s.fwServes ∨ (c.pend ∧ c.opcode ≠ 0x0502) ∨ since32 s.frame c.takeFrame < c.timeout then .next s
    else if ¬ c.begun ∨ c.opcode = 0x0108 ∨ c.opcode = 0x0103 ∨ c.opcode = 0x0502 then .next ((s.giveUp c).finish c ST.timeout 0 [])
    else .next (s.goPending c s.frame)
  | none => .next s

/-! ### PENDING (R39) -/

/-- The outcome of PENDING command `id`: what its host reads returned, or what the flash or the partner answered. Its reads are over. -/
def State.pendingOutcome (s : State) (id : Nat) (ok : Bool) (code : Nat) (data : List Byte) : State :=
  match s.findCmd id with
  | some c =>
    if ¬ (c.pend ∧ c.begun ∧ s.fwServes) then s
    else match c.opcode with
      | 0x0F01 => (s.fwReadsEnd id).outcomeFwStage c ok code data
      | 0x0F02 => s.outcomeFwLoad c ok
      | 0x0700 => (s.fwReadsEnd id).outcomeGraphLoad c ok data
      | 0x0805 => s.outcomeReplace c
      | 0x0A02 => s.outcomeCrnRead c ok
      | 0x0A04 => s.outcomeCrnClear ok
      | _ => s
  | none => if (s.cairn.clearing.map (·.cmd)) = some id then s.outcomeCrnClear ok else s

/-- R39: the outcome of a PENDING command that waits for a host, the flash or the partner. -/
def execPendingOutcome (id : Nat) (ok : Bool) (code : Nat) (data : List Byte) (s : State) : Out :=
  .next (s.pendingOutcome id ok code data)

/-! ### TIME_SET_FRAME_PERIOD (R78, R88) -/

/-- The change waits for its boundary, which FRAME_PERIOD_CHANGE reports; where TIMEOUT comes first the command goes PENDING. (DEDUCED, log entry 220.) -/
def execTimeSetFramePeriod (id : Nat) (s : State) : Out :=
  .next (s.run id 0x0402 fun c =>
    let code := c.u 0 1
    let strobe := c.u 2 2
    s.judged c [(decide (code > 3), ST.invalid, 0),
        (decide (strobe < 64 ∨ strobe > 2000 ∨ s.maxAcc + 16 * 64 > strobe * 64), ST.invalid, 2),
        (!s.alloc.grants.isEmpty && code != s.period, ST.denied, 1)]
      (let w : PeriodChange := { cmd := id, code := code, strobe := strobe, target := s.frame }
       (s.setTime { s.time with period := some w }).begin c))

end Sys2Proof.Machine
end

