-- ==== Sys2Proof/Machine/DevMode.lean ====
section
/-! DEFINITION. Device mode of one root port (05_tsucel_tree.md, R153 to R157; rows DM_SOF to DM_STROBE_LATCH_READ and
DM_HANDSHAKE). Packets and tokens come from the far host; answers are kept in `answers` for the frame. -/

namespace Sys2Proof.Machine

def State.dm (s : State) : DevMode := s.tree.dm
def State.editDm (s : State) (f : DevMode → DevMode) : State := { s with tree := { s.tree with dm := f s.tree.dm } }

/-- `n` line words arrive at the port in device mode, `fails` of them failing R93 (R95, R96). -/
def State.dmWords (s : State) (n : Nat) (fails : Nat := 0) : State := if s.dm.on then s.rxWords s.dm.port n fails else s

/-! ### The frame of the far host (R77, R100, R153) -/

/-- The port's link reaches L0 with the first SOF (R101): for a UFP nothing is enumerated below it. -/
def State.dmL0 (s : State) (p : Nat) : State :=
  if (s.lp p).kind = .recovery then s.enterL0 p
  else
    ((s.setLink p 7).editLp p fun x => { x with
      l0Next := false, fails := 0, failSaid := false, waitUntil := none, kind := .full, dlyBase := s.frame, rxBase := s.frame }).linkEvent p Fd.LNK_EVENT_UP

/-- Core cycles of the far host's frame, on the nominal core clock. -/
def frameCyc (code : Nat) : Nat := 50000 * 2 ^ code

/-- FRAME_SEQ of the far host's frame that runs now: frames without an SOF are counted by their length (R100). -/
def State.dmSeq (s : State) : Option Nat :=
  s.dm.lastSof.map fun q => (q + (s.time.cyc - s.dm.sofCyc) / frameCyc s.dm.period) % 2 ^ 24

/-- The port answers SOF word 0 with UMARK in the next word time, which loads its scrambler for the one after it, counted from that word 0;
SOF word 15 loads its descrambler. Both happen whatever SOF_CHECK says (R95, R97). -/
def State.dmMark (s : State) (bodies : List Nat) : State :=
  let p := s.dm.port
  let seq := bodies.getD 0 0 % 2 ^ 12 * 2 ^ 12 + bodies.getD 1 0 % 2 ^ 12
  let s1 := if bodies ≠ [] ∧ bodies.getD 0 0 / 2 ^ 12 = 0 then
      (s.say p 0x1B (seq % 2 ^ 16)).editLp p fun l => { l with scr := 0xFFFFFF, scrAt := 2 } else s
  if bodies.length = 16 ∧ bodies.getD 15 0 / 2 ^ 12 = 15 then
    s1.editLp p fun l => { l with descr := 0xFFFFFF, descrOn := true, mism := 0 } else s1

/-- R100, R77: the words of an SOF arrive, word 0 `dt` core cycles on. An accepted one brings the link to L0 and fixes the strobe, STROBE_OFFSET
less ACC_DELAY after word 0 on the clock that the port has recovered. (DEDUCED, log entry 81.) -/
def execDmSof (dt : Nat) (bodies : List Nat) (s : State) : Out :=
  let s0 := (s.advance dt).dmWords bodies.length
  let p := s0.dm.port
  let st := s0.linkState p
  if ¬ s0.dm.on then .next s0
  else match sofContent bodies with
    | some c =>
      let s1 := if st = 5 ∨ st = 6 ∨ (st = 8 ∧ (s0.lp p).l0Next) then s0.dmL0 p else s0
      let acc : Nat := c.getD 2 0 * 16 + c.getD 3 0 / 2 ^ 8
      let at_ : Nat := s1.time.cyc + (c.getD 4 0 * 64 - acc) * 5 / 64
      let seq := c.getD 0 0 * 2 ^ 12 + c.getD 1 0
      let s2 := s1.dmMark bodies
      .next (s2.editDm fun d =>
        { d with lastSof := some seq, strobeAt := some at_, sofCyc := s2.time.cyc, period := c.getD 3 0 / 64 % 4, answers := [] })
    | none => .next (s0.dmMark bodies)

/-- The port takes a sample now: its frame, and whether it was flywheeled; SYSTIME is captured (R100, R153). -/
def State.dmTake (s : State) (fly : Bool) (seq : Nat) : State :=
  s.editDm fun x => { x with
    samples := (seq, fly) :: x.samples.take 1, strobeAt := none, lastStrobe := some s.time.cyc, sec := s.nowSec, ns := s.nowNs }

/-- R77, R100, R153: the strobe of the frame: at the instant that the frame's SOF fixed, t_a − ACC_DELAY + STROBE_OFFSET, or, without an SOF
in the frame, L wt after the last strobe, where the port flywheels and tags the sample with the next FRAME_SEQ. A port that has lost word
lock takes none until it accepts an SOF; `dt` core cycles pass there. (DEDUCED, log entry 240.) -/
def execDmStrobe (dt : Nat) (s : State) : Out :=
  let d := s.dm
  .next (if ¬ d.on ∨ ¬ (s.lp d.port).wordLock then s.advance dt
  else match d.lastSof, d.strobeAt with
    | some q, some t => (s.advance (t - s.time.cyc)).dmTake false q
    | some q, none =>
      match d.lastStrobe with
      | some t =>
        let s0 := s.advance (t + frameCyc d.period - s.time.cyc)
        let n := (q + 1) % 2 ^ 24
        (s0.editDm fun x => { x with lastSof := some n, sofCyc := x.sofCyc + frameCyc x.period }).dmTake true n
      | none => s.advance dt
    | none, _ => s.advance dt)

/-- R156: a read of TRE_DM_STROBE_SEC latches TRE_DM_STROBE_NS. -/
def execDmStrobeLatchRead (port : Side) (s : State) : Out :=
  .next (s.hostReadVia port .manager ((s.put Fd.TRE_DM_STROBE_NS_NS s.dm.ns).answer s.dm.sec))

/-! ### Endpoints (R153, R154, R157) -/

/-- EP0 is there whatever its VALID bit says (DESIGN CHOICE, log entry 267). -/
def State.dmValid (s : State) (n : Nat) : Bool := n == 0 || s.on (Fd.TRE_DM_EP_CFG_VALID n)
def State.dmIn (s : State) (n : Nat) : Bool := s.on (Fd.TRE_DM_EP_CFG_DIR n)
def State.dmSampled (s : State) (n : Nat) : Bool := n != 0 && s.get (Fd.TRE_DM_EP_CFG_TYPE n) == 1
def State.dmMax (s : State) (n : Nat) : Nat := if n = 0 then 64 else s.get (Fd.TRE_DM_EP_CFG_MAX_WORDS n)
def State.dmFull (s : State) (n : Nat) : Bool := s.on (Fd.TRE_DM_EP_STAT_FULL n)
def State.dmHalt (s : State) (n : Nat) : Bool := s.on (Fd.TRE_DM_EP_STAT_HALT n)
def State.dmTog (s : State) (n : Nat) : Nat := s.get (Fd.TRE_DM_EP_STAT_TOGGLE n)
def State.dmFlip (s : State) (n : Nat) : State := s.put (Fd.TRE_DM_EP_STAT_TOGGLE n) (1 - s.dmTog n)
def State.dmAddr (s : State) : Nat := s.get Fd.TRE_DM_STATUS_ADDRESS

/-- Configurations n ≥ 1 that are VALID, ascending. -/
def State.dmEps (s : State) : List Nat := (List.range 16).filter fun n => n != 0 && s.dmValid n

/-- A change of FULL by the port raises DM_XFER (R154). -/
def State.dmSetFull (s : State) (n : Nat) (v : Bool) : State :=
  if s.dmFull n = v then s
  else ((s.put (Fd.TRE_DM_EP_STAT_FULL n) (b2n v)).editDm fun d => { d with armed := d.armed && n != 0 }).setEvent 16 Fd.TRE_EVENT_DM_XFER

/-- Words of the buffer of endpoint `n`: BASE counts 64-byte units of one word per 4 bytes. -/
def State.dmRead (s : State) (n k : Nat) : List Nat :=
  (List.range k).map fun j => (SMap.get (fun _ => (0 : Word)) s.dm.buf (s.get (Fd.TRE_DM_EP_CFG_BASE n) * 16 + j)).toNat % 2 ^ 24

def State.dmWrite (s : State) (n : Nat) (ws : List Nat) : State :=
  let b := s.get (Fd.TRE_DM_EP_CFG_BASE n) * 16
  let put (m : SMap Word) (x : Nat × Nat) : SMap Word := SMap.put (fun _ => (0 : Word)) (b + x.1) (BitVec.ofNat 32 x.2) m
  s.editDm fun d => { d with buf := ((List.range ws.length).zip ws).foldl put d.buf }

/-- Send a handshake with CODE, EP, ADDR_LO and REASON (R122), or a packet. -/
def State.dmHsk (s : State) (n code reason : Nat) : State :=
  let body := code * 2 ^ 13 + n * 2 ^ 9 + s.dmAddr % 32 * 16 + reason
  s.editDm fun d => { d with answers := d.answers ++ [{ ep := n, hsk := some (code, reason), sop := body, words := [] }] }

def State.dmSend (s : State) (n pid xtra : Nat) (stamp : List Nat) (ws : List Nat) : State :=
  let sop := sopBody pid xtra ws.length
  let body := stamp ++ ws
  s.editDm fun d => { d with
    answers := d.answers ++ [{ ep := n, hsk := none, sop := sop, words := body ++ [packetCheck s.dmAddr n sop body] }] }

/-! ### Standard requests (R145, R153) -/

/-- The DEVICE descriptor. -/
def State.dmDevice (s : State) : List Byte :=
  let i := s.dm.info
  leBytes 1 1 ++ leBytes 1 (4 + 8 * (leAt i 10 1 % 2)) ++ slice i 2 6 ++ slice i 0 2 ++ leBytes 1 s.dmEps.length ++ zeros 1 ++
    slice i 8 2 ++ zeros 2 ++ leBytes 8 Config.uid ++ zeros 8

/-- The ENDPOINTS descriptor. -/
def State.dmEndpoints (s : State) : List Byte :=
  let one (n : Nat) : List Byte :=
    let sm := s.dmSampled n
    leBytes 1 (b2n (s.dmIn n) * 0x80 + n) ++ leBytes 1 (if sm then 1 else 3) ++ leBytes 2 (s.dmMax n) ++
      leBytes 1 (if sm then s.get (Fd.TRE_DM_EP_CFG_MIN_K n) else 0) ++ zeros 1 ++
      leBytes 1 (if sm then s.get (Fd.TRE_DM_EP_CFG_FORMAT n) else 1) ++ zeros 1
  (s.dmEps.map one).flatten

/-- An EP byte names an endpoint of the device. -/
def State.dmNames (s : State) (b : Nat) : Bool :=
  (b / 16) % 8 == 0 && decide (b < 256) && (b % 16 == 0 || (s.dmValid (b % 16) && s.dmIn (b % 16) == bitAt b 7))

/-- The answer data of a standard request; `none` where it is not supported: its DIR, RCPT, VALUE, INDEX and LENGTH must be those of R145's
table (R131, R145; DEDUCED, log entry 241). -/
def State.dmRequest (s : State) (w : List Nat) : Option (List Byte) :=
  let w0 := w.getD 0 0
  let dirIn := bitAt w0 23
  let rcpt := (w0 / 2 ^ 19) % 4
  let value := w.getD 1 0 % 2 ^ 16
  let index := w.getD 2 0 % 2 ^ 12
  let len := w.getD 2 0 / 2 ^ 12
  let put (ok : Bool) : Option (List Byte) := if ok ∧ ¬ dirIn ∧ len = 0 then some [] else none
  let give (ok : Bool) (b : List Byte) : Option (List Byte) := if ok ∧ dirIn ∧ rcpt = 0 ∧ index = 0 ∧ len ≤ b.length then some b else none
  let feature := (value == 1 && rcpt == 0 && index == 0) || (value == 0 && rcpt == 1 && s.dmNames index)
  match (w0 / 2 ^ 8) % 256 with
  | 0x00 =>
    let halt := decide (rcpt = 1) && s.dmHalt (index % 16)
    if dirIn ∧ value = 0 ∧ len = 3 ∧ ((rcpt = 0 ∧ index = 0) ∨ (rcpt = 1 ∧ s.dmNames index)) then
      some (leBytes 3 (leAt s.dm.info 10 1 % 2 + 2 * s.get Fd.TRE_DM_STATUS_REMOTE_WAKE_EN + 4 * b2n s.dm.wake + 8 * b2n halt))
    else none
  | 0x01 => put feature
  | 0x03 => put feature
  | 0x05 => put (decide (1 ≤ value ∧ value ≤ 8191 ∧ rcpt = 0 ∧ index = 0))
  | 0x06 => if value = 1 then give true s.dmDevice else if value = 2 then give true s.dmEndpoints else none
  | 0x08 => give (value == 0 && len == 1) (leBytes 1 (s.get Fd.TRE_DM_STATUS_CONFIGURED))
  | 0x09 => put (decide (value ≤ 1 ∧ rcpt = 0 ∧ index = 0))
  | 0x0A => put (s.dmNames index && value == 0 && rcpt == 1)
  | 0x0B => put (decide (index ≤ 3 ∧ rcpt = 0) && (decide (value ≤ 254) || value == 0xFFFF))
  | _ => none

/-- Every toggle to DATA0. -/
def State.dmToggles (s : State) : State := foldN (fun t n => t.put (Fd.TRE_DM_EP_STAT_TOGGLE n) 0) s (List.range 16)

/-- The request takes effect as its status stage is sent (R134, R145). -/
def State.dmApply (s : State) : State :=
  let w := s.dm.setup
  let value := w.getD 1 0 % 2 ^ 16
  let index := w.getD 2 0 % 2 ^ 12
  let n := index % 16
  match (w.getD 0 0 / 2 ^ 8) % 256 with
  | 0x00 => if bitAt (leAt s.dm.reply 0 3) 2 then s.editDm fun d => { d with wake := false } else s
  | 0x01 =>
    if value = 1 then s.put Fd.TRE_DM_STATUS_REMOTE_WAKE_EN 0
    else (s.put (Fd.TRE_DM_EP_STAT_HALT n) 0).put (Fd.TRE_DM_EP_STAT_TOGGLE n) 0
  | 0x03 => if value = 1 then s.put Fd.TRE_DM_STATUS_REMOTE_WAKE_EN 1 else s.put (Fd.TRE_DM_EP_STAT_HALT n) 1
  | 0x05 => s.editDm fun d => { d with addrNext := some value }
  | 0x09 => (s.put Fd.TRE_DM_STATUS_CONFIGURED value).dmToggles
  | 0x0A => s.put (Fd.TRE_DM_EP_STAT_TOGGLE n) 0
  | 0x0B =>
    let one := if value = 0xFFFF then [] else [(index, value)]
    s.editDm fun d => { d with groups := (d.groups.filter fun g => g.1 != index) ++ one }
  | _ => s

/-! ### Tokens and packets (R118, R130, R131, R133, R153, R154) -/

/-- A token that the port answers: its own address, an endpoint in the token's direction (R118). HIST is not supported. -/
def State.dmTakes (s : State) (kind target ep : Nat) : Bool :=
  s.dm.on && s.linkState s.dm.port == 7 && target == s.dmAddr && s.dmValid ep &&
  (match kind with
    | 1 => ep == 0 || s.dmIn ep
    | 2 => ep == 0 || !s.dmIn ep
    | 3 => ep == 0
    | _ => false)

/-- EP0's next IN packet for a standard request: data, the zero-length status packet, or STALL. (DEDUCED, log entry 97.) -/
def State.dmStdIn (s : State) : State :=
  let d := s.dm
  if d.refused then s.dmHsk 0 2 1
  else if d.stage = CtlStage.data ∧ bitAt (d.setup.getD 0 0) 23 then
    let b := (d.reply.drop d.moved).take 192
    let (ws, pad) := wordsOfBytes b
    (s.dmSend 0 (1 + s.dmTog 0) pad [] ws).editDm fun x => { x with await := some 0, sentLen := b.length }
  else if d.stage = CtlStage.status ∧ (¬ bitAt (d.setup.getD 0 0) 23 ∨ d.setup.getD 2 0 / 2 ^ 12 = 0) then
    ((s.dmApply.put (Fd.TRE_DM_EP_STAT_TOGGLE 0) 1).dmSend 0 2 0 [] []).editDm fun x => { x with await := some 0, sentLen := 0 }
  else s.dmHsk 0 1 0

/-- The PID of the next packet of endpoint `n` (R133). -/
def State.dmPid (s : State) (n : Nat) : Nat := 1 + s.dmTog n

/-- The status packet of a class or vendor request comes from the far host: DATA1 (R131). -/
def DevMode.statusOut (d : DevMode) : Bool := d.setup == [] && d.clsIn && decide (d.clsLen ≠ 0 ∧ d.stage ≠ CtlStage.setup)

/-- The PID that an OUT packet of endpoint `n` must have to be the next one (R131, R133). -/
def State.dmNextPid (s : State) (n : Nat) : Nat := if n = 0 ∧ s.dm.statusOut then 2 else s.dmPid n

/-- Words that TX_LEN has sent: at most MAX_WORDS (R157; DESIGN CHOICE, log entry 268). -/
def State.dmTxLen (s : State) (n : Nat) : Nat := min (s.get (Fd.TRE_DM_EP_STAT_TX_LEN n)) (s.dmMax n)

/-- A data packet of `ws` words and PAD of a class or vendor request is through: its stage ends after LENGTH bytes or at a short
packet (R131). The status packet ends the request. -/
def State.dmMoved (s : State) (n ws pad : Nat) : State :=
  if n ≠ 0 then s
  else if s.dm.stage = CtlStage.data then
    let m := s.dm.moved + 3 * ws - pad
    let past := decide (ws < 64 ∨ pad ≠ 0 ∨ m ≥ s.dm.clsLen)
    s.editDm fun d => { d with moved := m, stage := if past then .status else .data }
  else s.editDm fun d => { d with stage := .setup }

/-- The sample that an IN token of the current frame asks for, that of the strobe before it: its FRAME_SEQ and FLY (R129). -/
def State.dmSample (s : State) : Option (Nat × Bool) :=
  s.dmSeq.bind fun q => s.dm.samples.find? fun x => x.1 == (q + 2 ^ 24 - 1) % 2 ^ 24

/-- The answer to an IN token from the buffer of endpoint `n` (R154); a sampled endpoint that took no sample in the frame before has none
(R129). The status packet of a request is DATA1 (R131). -/
def State.dmBufIn (s : State) (n : Nat) : State :=
  let sm := s.dmSampled n
  if s.dmHalt n then s.dmHsk n 2 0
  else if sm ∧ s.dmSample.isNone then s.dmHsk n 1 1
  else if s.dmFull n ∧ (n ≠ 0 ∨ s.dm.armed) then
    let ws := s.dmRead n (s.dmTxLen n)
    if sm then
      let x := s.dmSample.getD (0, false)
      (s.dmSend n 1 (2 * b2n x.2) [x.1] ws).dmSetFull n false
    else
      let t := if n = 0 ∧ s.dm.stage = CtlStage.status then s.put (Fd.TRE_DM_EP_STAT_TOGGLE 0) 1 else s
      (t.dmSend n (t.dmPid n) (s.get (Fd.TRE_DM_EP_STAT_TX_PAD n)) [] ws).editDm fun x => { x with await := some n }
  else s.dmHsk n 1 (b2n sm)

/-- R118, R154: a token with TARGET `target` and endpoint `ep` arrives. One that the port ignores leaves an ACK it awaits awaited; the packet
that follows it is discarded. Standard requests are answered in hardware, whatever HALT of EP0 says (R153). -/
def execDmToken (kind target ep : Nat) (s : State) : Out :=
  let s0 := s.dmWords 2
  let s1 := s0.editDm fun d => { d with token := none, await := none }
  .next (if s.dmTakes kind target ep then
    (if kind = 1 then (if ep = 0 ∧ s.dm.setup ≠ [] then s1.dmStdIn else s1.dmBufIn ep)
     else s1.editDm fun d => { d with token := some (kind, ep) })
  else s0.editDm fun d => { d with token := none })

/-- A packet is damaged (R121). -/
def State.dmDamaged (s : State) (ep sop : Nat) (words : List Nat) (stamped bad ended abort : Bool) : Bool :=
  bad || !ended || abort || words.length != sop % 1024 + b2n stamped + 1 ||
    words.getLast? != some (packetCheck s.dmAddr ep sop words.dropLast)

/-- R131, R153: the packet of a SETUP token. Standard requests are answered by the port; class and vendor ones go to the EP0
buffer. A new setup abandons what was in progress on EP0. -/
def execDmSetup (sop : Nat) (words : List Nat) (bad ended abort : Bool) (s : State) : Out :=
  let s0 := s.dmWords (words.length + 1 + b2n ended) (b2n bad)
  let s1 := s0.editDm fun d => { d with token := none }
  .next (if s.dm.token ≠ some (3, 0) then s0
  else if s.dmDamaged 0 sop words false bad ended abort ∨ sop ≠ sopBody 1 0 3 then s1.dmHsk 0 3 1
  else
    let w := words.dropLast
    let len := w.getD 2 0 / 2 ^ 12
    let s2 := (s1.dmHsk 0 0 0).put (Fd.TRE_DM_EP_STAT_TOGGLE 0) 1
    let first := if len ≠ 0 then CtlStage.data else .status
    let go (setup : List Nat) (no : Bool) (reply : List Byte) : State := s2.editDm fun d =>
      { d with setup := setup, refused := no, stage := first, reply := reply, moved := 0, sentLen := 0, addrNext := none, armed := false, clsLen := len, clsIn := bitAt (w.getD 0 0) 23 }
    match (w.getD 0 0 / 2 ^ 21) % 4 with
    | 0 =>
      let s3 := match s.dmRequest w with
        | some b => go w false (b.take len)
        | none => go w true []
      s3.dmSetFull 0 false
    | 3 => (go w true []).dmSetFull 0 false
    | _ =>
      let s3 := (go [] false []).dmWrite 0 w
      ((s3.put (Fd.TRE_DM_EP_STAT_RX_LEN 0) 3).put (Fd.TRE_DM_EP_STAT_RX_PAD 0) 0).dmSetFull 0 true)

/-- R133, R154: the packet of an OUT token. A sampled endpoint never answers (R130). R119 reserves PIDs and PAD 3 and gives a receiver no rule
for them: an undamaged packet with one has another toggle than the endpoint's, and is acknowledged and discarded as a repeat (DESIGN
CHOICE, log entry 242). -/
def execDmPacket (sop : Nat) (words : List Nat) (bad ended abort : Bool) (s : State) : Out :=
  let s1 := (s.dmWords (words.length + 1 + b2n ended) (b2n bad)).editDm fun d => { d with token := none }
  let d := s.dm
  .next (match d.token with
  | some (2, n) =>
    let sm := s.dmSampled n
    let hsk (t : State) (c r : Nat) : State := if sm then t else t.dmHsk n c r
    let len := sop % 1024
    let pid : Nat := sop / 2 ^ 12
    if s.dmDamaged n sop words sm bad ended abort then hsk s1 3 1
    else if n = 0 ∧ d.setup ≠ [] then
      (if d.refused then s1.dmHsk 0 2 1
       else if pid ≠ 2 then s1.dmHsk 0 0 0
       else if bitAt (d.setup.getD 0 0) 23 ∧ len = 0 then
         ((s1.dmApply.dmHsk 0 0 0).put (Fd.TRE_DM_EP_STAT_TOGGLE 0) 0).editDm fun x => { x with setup := [], stage := .setup }
       else s1.dmHsk 0 1 0)
    else if s.dmHalt n then hsk s1 2 0
    else if len > s.dmMax n then hsk s1 3 3
    else if ¬ sm ∧ (pid ≠ s.dmNextPid n ∨ (sop / 2 ^ 10) % 4 = 3) then s1.dmHsk n 0 0
    else if s.dmFull n then hsk s1 1 0
    else
      let body := if sm then words.dropLast.drop 1 else words.dropLast
      let s2 := ((s1.dmWrite n body).put (Fd.TRE_DM_EP_STAT_RX_LEN n) len).put (Fd.TRE_DM_EP_STAT_RX_PAD n)
        (if sm then 0 else (sop / 2 ^ 10) % 4)
      let s3 := s2.dmSetFull n true
      let flip := if n = 0 ∧ d.statusOut then s3.put (Fd.TRE_DM_EP_STAT_TOGGLE 0) 0 else s3.dmFlip n
      if sm then s3 else (flip.dmHsk n 0 0).dmMoved n len ((sop / 2 ^ 10) % 4)
  | _ => s1)

/-- R133, R154: the downstream ACK. A device ignores one of another code or address (R122). -/
def execDmHandshake (code addr : Nat) (s : State) : Out :=
  let s0 := s.dmWords 1
  let s1 := s0.editDm fun d => { d with await := none }
  .next (if ¬ s.dm.on ∨ code ≠ 0 ∨ addr ≠ s.dmAddr then s0
  else match s.dm.await with
    | none => s0
    | some 0 =>
      let d := s.dm
      if d.setup = [] then
        ((s1.dmFlip 0).dmSetFull 0 false).dmMoved 0 (s.dmTxLen 0) (s.get (Fd.TRE_DM_EP_STAT_TX_PAD 0))
      else if d.stage = CtlStage.status then
        let s2 := match d.addrNext with
          | some a => s1.put Fd.TRE_DM_STATUS_ADDRESS a
          | none => s1
        (s2.dmFlip 0).editDm fun x => { x with setup := [], stage := .setup, addrNext := none }
      else
        let m := d.moved + d.sentLen
        let past := d.sentLen < 192 ∨ m ≥ d.setup.getD 2 0 / 2 ^ 12
        (s1.dmFlip 0).editDm fun x => { x with moved := m, stage := if past then .status else .data }
    | some n => (s1.dmFlip n).dmSetFull n false)

/-- R155, R148: a bus reset. (DEDUCED, log entry 96.) -/
def execDmBusReset (s : State) : Out :=
  let p := s.dm.port
  .next (if ¬ s.dm.on then s
  else
    let s1 := s.editDm fun d => { d with
      setup := [], refused := false, stage := .setup, reply := [], moved := 0, sentLen := 0, addrNext := none, armed := false
      token := none, await := none, groups := [], lastSof := none, strobeAt := none, lastStrobe := none, samples := [] }
    let s2 := foldN (fun t n => t.dmSetFull n false) s1.dmToggles (List.range 16)
    let s3 := (s2.put Fd.TRE_DM_STATUS_ADDRESS 0).put Fd.TRE_DM_STATUS_CONFIGURED 0
    (s3.enterDetect p).setEvent 16 Fd.TRE_EVENT_DM_RESET)

/-! ### Register writes (R156, R157) -/

/-- A write to TRE_DM_EP_STATn (R157): its RW fields, and ARM, which sets FULL on IN and clears it on OUT. (DEDUCED, log entry 98.) -/
def State.dmStatWrite (s : State) (n val : Nat) : State :=
  if n < 16 ∧ writable (Reg.TRE_DM_EP_STAT n) val then
    let s1 := s.hostStore (Reg.TRE_DM_EP_STAT n) val
    if bitAt val 31 then
      (s1.put (Fd.TRE_DM_EP_STAT_FULL n) (b2n (s.dmIn n))).editDm fun d => { d with armed := if n = 0 then s.dmIn 0 else d.armed }
    else s1
  else s

def execDmArmWrite (port : Side) (n val : Nat) (s : State) : Out := .next (s.hostWriteVia port .manager (s.dmStatWrite n val))

/-- A write to TRE_DM_CTRL (R156, R151): CONNECT, and REMOTE_WAKE, which sends a beacon if the link has been in L2 for 16 frames and
the far host enabled wake; sooner than those frames, the port is ready to signal one (R152). -/
def State.dmCtrlWrite (s : State) (val : Nat) : State :=
  if writable Reg.TRE_DM_CTRL val then
    let s1 := s.hostStore Reg.TRE_DM_CTRL val
    let p := s.dm.port
    if bitAt val 2 ∧ s.dm.on ∧ s.linkState p = 10 ∧ s.on Fd.TRE_DM_STATUS_REMOTE_WAKE_EN then
      s1.editDm fun d =>
        if since32 s.frame (s.lp p).lowFrame ≥ 16 then { d with beacons := d.beacons + 1, signalled := true } else { d with ready := true }
    else s1
  else s

def execDmRemoteWakeWrite (port : Side) (val : Nat) (s : State) : Out := .next (s.hostWriteVia port .manager (s.dmCtrlWrite val))

end Sys2Proof.Machine
end

