-- ==== Sys2Proof/Machine/HostAccess.lean ====
section
/-! DEFINITION. Host reads and writes of BAR0, BAR2 and the MSI-X tables (00_scope.md, R1, R7 to R10; 01_architecture.md, R26 to R31;
02_mailbox_and_firmware.md, R32 to R35; 10_instances.md, R278; 11_event_queues.md, R306 to R308). -/

namespace Sys2Proof.Machine

/-! ### Where an access lands -/

/-- What stands at an offset: a register of the register file, mailbox memory (mailbox, offset), TRE_DM_BUF, a source's CFG or STAT
(`own`: the access may write OWNER), or nothing. -/
inductive Place where
  | word (a : Nat)
  | slot (m off : Nat)
  | buf (i : Nat)
  | srcCfg (n : Nat)
  | srcStat (n : Nat) (own : Bool)
  | none
  deriving DecidableEq, Repr

/-- BAR0 (R28, R1). -/
def State.placeBar0 (s : State) (off : Nat) : Place :=
  if 0x10000 ≤ off ∧ off < 0x10800 then .slot 0 (off - 0x10000)
  else if 0x48000 ≤ off ∧ off < 0x4C000 then .buf ((off - 0x48000) / 4)
  else if 0xA1000 ≤ off ∧ off < 0xA2000 then .srcCfg ((off - 0xA1000) / 4)
  else if 0xA2000 ≤ off ∧ off < 0xA3000 then .srcStat ((off - 0xA2000) / 4) true
  else if 0x30000 + s.ports * 0x1000 ≤ off ∧ off < 0x40000 then .none
  else .word off

/-- The source that a page's EVQ_SRC_SEL names, if the instance owns it (R308). -/
def State.pageSrc (s : State) (i : Nat) : Nat := (s.srcVia (.page i) 0).getD 0x3FF

/-- The page of instance `i` (R278, R308). -/
def State.placePage (s : State) (i o : Nat) : Place :=
  let here := Place.word (0x100000 + i * 0x10000 + o)
  if o < 0x800 then (if i = 0 then .none else .slot i o)
  else if o < 0x814 then (if i = 0 then .none else here)
  else if 0x1000 ≤ o ∧ o < 0x101C then here
  else if 0x2000 ≤ o ∧ o < 0x2800 ∧ o % 0x40 < 0x28 then
    (match (s.instOf i).dma[(o - 0x2000) / 0x40]? with
      | some n => .word (0x71000 + n * 0x40 + o % 0x40)
      | none => .none)
  else if 0x3000 ≤ o ∧ o < 0x3400 ∧ o % 0x40 < 0x24 then
    (match s.localQueue i ((o - 0x3000) / 0x40) with
      | some Q => .word (0xA8000 + Q * 0x40 + o % 0x40)
      | none => .none)
  else if o = 0x3804 then .srcCfg (s.pageSrc i)
  else if o = 0x3808 then .srcStat (s.pageSrc i) false
  else if o = 0x3800 ∨ o = 0x380C then here
  else .none

/-- The window and the place of an access to BAR0 or BAR2; `none` outside both (R28, R29). -/
def State.place (s : State) (space : Space) (off : Nat) : Option (Via × Place) :=
  match space with
  | .bar0 => if off < 0x100000 then some (.manager, s.placeBar0 off) else none
  | .bar2 => if off < 0x400000 then some (.page (off / 0x10000), s.placePage (off / 0x10000) (off % 0x10000)) else none
  | .msix => none
  | .aer => none

/-! ### Values read -/

/-- EVQ_GROUP_PEND: groups of the half from `g0` with a source PENDING, OFFERED or IN_SERVICE (R291). -/
def State.groupPend (s : State) (g0 : Nat) : Nat :=
  (List.range 32).foldl (fun v g =>
    v + 2 ^ g * b2n (s.evq.srcs.any fun x => x.1 / 16 == g0 + g && x.2.st != .inactive)) 0

/-- CRN_STATUS (R397). -/
def State.crnStatus (s : State) : Nat :=
  let c := s.cairn
  b2n c.media * 2 ^ 31 + b2n c.frozenAt.isSome * 2 ^ 30 + b2n c.clearing.isSome * 2 ^ 29 + b2n c.wrapped * 2 ^ 28 + c.next % 2 ^ 13

/-- Registers whose value stands elsewhere in the state than in the register file. -/
def State.live (s : State) (a : Nat) : Option Nat :=
  if a = Reg.GLB_UID_LO then some (Config.uid % 2 ^ 32)
  else if a = Reg.GLB_UID_HI then some (Config.uid / 2 ^ 32 % 2 ^ 32)
  else if a = Reg.TIM_UNCERT then some s.uncert
  else if a = Reg.PPW_STATUS ∧ ¬ s.on Fd.PPW_STATUS_DBEN then
    some ((s.rd Reg.PPW_STATUS).toNat + b2n (Config.dbenHigh s.time.cyc) * 2 ^ 25)
  else if a = Reg.EVQ_STATUS then some ((s.evq.srcs.filter fun x => x.2.quar).length * 2 ^ 16)
  else if a = Reg.EVQ_GROUP_PEND_LO then some (s.groupPend 0)
  else if a = Reg.EVQ_GROUP_PEND_HI then some (s.groupPend 32)
  else if a = Reg.PPW_EVENT then some (s.levelArg 21)
  else if a = Reg.CRN_STATUS then some s.crnStatus
  else if a = Reg.CRN_LAST_SEQ then some (s.cairn.lastSeq % 2 ^ 32)
  else if a = Reg.CRN_POWER_CYCLES then some (s.cairn.powerCycles % 2 ^ 32)
  else if a = Reg.CRN_OP_SEC then some (s.opSecTick.cairn.opSec % 2 ^ 32)
  else if a = Reg.CRN_HOLD then some (s.get Fd.CRN_HOLD_OVERFLOW * 2 ^ 16 + s.cairn.hold.length)
  else if 0x100000 ≤ a ∧ a % 0x10000 = 0x1018 then some s.frame
  else none

/-- EVQ_SRCs_CFG (R306). -/
def State.srcCfgWord (s : State) (n : Nat) : Nat :=
  if srcExists n then
    let x := s.src n
    b2n x.mask * 2 ^ 31 + b2n (s.needsClaim n) * 2 ^ 30 + b2n (srcLevel n) * 2 ^ 29 + b2n (srcOr n) * 2 ^ 28 + x.holdoff % 16 * 2 ^ 24 +
      x.prio % 8 * 2 ^ 20 + x.targets % 2 ^ 16
  else 0

/-- EVQ_SRCs_STAT (R306). -/
def State.srcStatWord (s : State) (n : Nat) : Nat :=
  if srcExists n then
    let x := s.src n
    x.ownerNext.getD x.owner % 64 * 2 ^ 26 + b2n x.quar * 2 ^ 25 + b2n (x.st == .inService) * 2 ^ 23 + b2n (x.st == .offered) * 2 ^ 22 +
      b2n (x.st == .pending) * 2 ^ 21 + b2n (srcLevel n && decide (s.levelArg n ≠ 0)) * 2 ^ 20 + x.occ % 256 * 2 ^ 12 + x.run % 4096
  else 0

/-- What a host reads in the register at `a` (R7): nothing of its write-only fields. -/
def State.viewWord (s : State) (a : Nat) : Nat :=
  match s.live a, regDesc a with
  | some v, _ => v
  | none, some d => (s.shown a &&& ~~~ BitVec.ofNat 32 d.wo).toNat
  | none, none => 0

def State.viewPlace (s : State) (x : Place) : Nat :=
  match x with
  | .word a => s.viewWord a
  | .slot m off => leNat (Memory.read zeroByte s.mbx.slots (m * 0x800 + off) 4)
  | .buf i => (SMap.get (fun _ => (0 : Word)) s.dm.buf i).toNat
  | .srcCfg n => s.srcCfgWord n
  | .srcStat n _ => s.srcStatWord n
  | .none => 0

/-- The read of the register at `a` with its effect: RC fields are cleared (R7). -/
def State.readWord (s : State) (a : Nat) : State :=
  let s1 := s.answer (s.viewWord a)
  match regDesc a with
  | some d => if d.rc = 0 then s1 else s1.wr a (s1.rd a &&& ~~~ BitVec.ofNat 32 d.rc)
  | none => s1

/-! ### Registers whose write has an effect of its own -/

/-- A level source whose block's event or enable register has been written rises (R290). -/
def State.riseAll (s0 s : State) : State := foldN (fun t n => State.levelRise s0 t n) s ((List.range 19).map (· + 8))

/-- GLB_RESET (R30). REASON tells a warm reset of firmware that has halted (MODE 3) from one of a working part. -/
def State.glbReset (s : State) (val : Nat) : State :=
  if bitAt val 0 ∧ val / 2 ^ 16 % 2 ^ 16 = 0xA5C3 then
    { s with boot := { s.boot with warm := some { frame := (s.frame + 1) % 2 ^ 32, reason := if s.mode = 3 then 5 else 3 } } }
  else s

/-- One slot rung (R35). -/
def State.ringSlot (s : State) (m sl : Nat) : State :=
  if s.bitOf (Reg.MBX_OWNER m) sl then s.bump (Fd.MBX_ERR_RING_BUSY m)
  else
    let s1 := (s.putBit (Reg.MBX_OWNER m) sl true).putBit (Reg.MBX_DONE m) sl false
    { s1 with mbx := { s1.mbx with rung := s1.mbx.rung ++ [(m, sl)] } }

/-- MBX_DOORBELL of mailbox `m` (R35, R36); it ends BUS_KEEP (R374). -/
def State.mbxRing (s : State) (m val : Nat) : State :=
  let s1 := foldN (fun t sl => if bitAt val sl then t.ringSlot m sl else t) s (List.range 8)
  if val % 256 = 0 then s
  else if s1.mbx.rung.length = s.mbx.rung.length then s1
  else
    let f (k : Keep) : Keep := { k with door := true }
    ({ s1 with pdm := { s1.pdm with keep := s1.pdm.keep.map f } }).cpAsk .doorbell

/-- A write to mailbox memory: discarded and counted while the firmware owns the slot (R35). -/
def State.slotWrite (s : State) (m off val : Nat) : State :=
  if s.bitOf (Reg.MBX_OWNER m) (off / 0x100) then s.bump (Fd.MBX_ERR_WR_BUSY m)
  else { s with mbx := { s.mbx with slots := Memory.write zeroByte s.mbx.slots (m * 0x800 + off) (leBytes 4 val) } }

/-- INS_DOORBELL of instance `i` (R171). -/
def State.insDoor (s : State) (port : Side) (i val : Nat) : State :=
  s.ringDoor port { inst := i, op := val / 2 ^ 30 % 4, entry := val / 2 ^ 16 % 2 ^ 14, value := val % 2 ^ 16 }

/-- SCH_ALLOC_REQ (R204); a reserved OP makes the write ineffective. -/
def State.allocReq (s : State) (port : Side) (val : Nat) : Out :=
  match val % 8 with
  | 1 => execGrantHandle port s
  | 2 => execReleaseHandle port s
  | 3 => execModifyHandle port s
  | 4 => execQueryHandle port s
  | _ => .next s

/-- DMA channel register `r` of channel `n` (R243). (DEDUCED, log entry 22.) -/
def State.dmaWrite (s : State) (n r val : Nat) : State :=
  if r = 0x18 then s.dmaRing n (val % 65536)
  else if r = 0x1C then s.dmaAck n (val % 65536)
  else if r = 0x24 then
    let s1 := if bitAt val 0 then s.dmaEnable n else (s.put (Fd.DMA_CH_CTRL_EN n) 0).showCh n
    if bitAt val 1 then s1.dmaStop n else s1
  else if s.on (Fd.DMA_CH_CTRL_EN n) then s
  else s.storeReg (0x71000 + n * 0x40 + r) val

/-- Queue register `r` of physical queue `Q` (R307). -/
def State.queueWrite (s : State) (Q r val : Nat) : State :=
  if r = 0x08 then s.queueCfg Q val
  else if r = 0x14 then s.consAt Q (val % 65536)
  else if r = 0x1C then s.completeAt Q (val % 1024)
  else if s.qEn Q then s
  else s.storeReg (0xA8000 + Q * 0x40 + r) val

/-- EVQ_SRCs_CFG (R306): CLAIM of a level source ignores writes. -/
def State.srcCfgWrite (s : State) (n val : Nat) : State :=
  if srcExists n then
    (s.putSrc n { s.src n with
      mask := bitAt val 31, claim := if srcLevel n then true else bitAt val 30, holdoff := val / 2 ^ 24 % 16
      prio := val / 2 ^ 20 % 8, targets := val % 2 ^ 16 }).markHeld n
  else s

/-- EVQ_SRCs_STAT (R306): OWNER of sources 0 to 35 from the next tick, QUAR and SET. -/
def State.srcStatWrite (s : State) (n : Nat) (own : Bool) (val : Nat) : State :=
  if srcExists n then
    let x := s.src n
    let x1 := if own ∧ n ≤ 35 then { x with ownerNext := some (val / 2 ^ 26 % 64) } else x
    let x2 := if bitAt val 25 then { x1 with quar := false, run := 0, quarDue := false } else x1
    let s1 := s.putSrc n x2
    if bitAt val 24 then s1.occurAt n 0 s.frame s.nowNs true else s1
  else s

/-- The bytes of a VALID device-mode buffer that a CFG word describes, from its first. -/
def dmSpan (w : Nat) : Nat × Nat := (w / 2 ^ 8 % 256 * 64, w / 2 ^ 8 % 256 * 64 + w / 2 ^ 16 % 1024 * 4)

/-- A write to TRE_DM_EP_CFGn that R157 makes ineffective. -/
def State.dmCfgBad (s : State) (n val : Nat) : Bool :=
  let a := dmSpan val
  bitAt val 31 &&
    (decide (a.2 > 16384) || (n != 0 && val / 2 ^ 28 % 4 == 0) ||
      (List.range 16).any fun m =>
        let w := (s.shown (Reg.TRE_DM_EP_CFG m)).toNat
        let b := dmSpan w
        m != n && bitAt w 31 && decide (a.1 < b.2) && decide (b.1 < a.2))

/-- Writes that a chapter makes ineffective in a state (R157, R214, R270). (DEDUCED, log entry 21.) -/
def State.ineffective (s : State) (a val : Nat) : Bool :=
  if 0x41100 ≤ a ∧ a < 0x41180 then s.dmCfgBad ((a - 0x41100) / 8) val
  else if a = Reg.SCH_DIR_LO ∨ a = Reg.SCH_DIR_HI ∨ a = Reg.SCH_DIR_PASID then s.on Fd.TRE_STATUS_DEVICES
  else if a = Reg.SCH_ADDR_WINDOW then val % 2 ^ 13 == 0 || decide (val % 2 ^ 13 > val / 2 ^ 16 % 2 ^ 13)
  else if a = Reg.TIM_CTRL then decide (s.framesPerSec ≤ val / 2 ^ 8 % 2 ^ 12)
  else if a = Reg.RED_CTRL then val / 2 ^ 16 % 2 ^ 16 == 0
  else if a = Reg.RED_BP then decide (val % 2 ^ 12 ≥ val / 2 ^ 12 % 2 ^ 12)
  else false

/-- A write of a whole register word at `a` of the register file. (DEDUCED, log entry 19.) (DEDUCED, log entry 20.) -/
def State.writeWord (s : State) (port : Side) (a val : Nat) : Out :=
  let page := (a - 0x100000) / 0x10000
  if a = Reg.GLB_RESET then .next (s.glbReset val)
  else if a = Reg.MBX_DOORBELL 0 then .next (s.mbxRing 0 val)
  else if 0x100000 ≤ a ∧ a % 0x10000 = 0x800 then .next (s.mbxRing page val)
  else if 0x30000 ≤ a ∧ a < 0x38000 ∧ a % 0x1000 = 0 then .next (s.lnkCtrlWrite ((a - 0x30000) / 0x1000) val)
  else if a = Reg.TRE_DM_CTRL then .next (s.dmCtrlWrite val)
  else if 0x41100 ≤ a ∧ a < 0x41180 ∧ a % 8 = 4 then .next (s.dmStatWrite ((a - 0x41100) / 8) val)
  else if 0x100000 ≤ a ∧ a % 0x10000 = 0x1000 then .next (s.insDoor port page val)
  else if a = Reg.SCH_ALLOC_REQ then s.allocReq port val
  else if 0x71000 ≤ a ∧ a < 0x71800 then .next (s.dmaWrite ((a - 0x71000) / 0x40) (a % 0x40) val)
  else if 0xA8000 ≤ a ∧ a < 0xAC000 then .next (s.queueWrite ((a - 0xA8000) / 0x40) (a % 0x40) val)
  else if a = Reg.EVQ_GROUP_MASK_LO ∨ a = Reg.EVQ_GROUP_MASK_HI then .next (s.hostStore a val).markHeldAll
  else if s.ineffective a val then .next s
  else .next (State.riseAll s (s.hostStore a val))

/-! ### The MSI-X tables (R294, R297) -/

def sideNum : Side → Nat
  | .h0 => 0
  | .h1 => 1

/-- A word of a function's table: four to a vector, the fourth its vector control, whose bit 0 masks. -/
def State.msixWrite (s : State) (port : Side) (off val : Nat) : Out :=
  let vec := off / 16
  if vec ≥ 256 then .next (s.reportUR port)
  else if off % 16 = 12 then
    (if bitAt val 0 then
      (if s.host.msixMask.contains (port, vec) then .next s
       else .next { s with host := { s.host with msixMask := s.host.msixMask ++ [(port, vec)] } })
     else execMsixUnmask port vec s)
  else
    let k := sideNum port * 1024 + off / 4
    .next { s with host := { s.host with msixTab := SMap.put (fun _ => (0 : Word)) k (BitVec.ofNat 32 val) s.host.msixTab } }

def State.msixRead (s : State) (port : Side) (off : Nat) : State :=
  let vec := off / 16
  if vec ≥ 256 then (s.reportUR port).answer 0xFFFFFFFF
  else if off % 16 = 12 then s.answer (b2n (s.host.msixMask.contains (port, vec)))
  else s.answer (SMap.get (fun _ => (0 : Word)) s.host.msixTab (sideNum port * 1024 + off / 4)).toNat

/-! ### The AER capability (R233) -/

/-- Offset of its Advanced Error Capabilities and Control register, whose bits 6 and 8 are ECRC Generation and Check Enable (PRESUMED,
log entry 229: PCI Express's own layout). -/
def aerControl : Nat := 0x18

def setSide (l : List Side) (p : Side) (on : Bool) : List Side := if on then (if l.contains p then l else l ++ [p]) else l.filter (· != p)

/-- A host write to its port's AER capability. -/
def State.aerWrite (s : State) (port : Side) (off val : Nat) : State :=
  if off = aerControl then
    { s with host := { s.host with
        ecrcGen := setSide s.host.ecrcGen port (bitAt val 6), ecrcChk := setSide s.host.ecrcChk port (bitAt val 8) } }
  else s

def State.aerRead (s : State) (port : Side) (off : Nat) : State :=
  s.answer (if off = aerControl then
    b2n (s.host.ecrcGen.contains port) * 64 + b2n (s.host.ecrcChk.contains port) * 256 else 0)

/-! ### The commands -/

/-- R7 to R10, R28, R29, R233: a host write of `val` with byte enables `be` at an offset of a window; bit 4 of `be`: its TLP fails
ECRC. -/
def execRegisterWrite (port : Side) (space : Space) (off be val : Nat) (s : State) : Out :=
  let v := val % 2 ^ 32
  if bitAt be 4 ∧ s.host.ecrcChk.contains port ∧ (space = .bar0 ∨ space = .bar2) then
    .next { s with host := { s.host with ecrcErr := s.host.ecrcErr ++ [port] } }
  else if be % 16 ≠ 15 ∨ off % 4 ≠ 0 then .next (s.reportUR port)
  else match space with
    | .msix => s.msixWrite port off v
    | .aer => .next (s.aerWrite port off v)
    | _ =>
      match s.place space off with
      | none => .next (s.reportUR port)
      | some (via, x) =>
        match s.reach port via with
        | .ur => .next (s.reportUR port)
        | .closed => .next s
        | .ok =>
          match x with
          | .word a => s.writeWord port a v
          | .slot m o => .next (s.slotWrite m o v)
          | .buf i =>
            .next { s with tree := { s.tree with dm := { s.tree.dm with
              buf := SMap.put (fun _ => (0 : Word)) i (BitVec.ofNat 32 (v % 2 ^ 24)) s.tree.dm.buf } } }
          | .srcCfg n => .next (s.srcCfgWrite n v)
          | .srcStat n own => .next (s.srcStatWrite n own v)
          | .none => .next s

/-- The read of an effective access: the registers that latch or claim at a read, and every other. -/
def State.readPlace (s : State) (port : Side) (x : Place) : Out :=
  match x with
  | .word a =>
    if a = Reg.TIM_SYSTIME_SEC then execSystimeLatchRead port 0 s
    else if a = Reg.TRE_DM_STROBE_SEC then execDmStrobeLatchRead port s
    else if a = Reg.MNS_WORD 0 then execMnsWordLatchRead port s
    else if a = Reg.MNS_EVT_INFO then execMnsEvtLatchRead port s
    else if 0xA8000 ≤ a ∧ a < 0xAC000 ∧ a % 0x40 = 0x18 then .next (s.claimAt ((a - 0xA8000) / 0x40))
    else .next (s.readWord a)
  | y => .next (s.answer (s.viewPlace y))

/-- R7, R8, R10, R233: a host read of `size` bytes: the value, and its RC fields cleared. -/
def execReadClear (port : Side) (space : Space) (off size : Nat) (s0 : State) : Out :=
  let s := s0.replyOn port
  if size ≠ 4 ∨ off % 4 ≠ 0 then .next ((s.reportUR port).answer 0xFFFFFFFF)
  else match space with
    | .msix => .next (s.msixRead port off)
    | .aer => .next (s.aerRead port off)
    | _ =>
      match s.place space off with
      | none => .next ((s.reportUR port).answer 0xFFFFFFFF)
      | some (via, x) =>
        match s.reach port via with
        | .ur => .next ((s.reportUR port).answer 0xFFFFFFFF)
        | .closed => .next (s.answer 0xFFFFFFFF)
        | .ok => s.readPlace port x

/-- R30: a write to GLB_RESET. -/
def execGlbResetWrite (port : Side) (val : Nat) (s : State) : Out := .next (s.hostWriteVia port .manager (s.glbReset val))

/-- R35: a write to MBX_DOORBELL of mailbox `mbx`. -/
def execMbxDoorbellWrite (port : Side) (mbx val : Nat) (s : State) : Out :=
  .next (s.hostWriteVia port (if mbx = 0 then .manager else .page mbx) (s.mbxRing mbx val))

end Sys2Proof.Machine
end

