-- ==== Sys2Proof/Machine/HostReads.lean ====
section
/-! DEFINITION. Completions and timeouts of host reads: what each read was made for goes on with its data, or ends as failed
(06, R160; 08, R233; 10, R282). -/

namespace Sys2Proof.Machine

/-- A read of the instance table ends; the doorbells behind it are processed (R172). -/
def State.tableEnds (s : State) (r : HostRead) (ok : Bool) (data : List Byte) : State :=
  let s1 := if r.dead then s else s.tableDone r.inst r.key ok data
  s1.drainDoors r.inst s1.rings.doors.length

/-- The end of a read of a class that HOST_READ_COMPLETION names (R160). The pager's reads and DMA source reads have rows of
their own, and the firmware's complete with their command's PENDING_OUTCOME. -/
def State.readDone (s : State) (r : HostRead) (ok : Bool) (data : List Byte) : State :=
  match r.use with
  | .table => s.tableEnds r ok data
  | .desc => s.descDone r.inst r.key r.off ok data
  | .ahead => s.aheadDone r ok data
  | .out => s.outDone r ok data
  | .slot => s.slotFirst r.key r.frame ok data
  | .slotSeq => s.slotSecond r.key r.frame ok data
  | .dmaDesc => (s.dmaDescDone r.key ok data).dmaGo
  | _ => s

/-- A read ends as failed, whatever it was made for (R160, R213). (DEDUCED, log entry 121.) -/
def State.readFailed (s : State) (r : HostRead) : State :=
  match r.use with
  | .directory => (s.dirDone r.key none).enumPage r.key none
  | .page => s.ctxDone r.key false []
  | .dmaSrc => s.dmaSrcDone r false [] false 0 0 0
  | .fw => s.pendingOutcome r.key false 0 []
  | _ => s.readDone r false []

/-- R160: a completion arrives; one marked at a reset of its instance is discarded and counted (R281, R282). -/
def execHostReadCompletion (tag : Nat) (ok : Bool) (data : List Byte) (s : State) : Out :=
  match s.findRead tag with
  | some r =>
    if r.use = .page ∨ r.use = .directory ∨ r.use = .dmaSrc ∨ r.use = .fw then .next s
    else
      let s1 := s.dropRead tag
      if r.dead then
        let s2 := s1.countDiscard r.inst
        .next (if r.use = .table then s2.tableEnds r false [] else s2)
      else .next (s1.readDone r ok data)
  | none => .next s

/-- R160: the read with this tag times out: it has failed. One marked at a reset ends without a completion to discard. -/
def execHostReadTimeout (tag : Nat) (s : State) : Out :=
  match s.findRead tag with
  | some r =>
    let s1 := s.dropRead tag
    if r.dead then .next (if r.use = .table then s1.tableEnds r false [] else s1) else .next (s1.readFailed r)
  | none => .next s

end Sys2Proof.Machine
end

