-- ==== Sys2Proof/Machine/Scree.lean ====
section
/-! DEFINITION. Scree and the built-in self-test (17_perturbation_and_test.md, R399 to R407). -/

namespace Sys2Proof.Machine

/-! ### Locking (R399, R400) -/

/-- Scree locks: every injection ends, a LOCK record with its cause, LOCKED. -/
def State.screeLock (s : State) (cause : Nat) : State :=
  let s1 := foldN State.endInj s (s.scree.injs.map (·.kind))
  let s2 := (((s1.put Fd.SCR_STATUS_UNLOCKED 0).put Fd.SCR_STATUS_SCOPE 0).put Fd.SCR_EXPIRY_FRAME 0).raiseCairn 9 2 cause
  s2.setEvent 26 Fd.SCR_EVENT_LOCKED

/-- R399: at the tick of SCR_EXPIRY the unlock ends. -/
def execUnlockExpiry (s : State) : Out :=
  if s.on Fd.SCR_STATUS_UNLOCKED ∧ since32 s.frame (s.get Fd.SCR_EXPIRY_FRAME) < 2 ^ 31 then .next (s.screeLock 1) else .next s

/-- SCR_UNLOCK: the token's SCOPE and LIFETIME; the token check ends the nonce (R61). (DEDUCED, log entry 186.) -/
def execScrUnlock (id : Nat) (s : State) : Out :=
  .next (s.run id 0x0B00 fun c =>
    let tok := slice c.req 0 92
    let scope := leAt tok 20 4
    let life := scope / 2 ^ 16
    if scope % 2 = 1 ∨ scope / 2 ^ 10 % 2 ^ 6 ≠ 0 ∨ life = 0 then s.finish c ST.invalid 0 []
    else
      let s1 := s.endNonce
      s1.judged c [(!s.tokenOk tok 2 none, ST.denied, 1)]
        (let f := (s.frame + life * 4096) % 2 ^ 32
         let s2 := ((s1.put Fd.SCR_STATUS_UNLOCKED 1).put Fd.SCR_STATUS_SCOPE (scope / 2 % 2 ^ 9)).put Fd.SCR_EXPIRY_FRAME f
         let s3 := ((s2.bump Fd.SCR_COUNT_UNLOCKS).raiseCairn 9 1 scope).setEvent 26 Fd.SCR_EVENT_UNLOCKED
         s3.okay c (leBytes 2 (scope % 2 ^ 16) ++ zeros 2 ++ leBytes 4 f)))

def execScrLock (id : Nat) (s : State) : Out :=
  .next (s.run id 0x0B01 fun c => (if s.on Fd.SCR_STATUS_UNLOCKED then s.screeLock 0 else s).okay c [])

/-! ### Injections (R402) -/

/-- A field of SCR_INJECT is out of the range of its kind. -/
def State.injBad (s : State) (k port p0 p1 frames : Nat) : Bool :=
  let i0 := toSigned 32 p0
  let out (v lo hi : Nat) : Bool := decide (v < lo ∨ hi < v)
  let root := decide (port ≥ s.ports)
  let span := out frames 1 1048576
  match k with
  | 1 => root || out p0 1 64 || decide (p1 > 1) || span
  | 2 => root || out p0 1 8191 || decide (p1 > 0xFFFF) || span
  | 3 => decide (port > 1) || out p0 1 500 || decide (p0 * 1000 ≥ periodNs s.period) || span
  | 4 => root || out p0 1 32 || decide (p1 > 1) || span
  | 5 => root || out p0 1 (frameWt s.period) || span
  | 6 => root || out p0 1 4096 || span
  | 7 => span
  | 8 => decide (i0 = 0 ∨ i0.natAbs > 500000000) || out p1 1 255
  | 9 => root
  | _ => true

/-- The target is in the state that the kind requires. (DEDUCED, log entry 14.) (DEDUCED, log entry 188.) -/
def State.injReady (s : State) (k port : Nat) : Bool :=
  match k with
  | 1 | 2 | 4 | 5 => s.linkState port == 7
  | 9 => (s.pp port).gates
  | _ => true

/-- R1: the injection names a root port that the part does not have; STOP names its port like any other command. -/
def State.injNoPort (s : State) (k port : Nat) : Bool := [1, 2, 4, 5, 6, 9].contains k && decide (port ≥ s.ports)

/-- Data words, page-ins or edges that the injection is to hit: those of a frame for kinds 1 and 6. -/
def injLeft (k p0 p1 : Nat) : Nat := match k with
  | 1 | 6 => p0
  | 8 => p1
  | _ => 0

/-- SCR_INJECT: with STOP set only KIND is judged, and the root port that it names (R1). Kind 9 stays pending until its trip, or until the gates are off. -/
def execScrInject (id : Nat) (s : State) : Out :=
  .next (s.run id 0x0B02 fun c =>
    let k := c.u 0 1
    let port := c.u 1 1
    let stop := bitAt (c.u 2 1) 0
    let runs := (s.scree.inj k).isSome
    s.judged c [(decide (k < 1 ∨ 9 < k) || s.injNoPort k port || (!stop && s.injBad k port (c.u 4 4) (c.u 8 4) (c.u 12 4)), ST.invalid, 0),
        (!s.on Fd.SCR_STATUS_UNLOCKED, ST.denied, 1), (!s.bitOf Reg.SCR_STATUS k, ST.denied, 2),
        (runs && !stop, ST.denied, 3), (!stop && !s.injReady k port, ST.denied, 4)]
      (if stop then (s.endInj k).okay c (leBytes 4 0)
       else
        let ends : Option Nat := if k ≥ 8 then none else some ((s.frame + c.u 12 4) % 2 ^ 32)
        let i : Injection := { kind := k, port := port, p0 := c.u 4 4, p1 := c.u 8 4, ends := ends, left := injLeft k (c.u 4 4) (c.u 8 4) }
        let s1 := { s with scree := { s.scree with injs := s.scree.injs ++ [i] } }
        let s2 := ((s1.putBit Reg.SCR_ACTIVE k true).bump Fd.SCR_COUNT_INJECTIONS).raiseCairn 9 3 (k + port % 2 ^ 8 * 2 ^ 8)
        s2.okay c (leBytes 4 (ends.getD 0))))

/-- R402: an injection of kinds 1 to 7 ends at the tick FRAMES after its own; kind 9 ends with the trip that it makes, or without it
once the gates are off (Races). Kind 8 ends with its last edge. -/
def execInjectionEnd (kind : Nat) (s : State) : Out :=
  match s.scree.inj kind with
  | some i =>
    if kind = 9 then .next ((if (s.pp i.port).gates then s.trip i.port 4 else s).endInj 9)
    else match i.ends with
      | some f => if since32 s.frame f < 2 ^ 31 then .next (s.endInj kind) else .next s
      | none => .next s
  | none => .next s

/-- At each tick kinds 1 and 6 have P0 words or page-ins to hit again. -/
def State.injTick (s : State) : State :=
  { s with scree := { s.scree with injs := s.scree.injs.map fun i =>
      if i.kind = 1 ∨ i.kind = 6 then { i with left := i.p0 } else i } }

/-! ### The built-in self-test (R403) -/

/-- The prerequisite of a test holds. -/
def State.bistPre (s : State) (test ports : Nat) : Bool :=
  match test with
  | 0 => s.portList.all (fun p => s.linkState p == 0) && s.red.bank0.isNone && s.red.bank1.isNone && !s.tree.dm.on &&
      (s.rd Reg.DMA_BUSY == 0)
  | 1 => s.portList.all fun p => !bitAt ports p || s.linkState p == 0
  | 2 => s.get Fd.PAR_LINK0_STATE == 0 && s.get Fd.PAR_LINK1_STATE == 0
  | 3 => s.on Fd.GLB_STATUS_STANDBY_READY
  | 4 => s.cairn.frozenAt.isNone && s.cairn.clearing.isNone
  | 5 => s.get Fd.MNS_CTRL_EN == 0
  | _ => true

/-- BIST_RUN: the prerequisites are judged at the take, in ascending bit order. (DEDUCED, log entry 187.) -/
def execBistRun (id : Nat) (s : State) : Out :=
  .next (s.runNow id 0x0B03 fun c =>
    let tests := c.u 0 2
    let ports := c.u 2 1
    let pre (t : Nat) : Bool × Nat × Nat := (bitAt tests t && !s.bistPre t ports, ST.denied, t + 1)
    s.judged c ([(decide (tests ≥ 64 ∨ ports ≥ 2 ^ s.ports), ST.invalid, 0)] ++ (List.range 6).map pre ++ [(s.scree.bist.isSome, ST.denied, 7)])
      (let b : BistRun := { cmd := c.id, tests := tests, ports := ports }
       let s1 := { s with scree := { s.scree with bist := some b } }
       let s2 := s1.put Fd.SCR_STATUS_BIST_BUSY 1
       let s3 := if bitAt tests 3 then (s2.putOther { s2.otherPair with mode := .loading }).put Fd.GLB_STATUS_STANDBY_READY 0 else s2
       s3.goPending c s.frame))

/-- The memories that test 0 leaves zero: context cache, frame buffers, scratch, local memory, device-mode buffers. -/
def State.bistZero (s : State) : State :=
  let s1 := { s with
    pager := { s.pager with ctxs := [] }
    xfer := { s.xfer with slots := [], bulkIn := [], bulkOut := [], outs := [], coll := [] }
    red := { s.red with slots := [], delay := [], recs := [], caps := [] }
    tree := { s.tree with dm := { s.tree.dm with buf := [] } } }
  s1.showCache

/-- What BIST_GET_RESULT reports of a run of which the tests `bad` failed (R407): what a test found counts if it failed. -/
def BistRun.result (b : BistRun) (bad frame mems ports saddle word errors damaged : Nat) : BistResult :=
  let of (t v : Nat) : Nat := if bitAt bad t then v else 0
  { run := b.tests, failed := bad, frame := frame, mems := of 0 (mems &&& 0x2F), ports := of 1 (ports &&& b.ports)
    saddle := of 2 (saddle &&& 3), word := of 0 word, errors := if bitAt bad 1 || bitAt bad 2 then errors else 0, damaged := of 4 damaged }

/-- A standby pair that failed test 3 stays halted; else it returns as R55 says (R403). -/
def State.bistPair (s : State) (bad : Nat) : State :=
  if bitAt bad 3 ∧ s.otherPair.mode = .loading then s.putOther { s.otherPair with mode := .halted } else s

/-- R403: a BIST_RUN ends. `failed`: bit per failed test; the other operands are what BIST_GET_RESULT reports of it (R407). -/
def execBistComplete (failed mems ports saddle word errors damaged : Nat) (s : State) : Out :=
  match s.scree.bist with
  | some b =>
    let bad := failed &&& b.tests
    let s1 := { s with scree := { s.scree with bist := none, last := b.result bad s.frame mems ports saddle word errors damaged } }
    let s2 := (s1.put Fd.SCR_STATUS_BIST_BUSY 0).wr Reg.SCR_BIST (BitVec.ofNat 32 (b.tests + bad * 2 ^ 16))
    let s3 := (if bitAt b.tests 0 then s2.bistZero else s2).bistPair bad
    let s4 := (s3.raiseCairn 9 4 (bad + b.tests * 2 ^ 16)).setEvent 26 Fd.SCR_EVENT_BIST_DONE
    .next (match s4.findCmd b.cmd with
      | some c => if bad = 0 then s4.okay c [] else s4.finish c ST.fault 1 []
      | none => s4)
  | none => .next s

def BistResult.bytes (r : BistResult) : List Byte :=
  leBytes 2 r.run ++ leBytes 2 r.failed ++ leBytes 4 r.frame ++ leBytes 2 r.mems ++ leBytes 1 r.ports ++ leBytes 1 r.saddle ++
    leBytes 4 r.word ++ leBytes 4 r.errors ++ leBytes 2 r.damaged ++ zeros 2

def execBistGetResult (id : Nat) (s : State) : Out := .next (s.run id 0x0B04 fun c => s.okay c s.scree.last.bytes)

end Sys2Proof.Machine
end

