-- ==== Sys2Proof/Machine/Pdm.lean ====
section
/-! DEFINITION. Bus-keep, sleep, wake sources, DVFS and the power-domain commands (15_power_domains.md, R370 to R384). -/

namespace Sys2Proof.Machine

/-! ### DVFS (R381, R382) -/

/-- A change of the point completes. -/
def State.dvsDone (s : State) (d : DvsChange) : State :=
  let s1 := (s.editPdm fun p => { p with dvs := none }).put Fd.PDM_DVFS_PENDING 0
  let s2 := s1.setEvent 24 Fd.PDM_EVENT_DVFS_DONE
  match d.cmd.bind s2.findCmd with
  | some c => s2.okay c []
  | none => s2

/-- The change begins: a lower clock goes before its code, a higher one after it (R381). DVS_PG leaves its window with the code. -/
def State.dvsBegin (s : State) (d : DvsChange) : State :=
  if d.target = d.old then s.dvsDone d
  else
    let s1 := if d.target > d.old then s.put Fd.PDM_DVFS_POINT d.target else s
    (s1.put Fd.PDM_DVFS_PG 0).editPdm fun p => { p with dvsSel := d.target, dvs := some { d with begun := true } }

/-- R381: at the effect tick the divider and the code change in their order. -/
def execDvfsChange (s : State) : Out :=
  match s.pdm.dvs with
  | some d => if d.begun then .next s else .next (s.dvsBegin d)
  | none => .next s

/-- R381: DVS_PG asserts. A lowering is complete; a raising waits for a tick 20 µs later. -/
def execDvsPgAssert (dt : Nat) (s : State) : Out :=
  let s1 := (s.advance dt).put Fd.PDM_DVFS_PG 1
  match s1.pdm.dvs with
  | some d =>
    if ¬ d.begun ∨ d.pg.isSome then .next s1
    else if d.target > d.old then .next (s1.dvsDone d)
    else .next (s1.editPdm fun p => { p with dvs := some { d with pg := some s1.time.cyc } })
  | none => .next s1

/-- At a tick at least 20 µs (8,000 core cycles) after DVS_PG the divider of a raising changes. (DEDUCED, log entry 147.) -/
def State.dvsTick (s : State) : State :=
  match s.pdm.dvs with
  | some d =>
    match d.pg with
    | some c => if c + 8000 ≤ s.time.tickCyc then (s.put Fd.PDM_DVFS_POINT d.target).dvsDone d else s
    | none => s
  | none => s

/-- R382: no DVS_PG within 2 ms: the old code is restored; a lower frequency is kept, a higher one is not taken. -/
def execDvsPgTimeout (dt : Nat) (s : State) : Out :=
  let s0 := s.advance dt
  match s0.pdm.dvs with
  | some d =>
    if d.begun ∧ d.pg.isNone then
      let s1 := (s0.editPdm fun p => { p with dvs := none, dvsSel := d.code }).put Fd.PDM_DVFS_PENDING 0
      let s2 := ((s1.put Fd.PDM_FAIL_STAGE 3).put Fd.PDM_FAIL_RAIL 3).bump Fd.PDM_FAIL_COUNT
      let s3 := (s2.setEvent 24 Fd.PDM_EVENT_DVFS_FAIL).raiseCairn 8 2 (s2.rd Reg.PDM_FAIL).toNat
      .next (match d.cmd.bind s3.findCmd with
        | some c => s3.finish c ST.fault 1 []
        | none => s3)
    else .next s0
  | none => .next s0

/-- Ask for a point: PENDING and TARGET show it (R381). -/
def State.dvsAsk (s : State) (cmd : Option Nat) (point : Nat) : State :=
  let d : DvsChange := { cmd := cmd, target := point, old := s.get Fd.PDM_DVFS_POINT, code := s.pdm.dvsSel, begun := false, pg := none }
  ((s.put Fd.PDM_DVFS_PENDING 1).put Fd.PDM_DVFS_TARGET point).editPdm fun p => { p with dvs := some d }

/-! ### Domains (R371) -/

/-- The cluster without power loses its graphs, node state and delay list; what it has still to write stands. -/
def State.cluLost (s : State) : State :=
  let r := { Red.reset with loads := s.red.loads, slots := s.red.slots, tseq := s.red.tseq, trace := s.red.trace, recs := s.red.recs }
  ({ s with red := r }).redSync

def State.setClu (s : State) (v : Nat) : State :=
  let s1 := s.setDomain Fd.PDM_STATE_CLU v
  if v = 0 then s1.cluLost else s1

/-- The standby pair is put into RET or OFF: it is not standby-ready, and an outstanding switch does not occur (R58, R371). (DEDUCED, log entry 48.) -/
def State.standbyDown (s : State) (v : Nat) : State :=
  (((s.setDomain s.standbyDomain v).putOther { s.otherPair with mode := .none, back := none }).put Fd.GLB_STATUS_STANDBY_READY 0).noSwitch

/-- It comes back: loaded from the running slot and judged again (R55). -/
def State.standbyUp (s : State) : State :=
  (s.setDomain s.standbyDomain 3).putOther { mode := .loading, slot := s.runSlot, wd := 0, back := none }

/-! ### BUS_KEEP (R373, R374, R378) -/

/-- Levels of the wake sources: latches, alarm, port power, links, partner, mains. (DEDUCED, log entry 148.) -/
def State.wakeLevels (s : State) : Nat :=
  let any (f : Nat → Fld) : Bool := s.portList.any fun p => s.on (f p)
  let pow := any Fd.PPW_P_EVENT_ATTACH || any Fd.PPW_P_EVENT_DETACH || any Fd.PPW_P_EVENT_FAULT
  let par := s.on Fd.PAR_EVENT_PARTNER_DOWN || s.on Fd.PAR_EVENT_PARTNER_UP
  let mns := s.on Fd.MNS_EVENT_DIP_START || s.on Fd.MNS_EVENT_SWELL_START || s.on Fd.MNS_EVENT_INT_START
  (s.rd Reg.EVQ_WAKE_LATCH).toNat % 16 + 16 * b2n s.pdm.alarmHit + 32 * b2n pow + 64 * b2n (any Fd.LNK_EVENT_WAKE) +
    128 * b2n par + 256 * b2n mns

/-- The effect tick of a PD_SLEEP of this depth has come. -/
def State.sleepDue (s : State) (depth : Nat) : Option SleepDue :=
  match s.pdm.due with
  | some d => if d.depth = depth ∧ since32 s.frame d.frame < 2 ^ 31 ∧ s.boot.stage = .running then some d else none
  | none => none

/-- R373, R399: Scree locks, DVS to 200 MHz, the active pair SINGLE, the standby pair RET, the cluster RET or OFF, root links in L0 to L1. -/
def execBusKeepEntry (s : State) : Out :=
  match s.sleepDue 0 with
  | none => .next s
  | some d =>
    let s1 := s.editPdm fun p => { p with due := none }
    if s.pdm.keep.isSome then .next s1
    else
      let point := s.get Fd.PDM_DVFS_POINT
      let l0 := s.portList.filter fun p => s.linkState p == 7 && !s.isDm p && (Fd.LNK_CTRL_L1_EN p).ex (s.lp p).ctrlEff == 1
      let k : Keep :=
        { standby := s.get s.standbyDomain, clu := s.get Fd.PDM_STATE_CLU, point := point, links := l0, seen := s.wakeLevels
          door := false }
      let s2 := if point = 2 then s1 else
        (s1.dvsAsk none 2).dvsBegin { cmd := none, target := 2, old := point, code := s1.pdm.dvsSel, begun := false, pg := none }
      let sl := if s2.on Fd.SCR_STATUS_UNLOCKED then s2.screeLock 3 else s2
      let s3 := sl.setDomain sl.activeDomain 2
      let s4 := s3.standbyDown 1
      let s5 := s4.setClu (if d.cluOff then 0 else 1)
      let s6 := foldN (fun t p => t.pmAsk p 1) s5 l0
      let s7 := (s6.put Fd.PDM_STATE_DEVICE 2).editPdm fun p => { p with keep := some k, alarmHit := false }
      .next (s7.setTime { s7.time with sleepSnap := true })

/-- At a tick: the entry is complete once no root link still waits for L1; a wake level that has gone may fire again. -/
def State.keepTick (s : State) : State :=
  match s.pdm.keep with
  | some k =>
    let s1 := s.editPdm fun p => { p with keep := some { k with seen := k.seen &&& s.wakeLevels } }
    let open_ (p : Nat) : Bool := s.linkState p == 7 && ((s.lp p).pmReq != 0 || (s.lp p).pmEnter != 0)
    if s.get Fd.PDM_STATE_DEVICE = 2 ∧ ¬ k.links.any open_ then s1.put Fd.PDM_STATE_DEVICE 1 else s1
  | none => s

/-- R374: a doorbell, an enabled wake source or a fault of the active pair ends BUS_KEEP; what entry changed is undone. -/
def execBusKeepExit (s : State) : Out :=
  match s.pdm.keep with
  | none => .next s
  | some k =>
    let fired := (s.wakeLevels &&& s.get Fd.PDM_WAKE_CFG_EN) &&& (0x1FF - k.seen % 0x200)
    let fault := s.activePair.mode == .halted
    if s.get Fd.PDM_STATE_DEVICE = 1 ∧ (fired ≠ 0 ∨ k.door ∨ fault) then
      let v : Leave := { cyc := s.time.cyc, frame := (s.frame + 2) % 2 ^ 32, sources := fired, door := k.door }
      let s1 := (s.put Fd.PDM_STATE_DEVICE 3).editPdm fun p =>
        { p with keep := none, leave := some v, alarmFrom := none, keepFault := fault }
      let s2 := s1.setDomain s1.activeDomain 3
      let s3 := if k.standby = 3 then s2.standbyUp else s2.setDomain s2.standbyDomain k.standby
      let s4 := s3.setClu k.clu
      let back (t : State) (p : Nat) : State := if t.linkState p = 9 then t.resumeLink p else t
      let s5 := foldN back s4 k.links
      let lower := s5.get Fd.PDM_DVFS_POINT
      .next (if lower = k.point then s5 else
        (s5.dvsAsk none k.point).dvsBegin { cmd := none, target := k.point, old := lower, code := s5.pdm.dvsSel, begun := false, pg := none })
    else .next s

/-- R374: DEVICE is RUN by the second tick after the trigger. -/
def State.leaveTick (s : State) : State :=
  match s.pdm.leave with
  | some v =>
    if since32 s.frame v.frame < 2 ^ 31 then
      let s1 := (s.put Fd.PDM_STATE_DEVICE 0).editPdm fun p => { p with leave := none }
      let s2 := ((s1.put Fd.PDM_WAKE_CAUSE_FROM 1).put Fd.PDM_WAKE_CAUSE_DOORBELL (b2n v.door)).put Fd.PDM_WAKE_CAUSE_SOURCES v.sources
      (s2.put Fd.PDM_WAKE_TIME_TIME (min ((s.time.cyc - v.cyc) / 40000) 0xFFFF)).setEvent 24 Fd.PDM_EVENT_WAKE
    else s
  | none => s

/-! ### Sleep and wake (R375 to R380) -/

/-- R375, steps 1 to 4: instances are reset, devices and handles go, the Saddle links drop, and the save area is written. SYSTIME runs until
the sleep snapshot, and ticks too while a residual correction is slewed. -/
def execSleepEntry (s : State) : Out :=
  match s.sleepDue 1 with
  | none => .next s
  | some _ =>
    let s1 := (s.screeLost 3).resetAll
    let v := s1.saveArea
    let s2 := s1.wipe sleepMask
    let s4 := (s2.put Fd.GLB_STATUS_FW_RUNNING 0).put Fd.GLB_STATUS_STANDBY_READY 0
    let s5 := (s4.wr Reg.PDM_STATE 0).setStage .asleep
    let s6 := s5.editPdm fun p => { p with
      saved := some v, seq := false, rail := 0, fails := 0, waking := false, fired := 0, alarmHit := false, alarmFrom := none }
    .next (s6.setTime { s6.time with ticking := s.slewing, sleepSnap := true, counting := false })

/-- R375, steps 6 and 7: the hosts' links drop, and the rails of the logic die are disabled. -/
def State.dieOff (s : State) : State :=
  ((({ s.opSecTick with host := s.host.off }).putPortUp .h0 false).putPortUp .h1 false).dropRails

/-- R84, R375: the sleep snapshot at the first RTC edge after the tick at which a sleep entry takes effect, once no correction is slewed;
the logic die goes off after it. (DEDUCED, log entry 146.) -/
def execSleepSnapshot (dt rtc : Nat) (s : State) : Out :=
  let s1 := s.advance dt
  let s2 := s1.setTime { s1.time with rtc := rtc % 2 ^ 48 }
  if s2.time.sleepSnap ∧ s2.snapshotFree then
    let s3 := s2.takeSnapshot
    let asleep : Bool := s3.boot.stage == .asleep
    let s4 := s3.setTime { s3.time with sleepSnap := false, ticking := s3.time.ticking && !asleep }
    let s5 := s4.editPdm fun p => { p with alarmFrom := some (rtc % 2 ^ 48), alarmHit := false }
    .next (if asleep then s5.dieOff else s5)
  else .next s2

/-- R378, R379: an enabled wake source has fired: the sequencer starts at the RTC edge of count `rtc`, in the order that PD_SET_WAKE
named; while PFI_N is asserted the wake waits (Races). (DEDUCED, log entry 154.) -/
def execWakeTrigger (rtc : Nat) (s : State) : Out :=
  let fired := s.wakeFired
  let off := s.boot.stage == .asleep && !s.time.sleepSnap && !s.pdm.pfiStop
  let again := s.boot.stage == .stopped && s.pdm.waking && !s.pdm.retry && decide (fired &&& (0x1FF - s.pdm.fired % 0x200) ≠ 0)
  if fired ≠ 0 ∧ (off ∨ again) ∧ s.boot.vaoOk then
    let s1 := (s.setTime { s.time with rtc := rtc % 2 ^ 48 }).editPdm fun p =>
      { p with waking := true, fired := p.fired ||| fired, fails := 0 }
    if s1.pair.pfi.isSome then .next (s1.editPdm fun p => { p with pfiStop := true })
    else .next (s1.startRails (s1.on Fd.PDM_WAKE_CFG_ORDER))
  else .next s

/-- R378: ALARM_S seconds after the sleep snapshot, counted with TIM_RTC_PERIOD. -/
def execRtcAlarm (rtc : Nat) (s : State) : Out :=
  let secs := s.get Fd.PDM_RTC_ALARM_ALARM_S
  match s.pdm.alarmFrom with
  | some a =>
    let gone := (rtc % 2 ^ 48 + 2 ^ 48 - a) % 2 ^ 48 * s.get Fd.TIM_RTC_PERIOD_PERIOD / 65536
    if secs ≠ 0 ∧ secs * 1000000000 ≤ gone then
      .next ((s.setTime { s.time with rtc := rtc % 2 ^ 48 }).editPdm fun p => { p with alarmHit := true })
    else .next s
  | none => .next s

/-- SYSTIME that the reconstruction of R86 gives for an RTC count [31:0]: FRAME_NO and ns. -/
def State.atRtc (s : State) (rtc : Nat) : Nat × Nat :=
  let delta := (rtc + 2 ^ 32 - s.snapNum 0x10 4) % 2 ^ 32
  let t0 := s.snapNum 4 4 * 1000000000 + s.snapNum 8 4
  let t1 := t0 + delta * s.snapNum 0x18 4 / 65536
  let p := periodNs (s.snapNum 0x24 1 % 4)
  ((s.snapNum 0x0C 4 + (t1 / p - t0 / p)) % 2 ^ 32, t1 % (2 ^ 32 * 1000000000))

/-- At the first tick after a wake: each set latch is one occurrence with its reconstructed stamp (R303), and WAKE is raised. At the first
tick after a failed stage: the WAKE_FAIL record from the capture, and the event (R380, R388). -/
def State.wakeTick (s : State) : State :=
  let latch (t : State) (n : Nat) : State :=
    if t.bitOf Reg.EVQ_WAKE_LATCH n then
      let c := t.get (Fd.EVQ_WAKE_STAMP_RTC n)
      t.occurAt (32 + n) c (t.atRtc c).1 ((t.atRtc c).2 % 1000000000) false
    else t
  let s1 := if s.pdm.waking then
      ((foldN latch s [0, 1, 2, 3]).setEvent 24 Fd.PDM_EVENT_WAKE).editPdm fun p => { p with waking := false, fired := 0, alarmFrom := none }
    else s
  match s1.pdm.capture with
  | some c =>
    if c.pending then
      let at_ := s1.atRtc c.rtc
      let r := { s1.cairnRec 8 1 c.fail with frame := at_.1, sec := at_.2 / 1000000000, us := at_.2 % 1000000000 / 1000, est := true }
      ((s1.cairnPut r).editPdm fun p => { p with capture := some { c with pending := false } }).setEvent 24 Fd.PDM_EVENT_WAKE_FAIL
    else s1
  | none => s1

/-! ### Commands (R384) -/

def execPdGetState (id : Nat) (s : State) : Out :=
  .next (s.run id 0x0900 fun c =>
    let w (a : Nat) : List Byte := leBytes 4 (s.rd a).toNat
    s.okay c (w Reg.PDM_STATE ++ w Reg.PDM_DVFS ++ w Reg.PDM_WAKE_CAUSE ++ w Reg.PDM_FAIL))

/-- The field of PDM_STATE that a domain number names. -/
def domainFld (d : Nat) : Fld := match d with
  | 3 => Fd.PDM_STATE_TPHY
  | 4 => Fd.PDM_STATE_PAIRA
  | 5 => Fd.PDM_STATE_PAIRB
  | _ => Fd.PDM_STATE_CLU

/-- PD_SET_STATE. A change to ON completes once the domain is ready; one that is ON already is left as it is. (DEDUCED, log entry 149.) -/
def execPdSetState (id : Nat) (s : State) : Out :=
  .next (s.run id 0x0901 fun c =>
    let d := c.u 0 1
    let v := c.u 1 1
    let f := domainFld d
    let active : Bool := (d == 4 || d == 5) && f == s.activeDomain
    let busy := s.portList.any fun p => s.linkState p != 0
    s.judged c
      [(decide (d < 3 ∨ d > 6 ∨ v > 3 ∨ v = 2 ∨ (d = 3 ∧ v = 1)) || active, ST.invalid, 0),
       (d == 3 && v == 0 && (busy || s.sadState 0 != 0 || s.sadState 1 != 0), ST.denied, 1),
       (d == 3 && v == 3 && s.on Fd.GLB_STATUS_OSC_FALLBACK, ST.denied, 2),
       (d == 6 && v != 3 && s.on Fd.RED_STATUS_ACTIVE, ST.denied, 3)]
      (if v ≠ 3 then
        let t := match d with
          | 3 => (s.setDomain f 0).editPdm fun p => { p with en := p.en % 8 }
          | 6 => s.setClu v
          | _ => s.standbyDown v
        t.okay c []
       else
        let t := s.goPending c s.frame
        match d with
        | 3 =>
          if s.get f = 3 then (match t.findCmd id with
            | some k => t.okay k []
            | none => t)
          else t.editPdm fun p => { p with en := p.en % 8 + 8, tphyCmd := some id }
        | 6 => (t.setClu 3).editPdm fun p => { p with cluCmd := some id }
        | _ =>
          if s.on Fd.GLB_STATUS_STANDBY_READY then (match t.findCmd id with
            | some k => t.okay k []
            | none => t)
          else (if s.get f = 3 then t else t.standbyUp).editPdm fun p => { p with stdCmd := some id }))

/-- A PD_SET_STATE that brought the cluster up completes at the tick after. -/
def State.cluTick (s : State) : State :=
  match s.pdm.cluCmd with
  | some id =>
    let s1 := s.editPdm fun p => { p with cluCmd := none }
    match s1.findCmd id with
    | some c => s1.okay c []
    | none => s1
  | none => s

def execPdSetDvfs (id : Nat) (s : State) : Out :=
  .next (s.run id 0x0902 fun c =>
    s.judged c [(decide (c.u 0 1 > 2), ST.invalid, 0), (s.pdm.dvs.isSome, ST.denied, 1),
        (s.pdm.keep.isSome, ST.denied, 2)]
      ((s.goPending c s.frame).dvsAsk (some id) (c.u 0 1)))

/-- PD_SLEEP: the slot completes OK in the frame before E, which is EFFECT_FRAME, or the second tick after the take (R375). (DEDUCED, log entry 155.) -/
def execPdSleep (id : Nat) (s : State) : Out :=
  .next (s.runNow id 0x0903 fun c =>
    let e := c.target.getD ((c.takeFrame + 2) % 2 ^ 32)
    let depth := c.u 0 1
    let list := s.rings.tab.any fun x => match x.2 with
      | some y => y.kind == 2
      | none => false
    let stuck := s.portList.any fun p => s.linkState p == 7 && (Fd.LNK_CTRL_L1_EN p).ex (s.lp p).ctrlEff == 0
    s.judged c
      [(decide (depth > 1), ST.invalid, 0), (s.pdm.dvs.isSome, ST.denied, 1),
       (depth == 0 && (list || s.on Fd.RED_STATUS_ACTIVE || stuck), ST.denied, 2),
       (depth == 1 && s.get Fd.PDM_WAKE_CFG_EN % 64 == 0, ST.denied, 3)]
      (if since32 e s.frame = 1 then
        let d : SleepDue := { frame := e, depth := depth, cluOff := bitAt (c.u 1 1) 0 }
        (s.editPdm fun p => { p with due := some d }).finishAt c ST.ok 0 e []
       else s))

def execPdSetWake (id : Nat) (s : State) : Out :=
  .next (s.run id 0x0904 fun c =>
    s.judged c [(decide (c.u 0 2 > 0x1FF ∨ c.u 2 1 > 1), ST.invalid, 0)]
      ((((s.put Fd.PDM_WAKE_CFG_EN (c.u 0 2)).put Fd.PDM_WAKE_CFG_ORDER (c.u 2 1)).put Fd.PDM_RTC_ALARM_ALARM_S (c.u 4 4)).okay c []))

end Sys2Proof.Machine
end

