-- ==== Sys2Proof/Machine/Power.lean ====
section
/-! DEFINITION. The port-power commands 0x0500 to 0x0506 (R333). -/

namespace Sys2Proof.Machine

/-- A command of one port: PORT out of range is INVALID before its other rules. -/
def State.portCmd (s : State) (c : Cmd) (rules : Nat → List (Bool × Nat × Nat)) (go : Nat → State) : State :=
  let p := c.u 0 1
  s.judged c ((decide (p ≥ s.ports), ST.invalid, 0) :: rules p) (go p)

/-- The command completes PENDING and waits on the port; `f` acts. -/
def State.pendPow (s : State) (c : Cmd) (p : Nat) (f : State → State) : State :=
  f ((s.goPending c s.frame).editPp p fun x => { x with cmds := x.cmds ++ [c.id] })

/-- R333: PWR_GET_PORT. -/
def execPwrGetPort (id : Nat) (s : State) : Out :=
  .next (s.run id 0x0500 fun c => s.portCmd c (fun _ => []) fun p =>
    let x := s.pp p
    let st := s.rd (Reg.PPW_P_STATUS p)
    let flags := bits st 4 4 + 2 * bits st 5 5 + 4 * bits st 6 6 + 8 * bits st 7 7 + 16 * b2n x.attached
    let pdo (i : Nat) : List Byte := leBytes 4 (x.caps.getD i 0)
    s.okay c (leBytes 1 (s.pState p) ++ leBytes 1 flags ++ leBytes 1 (bits st 9 8) ++
      leBytes 1 (s.get (Fd.PPW_P_FAULT_CAUSE p)) ++ leBytes 2 (bits st 25 16) ++ leBytes 2 x.frs ++
      leBytes 2 (s.get (Fd.PPW_P_VOLT_VP p)) ++ leBytes 2 (s.get (Fd.PPW_P_VOLT_VS p)) ++
      leBytes 2 (s.get (Fd.PPW_P_CURR_I p)) ++ zeros 2 ++ pdo 0 ++ pdo 1 ++ pdo 2 ++ pdo 3 ++
      leBytes 4 (s.get (Fd.PPW_P_FAULT_FRAME_FRAME p))))

/-- The first `n` PDOs from byte `o` of a request. -/
def Cmd.pdos (c : Cmd) (o n : Nat) : List Nat := (List.range n).map fun i => c.u (o + 4 * i) 4

def badPdo (o : Nat) : Bool := pdoVolt o == 3 || pdoCurrent o == 0 || decide (pdoCurrent o > 500)

/-- ROLE_CAP lacks the PDOs it needs (R333). -/
def lacksPdos (role src snk : Nat) : Bool := (role != 1 && src == 0) || (role != 0 && snk == 0)

/-- The policy takes effect on the port: roles, PDOs, and the end of the dead-battery state (R322, R323, R333, Races). -/
def State.setPortPolicy (s : State) (p role flags : Nat) (src snk : List Nat) (frs : Nat) : State :=
  let x := s.pp p
  let was := s.on (Fd.PPW_P_CFG_EN p)
  let en := bitAt flags 0
  let db := s.on (Fd.PPW_P_STATUS_DB p)
  let w := b2n en * 2 ^ 31 + src.length * 2 ^ 8 + b2n (bitAt flags 3) * 16 + b2n (bitAt flags 2) * 8 +
    b2n (bitAt flags 1) * 4 + role
  let s1 := s.wr (Reg.PPW_P_CFG p) (BitVec.ofNat 32 w)
  let s2 := s1.editPp p fun y => { y with srcPdos := src, snkPdos := snk, frsOffer := frs }
  let s3 := if db then (s2.put (Fd.PPW_P_STATUS_DB p) 0).put Fd.PPW_STATUS_DB 0 else s2
  let st := s3.pState p
  if ¬ en then s3.powerOff p
  else if st = 0 then (if was then s3 else s3.unattached p)
  else if st = 1 ∨ st = 2 then s3.unattached p
  else if db ∧ role = 0 then s3.detachPort p
  else if x.srcPdos ≠ src ∧ s3.isSource p ∧ (st = 3 ∨ st = 6) then s3.newCaps p
  else if x.srcPdos ≠ src ∧ (st = 4 ∨ st = 5) then s3.editPp p fun y => { y with capsDue := true }
  else s3

/-- R333: PWR_SET_POLICY. (DEDUCED, log entry 145.) -/
def execPwrSetPolicy (id : Nat) (s : State) : Out :=
  .next (s.run id 0x0501 fun c =>
    let role := c.u 1 1
    let nsrc := c.u 3 1
    let nsnk := c.u 4 1
    let src := c.pdos 8 nsrc
    let snk := c.pdos 24 nsnk
    let frs := c.u 6 2
    s.portCmd c (fun p => [
      (decide (role > 2) || decide (nsrc > 4) || decide (nsnk > 4) || decide (frs > 511), ST.invalid, 0),
      (src.any badPdo || snk.any badPdo, ST.invalid, 1),
      (decide (nsrc ≠ 0) && decide (pdoVolt (src.getD 0 0) ≠ 0), ST.invalid, 2),
      (lacksPdos role nsrc nsnk, ST.invalid, 3),
      (decide (role ≠ s.roleCap p) && (s.pp p).attached && !s.on (Fd.PPW_P_STATUS_DB p), ST.denied, 1)])
      fun p => (s.setPortPolicy p role (c.u 2 1) src snk frs).okay c [])

/-- R333: PWR_REQUEST_CONTRACT. -/
def execPwrRequestContract (id : Nat) (s : State) : Out :=
  .next (s.run id 0x0502 fun c =>
    let pos := c.u 1 1
    let cur := c.u 2 2
    s.portCmd c (fun _ => [(decide (pos > 4) || (decide (pos ≠ 0) && decide (cur = 0 ∨ cur > 500)), ST.invalid, 0)])
      fun p => s.pendPow c p fun t =>
        let st := t.pState p
        if ¬ (t.pp p).attached then t.endPow p 0x0502 ST.denied 3
        else if t.isSource p then (if st = 3 ∨ st = 6 then t.sendCaps p else t)
        else if st ≠ 7 ∧ st ≠ 10 then t
        else if pos ≠ 0 then t.sendRequest p (t.requestObj p pos cur)
        else if (t.pp p).caps.isEmpty then t
        else t.requestBest p)

/-- R333: PWR_ROLE_SWAP. -/
def execPwrRoleSwap (id : Nat) (s : State) : Out :=
  .next (s.run id 0x0503 fun c => s.portCmd c (fun _ => []) fun p => s.pendPow c p fun t =>
    if t.roleCap p ≠ 2 then t.endPow p 0x0503 ST.denied 3
    else t.askSwap p)

/-- R333: PWR_HARD_RESET. It also ends FAULT_LATCHED (R322). (DEDUCED, log entry 143.) -/
def execPwrHardReset (id : Nat) (s : State) : Out :=
  .next (s.run id 0x0504 fun c => s.portCmd c (fun _ => []) fun p =>
    let s1 := (s.begin c).editPp p fun x => { x with cmds := x.cmds ++ [c.id] }
    if s.pState p = 15 then (s1.unpartner p).unattached p
    else if (s.pp p).attached then s1.sendHardReset p
    else s1)

/-- R333: PWR_SET_LIMITS. -/
def execPwrSetLimits (id : Nat) (s : State) : Out :=
  .next (s.run id 0x0505 fun c =>
    let oc := c.u 1 1
    let blank := c.u 2 1
    let retries := c.u 3 1
    let sense := c.u 4 2
    let rc := c.u 6 2
    let delay := c.u 8 1
    let bad := ¬ (105 ≤ oc ∧ oc ≤ 150 ∧ 5 ≤ blank ∧ blank ≤ 100 ∧ retries ≤ 7 ∧ 200 ≤ sense ∧ sense ≤ 1000 ∧ 10 ≤ rc ∧
      rc ≤ 200 ∧ 1 ≤ delay ∧ delay ≤ 100)
    s.portCmd c (fun p => [
      (decide bad, ST.invalid, 0),
      (decide (sense ≠ s.get (Fd.PPW_P_SENSE_SENSE p)) && decide (s.pState p > 1), ST.denied, 1)])
      fun p =>
        let w := retries * 2 ^ 29 + delay * 2 ^ 22 + rc * 2 ^ 14 + blank * 2 ^ 7 + (oc - 100)
        ((s.wr (Reg.PPW_P_LIMITS p) (BitVec.ofNat 32 w)).put (Fd.PPW_P_SENSE_SENSE p) sense).okay c [])

/-- R333: PWR_PORT_OFF. ON = 0 completes at the tick after VP is below 5 V; it is there already where VP reads so. -/
def execPwrPortOff (id : Nat) (s : State) : Out :=
  .next (s.run id 0x0506 fun c =>
    let on := c.u 1 1
    s.portCmd c (fun _ => [(decide (on > 1), ST.invalid, 0)]) fun p =>
      let st := s.pState p
      if on = 1 then (if st = 0 ∨ st = 15 then (s.unpartner p).unattached p else s).okay c []
      else
        let idle := s.get (Fd.PPW_P_VOLT_VP p) < 500 ∧ ¬ (s.pp p).gates
        let s1 := (s.begin c).editPp p fun x => { x with cmds := x.cmds ++ [c.id] }
        let s2 := s1.powerOff p
        if idle then s2.editPp p fun x => { x with dis := false, offDone := true } else s2)

end Sys2Proof.Machine
end

