-- ==== Sys2Proof/Machine/PowerFail.lean ====
section
/-! DEFINITION. PFI_N (14_pairing_and_systems.md, R365; 18_electrical_and_package.md, R414). -/

namespace Sys2Proof.Machine

/-- The control or bulk OUT descriptor in progress of one entry ends INCOMPLETE, once its transaction has. -/
def State.incomplete (s : State) (i e : Nat) : State :=
  match s.entry i e with
  | some x =>
    match x.desc with
    | some d =>
      if d.dataIn x ∨ d.stop.isSome then s
      else if s.entryBusy i e then s.editEntry i e fun y => { y with desc := some { d with stop := some (12, 0) } }
      else s.endDesc i e 12 0
    | none => s
  | none => s

/-- R328: PFI_N starts the fast swap of the ports whose policy has it do so, which the power die does alone (R331). -/
def State.pfiSwaps (s : State) : State :=
  foldN (fun t p => if t.on (Fd.PPW_P_CFG_FRS_ON_PFI p) then t.startFrs p else t) s s.portList

/-- R365: the data plane, Cairn (R393) and the fast swap (R328) at the stamp of PFI_N. (DEDUCED, log entry 150.) -/
def State.powerFail (s : State) : State :=
  let all := s.instList.flatMap fun i => (s.instEntries i).map fun x => (i, x.1)
  let s1 := (s.editPair fun x => { x with pfi := some s.frame }).cairnPowerFail
  let s2 := all.foldl (fun t x => t.incomplete x.1 x.2) s1
  s2.pfiSwaps

/-- R365, R414: PFI_N asserts, `dt` core cycles on. A wake under way stops, and the rails it has enabled are disabled (Races). -/
def execPfiNAssert (dt : Nat) (s : State) : Out :=
  let s1 := s.advance dt
  if s1.pair.pfi.isSome then .next s1
  else if s1.dieRuns then .next s1.powerFail
  else
    let s2 := (s1.editPair fun x => { x with pfi := some s1.frame }).pfiSwaps
    let st := s2.boot.stage
    if s2.pdm.waking ∧ (st = .regulators ∨ st = .reference ∨ st = .pll) then
      .next ((s2.dropRails.setStage .asleep).editPdm fun p => { p with pfiStop := true, retry := false })
    else .next s2

/-- R414: PFI_N deasserts: the conditions of R365 end. Hubs that the partner has not taken are served again. A wake that was stopped
starts from its first stage. -/
def execPfiNDeassert (s : State) : Out :=
  if s.pair.pfi.isNone then .next s
  else
    let back := if s.partner = 1 then s else foldN (fun t h => t.coverSpur false h) s s.pair.pfiHubs
    let s1 := back.editPair fun x => { x with pfi := none, pfiHubs := [], pfiHold := true }
    if s1.pdm.pfiStop then .next (s1.startRails (s1.on Fd.PDM_WAKE_CFG_ORDER)) else .next s1

end Sys2Proof.Machine
end

