-- ==== Sys2Proof/Machine/Tick.lean ====
section
/-! DEFINITION. The frame's own commands: FRAME_TICK, COL_START and HARD_STOP (03, R65 to R71; 95_what_each_step_holds.md lists
what comes about inside a tick). The pieces stand with their blocks. -/

namespace Sys2Proof.Machine

/-! ### The hard stop (R71, R222) -/

/-- A service of the plan that has not ended at the hard stop and has no open transaction: a first attempt that has not started
is deferred, with DEFERRED_LINK where its path has a link in RECOVERY (R225); a retry that has not started ends FAILED with the CAUSE of its
last attempt. Every retry, and every first attempt whose path is up, is counted in TIM_OVERRUN.DEFERRED (R71, R222). Where the link is in no state that carries services nothing is written (R225). (DEDUCED, log entry 118.) -/
def State.stopSvc (s : State) (v : Svc) : State :=
  let opened := s.xfer.opens.any fun t => t.kind == .periodic && t.key == v.key
  let count (t : State) : State :=
    (t.bump Fd.TIM_OVERRUN_DEFERRED) |> fun u => { u with xfer := { u.xfer with deferred := u.xfer.deferred + 1 } }
  if v.past ∨ opened then s
  else if s.pathRecovers v.port v.addr then (if v.attempts = 0 then s.deferSvc v .link else count (s.settle v 2 [] false))
  else if s.linkState v.port ≠ 7 then s.setSvc { v with past := true }
  else if v.attempts = 0 then count (s.deferSvc v .overrun)
  else count (s.settle v 2 [] false)

/-- The end of a frame's periodic work. A frame that deferred any of it is an overrun frame too (DEDUCED, log entry 70). -/
def State.stopWork (s : State) : State :=
  let s1 := s.xfer.svcs.foldl State.stopSvc s
  if s1.time.overrunNow ∨ s1.xfer.deferred ≠ 0 then
    ((s1.bump Fd.TIM_OVERRUN_FRAMES).put Fd.TIM_STATUS_OVERRUN 1).occur 2 s1.xfer.deferred
  else s1

/-- R70, R71: 16 wt before the next tick nothing starts any more. -/
def execHardStop (s : State) : Out :=
  if s.time.ticking ∧ s.time.started ∧ s.time.phase ≠ .stopped then .next s.hardStopTime.stopWork else .next s

/-! ### The start of Col (R68, R71, R110, R111, R359) -/

/-- R68: Col begins. `term`: bit p, receiver detect on root port `p` finds termination. A periodic transaction that is still
running makes the frame an overrun frame; slots that are due start if they fit. -/
def execColStart (term : Nat) (s : State) : Out :=
  if s.time.ticking ∧ s.time.started ∧ s.time.phase = .running then
    let late := s.xfer.opens.any fun t => t.kind == .periodic
    let w := s.time.colWt
    let s1 := s.colTime
    let s2 := s1.setTime { s1.time with overrunNow := late }
    let port (t : State) (p : Nat) : State := (t.detectOnce p (bitAt term p)).startSlot p (max w (s.openEnd p))
    .next (foldN port s2 s2.portList).pairCol.sysDone
  else .next s

/-! ### Time commands (R88) -/

/-- TIME_SET: D is the new time minus the boundary as SYSTIME counts it. MODE 0 applies whole; a correction that the loop
put in force at this tick stays beside it (Races). (DEDUCED, log entry 65.) -/
def execTimeSet (id : Nat) (s : State) : Out :=
  .next (s.run id 0x0400 fun c =>
    let mode := c.u 0 1
    let b := s.time.boundary
    s.judged c [(decide (mode > 1 ∨ (mode = 1 ∧ c.u 8 4 > 999999999)), ST.invalid, 0),
        (mode == 1 && decide (2 ≤ s.discState ∧ s.discState ≤ 4), ST.denied, 1)]
      (if mode = 0 then
        let d : Int := ((c.u 4 4 : Int) - (b / 1000000000 : Nat)) * 1000000000
        let s1 := s.applyWhole (d / (periodNs s.period : Int))
        (if s.slewing ∧ ¬ s.time.loopCorr then
          (s1.setTime { s1.time with corrResid := 0 }).put Fd.TIM_STATUS_SLEWING 0
         else s1).okay c []
       else
        let d : Int := (c.u 4 4 * 1000000000 + c.u 8 4 : Nat) - (b : Int)
        ((s.startCorrection d).put Fd.TIM_STATUS_TIME_ESTIMATED 0).replan.okay c []))

def execTimeSetPps (id : Nat) (s : State) : Out :=
  .next (s.run id 0x0403 fun c =>
    let delay := c.i 2 2
    s.judged c [(decide (c.u 0 1 > 1 ∨ c.u 1 1 > 1 ∨ delay.natAbs > 10000 ∨ c.u 4 4 < 100 ∨ c.u 4 4 > 100000 ∨
          c.u 8 4 > 1000000 ∨ c.u 12 4 > 1000000), ST.invalid, 0)]
      ((s.setPps (c.u 0 1) (c.u 1 1) (c.u 2 2) (c.u 4 4) (c.u 8 4) (c.u 12 4)).replan.okay c []))

/-- TIME_ADJUST: accepted only in FREE; STEP is added to the part of the earlier correction not yet applied (R73). -/
def execTimeAdjust (id : Nat) (s : State) : Out :=
  .next (s.run id 0x0404 fun c =>
    s.judged c [(decide ((c.i 0 4).natAbs > 2684354 ∨ (c.i 4 4).natAbs > 500000000), ST.invalid, 0),
        (decide (s.discState ≠ 0), ST.denied, 1)]
      ((((s.setRate (c.i 0 4)).startCorrection (c.i 4 4 + s.corrLeft))).replan.okay c []))

/-! ### The tick -/

/-- Levels of the frame for a port's measurement registers (R332): VS and VP in 10 mV, current in mA as 16-bit two's complement, and
the SNS code. -/
def State.sensePort (s : State) (p : Nat) (m : Nat × Nat × Nat × Nat) : State :=
  let i : Nat := m.2.2.1 % 2 ^ 16
  let peak := max (s.get (Fd.PPW_P_CURR_PEAK p)) (toSigned 16 i).natAbs
  ((((s.put (Fd.PPW_P_VOLT_VS p) m.1).put (Fd.PPW_P_VOLT_VP p) m.2.1).put (Fd.PPW_P_CURR_I p) i).put
    (Fd.PPW_P_CURR_PEAK p) peak).put (Fd.PPW_P_STATUS_SNS p) m.2.2.2

def State.senseAll (s : State) : Nat → List (Nat × Nat × Nat × Nat) → State
  | _, [] => s
  | p, m :: l => (if p < s.ports then s.sensePort p m else s).senseAll (p + 1) l

/-- An OWNER written since the last tick takes effect: a source OFFERED or IN_SERVICE is PENDING for its new owner, and held where it is
masked (R291, R294, Races). A write that leaves OWNER as it was changes no state. -/
def State.ownersTick (s : State) : State :=
  let one (t : State) (n : Nat) : State :=
    let x := t.src n
    match x.ownerNext with
    | some o =>
      let st : SrcState := if x.st = .offered ∨ x.st = .inService then .pending else x.st
      if o = x.owner then t.putSrc n { x with ownerNext := none }
      else (t.putSrc n { x with owner := o, ownerNext := none, st := st, inQueues := [], server := none }).markHeld n
    | none => t
  foldN one s (SMap.keys s.evq.srcs)

/-- RUN of the level sources, and those whose RUN would reach 4,096 (R302). -/
def State.runsTick (s : State) : State :=
  let one (t : State) (n : Nat) : State :=
    let x := t.src n
    if s.levelArg n = 0 then t.putSrc n { x with run := 0, quarDue := false }
    else if x.run ≥ 4095 then t.putSrc n { x with quarDue := !x.quar }
    else t.putSrc n { x with run := x.run + 1 }
  foldN one s ((List.range 27).filter srcLevel)

/-- R53: the hardware watchdog of the active pair counts frames until its firmware claims the tick; the standby's firmware claims
nothing, and restarts its own at every tick. -/
def CtlPair.tick (p : CtlPair) : CtlPair :=
  if p.mode = .active then { p with wd := p.wd + 1 } else if p.mode = .ready then { p with wd := 0 } else p

def State.watchTick (s : State) : State :=
  { s with fw := { s.fw with pairA := s.fw.pairA.tick, pairB := s.fw.pairB.tick } }

/-- R88: a new period takes effect at the first boundary at or after its target whose NS is a multiple of 1,000,000, once
SLEWING is 0; its command completes OK. The SOFs of the frame that begins there, not yet launched, carry the new figures (R75). -/
def execFramePeriodChange (s : State) : Out :=
  match s.time.period with
  | some c =>
    if since32 s.frame c.target < 2 ^ 31 ∧ s.time.boundary % 1000000 = 0 ∧ ¬ s.slewing ∧ s.time.ticking then
      let s1 := (s.put Fd.TIM_CTRL_PERIOD c.code).put Fd.TIM_CTRL_STROBE_OFFSET c.strobe
      let s3 := (s1.setTime { s1.time with period := none }).replan
      .next (match s3.findCmd c.cmd with
        | some k => s3.okay k []
        | none => s3)
    else .next s
  | none => .next s

/-- SOFs of the frame: on every root port in L0 that is not in device mode; after SOF word 15 the scrambler stands at its seed (R95). -/
def State.sendSofs (s : State) : State :=
  let l := s.portList.filter fun p => s.linkState p == 7 && !s.isDm p
  foldN (fun t p => t.editLp p fun x => { x with scr := 0xFFFFFF, scrAt := 16 }) (s.setTime { s.time with sofs := l.map s.sofFor }) l

/-- Commands whose recalibration slot has run complete at the tick after it (R116). -/
def State.recalsTick (s : State) : State := foldN (fun t p => t.endRecals p (·.ran) ST.ok 0 (t.delayBytes p)) s s.portList

/-- LINK_RECALIBRATE on a hub's link: its port is read from the frame that begins 1 ms after the status stage, in each frame; without
L0 within 16 frames of the take it ends FAULT (R116). (DEDUCED, log entry 85.) -/
def State.hubRecalTick (s : State) (h : HubRecal) : State :=
  let drop := { s with tree := { s.tree with hubRecals := s.tree.hubRecals.filter fun x => x.cmd != h.cmd } }
  match s.findCmd h.cmd with
  | none => drop
  | some c =>
    if since32 s.frame c.takeFrame ≥ 16 then drop.finish c ST.fault 10 (zeros 4)
    else
      let busy := s.xfer.ctls.any fun y => y.use == SysUse.command h.cmd && y.result.isNone
      match h.setAt with
      | some f =>
        if since32 s.frame f > s.msFrames 1 ∧ ¬ busy then s.readPort h.link.hub h.link.hport (.command h.cmd) else s
      | none => s

/-- R47: the firmware enables every root port at the first tick of a boot, but not in recovery mode (R50). (DEDUCED, log entry 13.) -/
def State.enableLinks (s : State) (first : Bool) : State :=
  if first ∧ s.mode ≠ 1 then foldN (fun t p => t.put (Fd.LNK_CTRL_EN p) 1) s s.portList else s

/-- No tick has come since this boot: time has not started, is reconstructed, or FRAME_NO has counted on alone. -/
def State.firstTick (s : State) : Bool := !s.time.started || s.time.counting || s.time.waitTick

/-- What the old frame leaves: transactions still open end without an answer, and what waits for the tick takes effect. -/
def State.tickEffects (s : State) : State :=
  let s1 := { s with inst := { s.inst with resetOn := [], portOn := [] } }
  s1.ownersTick.closeOpens.applyStaged.portResets

/-- Links, tree and transfers at the tick. -/
def State.tickBus (s : State) : State :=
  let s0 := ((foldN State.linkTick s s.portList).dropNow s).handleEffects.injTick
  let s1 := s0.pairTick.dropNow s0
  let s2 := s1.ringsTick.finishPins.pagerTick
  let s3 := if s2.mode = 1 then s2 else s2.xferTick.sendSofs
  let s4 := s3.recalsTick.treeTick
  s4.tree.hubRecals.foldl State.hubRecalTick s4

/-- The blocks that follow the tick. -/
def State.tickBlocks (s : State) (mainsLate : Bool) (sense : List (Nat × Nat × Nat × Nat)) : State :=
  let s1 := (s.mainsTick mainsLate).redTick.shareTick
  let s2 := (s1.powerTick.senseAll 0 sense).wakeTick.dvsTick.keepTick.leaveTick.cluTick
  s2.sysDone.runsTick.watchTick.cpAsk .tick

/-- R65: the tick. `mainsLate`: a mains sample's processing is delayed past it (R340). `sense`: the levels of the root ports, in
order (R332). Asleep, while a residual correction is still slewed, only time goes on (R375). (DESIGN CHOICE, log entry 10.) (DEDUCED, log entry 11.) (DESIGN CHOICE, log entry 12.) (DESIGN CHOICE, log entry 185.) -/
def execFrameTick (mainsLate : Bool) (sense : List (Nat × Nat × Nat × Nat)) (s : State) : Out :=
  if ¬ s.time.ticking ∨ s.time.recon then .next s
  else if s.boot.stage = .asleep then .next s.tickTime
  else
    let first := s.firstTick
    let s0 := (if s.time.phase = .stopped ∨ ¬ s.time.started then s else s.stopWork).resultsDue ((s.frame + 1) % 2 ^ 32)
    let s1 := s0.tickTime.opSecTick.tickEffects.enableLinks first
    .next (s1.tickBus.tickBlocks mainsLate sense)

end Sys2Proof.Machine
end

