-- ==== Sys2Proof/Machine/Dispatch.lean ====
section
/-! DEFINITION. The one dispatch: every command to its meaning, one arm each. -/

namespace Sys2Proof.Machine

/-- (DESIGN CHOICE, log entry 9.) (DESIGN CHOICE, log entry 213.) -/
def exec (i : Instr) (s : State) : Host.Outcome State Fault Refusal :=
  match i with
  | .rstNAssert => Sys2Proof.Machine.execRstNAssert s
  | .powerOn => Sys2Proof.Machine.execPowerOn s
  | .rstNRise => Sys2Proof.Machine.execRstNRise s
  | .regulatorsReady => Sys2Proof.Machine.execRegulatorsReady s
  | .referenceReady => Sys2Proof.Machine.execReferenceReady s
  | .pllLock => Sys2Proof.Machine.execPllLock s
  | .imageSelect okA okB => Sys2Proof.Machine.execImageSelect okA okB s
  | .fwRunning elapsed => Sys2Proof.Machine.execFwRunning elapsed s
  | .standbyReadyCheck ok => Sys2Proof.Machine.execStandbyReadyCheck ok s
  | .registerWrite port space off be val => Sys2Proof.Machine.execRegisterWrite port space off be val s
  | .readClear port space off size => Sys2Proof.Machine.execReadClear port space off size s
  | .glbResetWrite port val => Sys2Proof.Machine.execGlbResetWrite port val s
  | .warmReset => Sys2Proof.Machine.execWarmReset s
  | .scrubberRead mem word errs => Sys2Proof.Machine.execScrubberRead mem word errs s
  | .mbxDoorbellWrite port mbx val => Sys2Proof.Machine.execMbxDoorbellWrite port mbx val s
  | .commandTimeout id => Sys2Proof.Machine.execCommandTimeout id s
  | .pendingOutcome id ok code data => Sys2Proof.Machine.execPendingOutcome id ok code data s
  | .unknownOpcode id => Sys2Proof.Machine.execUnknownOpcode id s
  | .sysNop id => Sys2Proof.Machine.execSysNop id s
  | .sysGetInfo id => Sys2Proof.Machine.execSysGetInfo id s
  | .sysGetNonce id => Sys2Proof.Machine.execSysGetNonce id s
  | .sysQueryPending id => Sys2Proof.Machine.execSysQueryPending id s
  | .sysSetMgrPort id => Sys2Proof.Machine.execSysSetMgrPort id s
  | .sysWarmReset id => Sys2Proof.Machine.execSysWarmReset id s
  | .sysKeyProvision id => Sys2Proof.Machine.execSysKeyProvision id s
  | .sysGetPairStatus id => Sys2Proof.Machine.execSysGetPairStatus id s
  | .fwGetSlots id => Sys2Proof.Machine.execFwGetSlots id s
  | .fwStage id => Sys2Proof.Machine.execFwStage id s
  | .fwLoadStandby id => Sys2Proof.Machine.execFwLoadStandby id s
  | .fwSwitch id => Sys2Proof.Machine.execFwSwitch id s
  | .fwCommit id => Sys2Proof.Machine.execFwCommit id s
  | .nonceExpiry => Sys2Proof.Machine.execNonceExpiry s
  | .lockstepMismatch pair => Sys2Proof.Machine.execLockstepMismatch pair s
  | .pairWatchdogExpiry pair => Sys2Proof.Machine.execPairWatchdogExpiry pair s
  | .standbyTakeover => Sys2Proof.Machine.execStandbyTakeover s
  | .faultedPairSelftest pass => Sys2Proof.Machine.execFaultedPairSelftest pass s
  | .switchStopTaking => Sys2Proof.Machine.execSwitchStopTaking s
  | .handoverStateCheck => Sys2Proof.Machine.execHandoverStateCheck s
  | .switchHandover => Sys2Proof.Machine.execSwitchHandover s
  | .frameTick mainsLate sense => Sys2Proof.Machine.execFrameTick mainsLate sense s
  | .suspendedBoundary => Sys2Proof.Machine.execSuspendedBoundary s
  | .frameOutFall => Sys2Proof.Machine.execFrameOutFall s
  | .ppsOutFall => Sys2Proof.Machine.execPpsOutFall s
  | .colStart term => Sys2Proof.Machine.execColStart term s
  | .hardStop => Sys2Proof.Machine.execHardStop s
  | .slewComplete => Sys2Proof.Machine.execSlewComplete s
  | .ppsEdge dt falling => Sys2Proof.Machine.execPpsEdge dt falling s
  | .holdoverEntry dt => Sys2Proof.Machine.execHoldoverEntry dt s
  | .rtcCalibration dt rtc => Sys2Proof.Machine.execRtcCalibration dt rtc s
  | .runningSnapshot dt rtc => Sys2Proof.Machine.execRunningSnapshot dt rtc s
  | .sleepSnapshot dt rtc => Sys2Proof.Machine.execSleepSnapshot dt rtc s
  | .timeReconstruction rtc => Sys2Proof.Machine.execTimeReconstruction rtc s
  | .framePeriodChange => Sys2Proof.Machine.execFramePeriodChange s
  | .systimeLatchRead port dt => Sys2Proof.Machine.execSystimeLatchRead port dt s
  | .timeSet id => Sys2Proof.Machine.execTimeSet id s
  | .timeGet id => Sys2Proof.Machine.execTimeGet id s
  | .timeSetFramePeriod id => Sys2Proof.Machine.execTimeSetFramePeriod id s
  | .timeSetPps id => Sys2Proof.Machine.execTimeSetPps id s
  | .timeAdjust id => Sys2Proof.Machine.execTimeAdjust id s
  | .timeGetDiscipline id => Sys2Proof.Machine.execTimeGetDiscipline id s
  | .ts1 p body adapted inverted => Sys2Proof.Machine.execTs1 p body adapted inverted s
  | .ts2 p body => Sys2Proof.Machine.execTs2 p body s
  | .pingSend p stamp => Sys2Proof.Machine.execPingSend p stamp s
  | .lnkEcho p body stamp => Sys2Proof.Machine.execLnkEcho p body stamp s
  | .lnkTurn p body => Sys2Proof.Machine.execLnkTurn p body s
  | .trainingTimeout p => Sys2Proof.Machine.execTrainingTimeout p s
  | .detectWaitEnd p => Sys2Proof.Machine.execDetectWaitEnd p s
  | .wordLockGain p => Sys2Proof.Machine.execWordLockGain p s
  | .wordLockLoss p => Sys2Proof.Machine.execWordLockLoss p s
  | .wordError p word => Sys2Proof.Machine.execWordError p word s
  | .lnkIdle p body => Sys2Proof.Machine.execLnkIdle p body s
  | .unknownControlWord p code => Sys2Proof.Machine.execUnknownControlWord p code s
  | .lnkUmark p body => Sys2Proof.Machine.execLnkUmark p body s
  | .recoveryComplete p => Sys2Proof.Machine.execRecoveryComplete p s
  | .recoveryTimeout p => Sys2Proof.Machine.execRecoveryTimeout p s
  | .pm p body => Sys2Proof.Machine.execPm p body s
  | .pmAnswerTimeout p => Sys2Proof.Machine.execPmAnswerTimeout p s
  | .lnkBeacon p => Sys2Proof.Machine.execLnkBeacon p s
  | .lowPowerDetect p found => Sys2Proof.Machine.execLowPowerDetect p found s
  | .recalDue p kind => Sys2Proof.Machine.execRecalDue p kind s
  | .recalSlotComplete p => Sys2Proof.Machine.execRecalSlotComplete p s
  | .lnkRetrainWrite port p val => Sys2Proof.Machine.execLnkRetrainWrite port p val s
  | .linkRecalibrate id => Sys2Proof.Machine.execLinkRecalibrate id s
  | .linkGetStatus id => Sys2Proof.Machine.execLinkGetStatus id s
  | .periodicLaunch p errs word => Sys2Proof.Machine.execPeriodicLaunch p errs word s
  | .bulkLaunch p errs word => Sys2Proof.Machine.execBulkLaunch p errs word s
  | .histLaunch p => Sys2Proof.Machine.execHistLaunch p s
  | .busCommandLaunch p fits => Sys2Proof.Machine.execBusCommandLaunch p fits s
  | .packetReceive p addr sop words bad ended abort => Sys2Proof.Machine.execPacketReceive p addr sop words bad ended abort s
  | .handshake p addr body => Sys2Proof.Machine.execHandshake p addr body s
  | .responseWindowClose p addr => Sys2Proof.Machine.execResponseWindowClose p addr s
  | .controlDeadline p addr => Sys2Proof.Machine.execControlDeadline p addr s
  | .enumerationStart p => Sys2Proof.Machine.execEnumerationStart p s
  | .enumerationRequestComplete p => Sys2Proof.Machine.execEnumerationRequestComplete p s
  | .busResetIdleEnd p => Sys2Proof.Machine.execBusResetIdleEnd p s
  | .dmSof dt bodies => Sys2Proof.Machine.execDmSof dt bodies s
  | .dmStrobe dt => Sys2Proof.Machine.execDmStrobe dt s
  | .dmToken kind target ep => Sys2Proof.Machine.execDmToken kind target ep s
  | .dmSetup sop words bad ended abort => Sys2Proof.Machine.execDmSetup sop words bad ended abort s
  | .dmPacket sop words bad ended abort => Sys2Proof.Machine.execDmPacket sop words bad ended abort s
  | .dmBusReset => Sys2Proof.Machine.execDmBusReset s
  | .dmArmWrite port n val => Sys2Proof.Machine.execDmArmWrite port n val s
  | .dmRemoteWakeWrite port val => Sys2Proof.Machine.execDmRemoteWakeWrite port val s
  | .dmStrobeLatchRead port => Sys2Proof.Machine.execDmStrobeLatchRead port s
  | .treeGetTopology id => Sys2Proof.Machine.execTreeGetTopology id s
  | .treeEnumerate id => Sys2Proof.Machine.execTreeEnumerate id s
  | .treePortReset id => Sys2Proof.Machine.execTreePortReset id s
  | .treeSuspend id => Sys2Proof.Machine.execTreeSuspend id s
  | .treeResume id => Sys2Proof.Machine.execTreeResume id s
  | .treeDeviceMode id => Sys2Proof.Machine.execTreeDeviceMode id s
  | .treeControlXfer id => Sys2Proof.Machine.execTreeControlXfer id s
  | .treeRemoveDevice id => Sys2Proof.Machine.execTreeRemoveDevice id s
  | .ringDoorbell port inst entry value => Sys2Proof.Machine.execRingDoorbell port inst entry value s
  | .openEntry port inst entry value => Sys2Proof.Machine.execOpenEntry port inst entry value s
  | .closeEntry port inst entry value => Sys2Proof.Machine.execCloseEntry port inst entry value s
  | .ackRing port inst entry value => Sys2Proof.Machine.execAckRing port inst entry value s
  | .descriptorStart inst entry => Sys2Proof.Machine.execDescriptorStart inst entry s
  | .descriptorTimeout inst entry => Sys2Proof.Machine.execDescriptorTimeout inst entry s
  | .completionRecordWrite ok => Sys2Proof.Machine.execCompletionRecordWrite ok s
  | .inSlotWrite ok errs word => Sys2Proof.Machine.execInSlotWrite ok errs word s
  | .outSlotFetch key => Sys2Proof.Machine.execOutSlotFetch key s
  | .outSlotResultWrite ok => Sys2Proof.Machine.execOutSlotResultWrite ok s
  | .hostReadTimeout tag => Sys2Proof.Machine.execHostReadTimeout tag s
  | .grantHandle port => Sys2Proof.Machine.execGrantHandle port s
  | .releaseHandle port => Sys2Proof.Machine.execReleaseHandle port s
  | .modifyHandle port => Sys2Proof.Machine.execModifyHandle port s
  | .queryHandle port => Sys2Proof.Machine.execQueryHandle port s
  | .allocResponsePost ans => Sys2Proof.Machine.execAllocResponsePost ans s
  | .handleReleaseEffect => Sys2Proof.Machine.execHandleReleaseEffect s
  | .addressHoldbackExpiry => Sys2Proof.Machine.execAddressHoldbackExpiry s
  | .pageInIssue => Sys2Proof.Machine.execPageInIssue s
  | .pageDirectoryComplete tag ok data => Sys2Proof.Machine.execPageDirectoryComplete tag ok data s
  | .pageInComplete tag ok data => Sys2Proof.Machine.execPageInComplete tag ok data s
  | .pageInRetry => Sys2Proof.Machine.execPageInRetry s
  | .pageLate key => Sys2Proof.Machine.execPageLate key s
  | .writeBackRetry ok => Sys2Proof.Machine.execWriteBackRetry ok s
  | .allocSetPolicy id => Sys2Proof.Machine.execAllocSetPolicy id s
  | .allocGetPolicy id => Sys2Proof.Machine.execAllocGetPolicy id s
  | .allocPinContexts id => Sys2Proof.Machine.execAllocPinContexts id s
  | .allocUnpinContexts id => Sys2Proof.Machine.execAllocUnpinContexts id s
  | .allocGetLoad id => Sys2Proof.Machine.execAllocGetLoad id s
  | .drainDeadline => Sys2Proof.Machine.execDrainDeadline s
  | .bulkInWrite ok errs word => Sys2Proof.Machine.execBulkInWrite ok errs word s
  | .bulkOutFetch key => Sys2Proof.Machine.execBulkOutFetch key s
  | .dmaDoorbell port via ch val => Sys2Proof.Machine.execDmaDoorbell port via ch val s
  | .dmaCqAck port via ch val => Sys2Proof.Machine.execDmaCqAck port via ch val s
  | .dmaStop port via ch => Sys2Proof.Machine.execDmaStop port via ch s
  | .dmaEnable port via ch => Sys2Proof.Machine.execDmaEnable port via ch s
  | .dmaDescriptorStart ch => Sys2Proof.Machine.execDmaDescriptorStart ch s
  | .dmaReadCompletion tag ok data wok mem word errs => Sys2Proof.Machine.execDmaReadCompletion tag ok data wok mem word errs s
  | .dmaDescriptorEnd ch ok => Sys2Proof.Machine.execDmaDescriptorEnd ch ok s
  | .dmaRecordWrite ch ok => Sys2Proof.Machine.execDmaRecordWrite ch ok s
  | .runDeadline => Sys2Proof.Machine.execRunDeadline s
  | .gatherComplete errs => Sys2Proof.Machine.execGatherComplete errs s
  | .nodeStart core => Sys2Proof.Machine.execNodeStart core s
  | .nodeComplete core errs => Sys2Proof.Machine.execNodeComplete core errs s
  | .emitSlotWrite ok => Sys2Proof.Machine.execEmitSlotWrite ok s
  | .traceRecordWrite ok => Sys2Proof.Machine.execTraceRecordWrite ok s
  | .traceRecordDrop => Sys2Proof.Machine.execTraceRecordDrop s
  | .graphSwapEffect => Sys2Proof.Machine.execGraphSwapEffect s
  | .graphLoad id => Sys2Proof.Machine.execGraphLoad id s
  | .graphSwap id => Sys2Proof.Machine.execGraphSwap id s
  | .graphUnload id => Sys2Proof.Machine.execGraphUnload id s
  | .graphGetStats id => Sys2Proof.Machine.execGraphGetStats id s
  | .graphTraceConfig id => Sys2Proof.Machine.execGraphTraceConfig id s
  | .instanceReset inst => Sys2Proof.Machine.execInstanceReset inst s
  | .functionLevelReset port => Sys2Proof.Machine.execFunctionLevelReset port s
  | .dataLinkDown port => Sys2Proof.Machine.execDataLinkDown port s
  | .perstAssert port => Sys2Proof.Machine.execPerstAssert port s
  | .instCreate id => Sys2Proof.Machine.execInstCreate id s
  | .instDestroy id => Sys2Proof.Machine.execInstDestroy id s
  | .instReset id => Sys2Proof.Machine.execInstReset id s
  | .instGet id => Sys2Proof.Machine.execInstGet id s
  | .instResize id => Sys2Proof.Machine.execInstResize id s
  | .instGetPool id => Sys2Proof.Machine.execInstGetPool id s
  | .eventCommit => Sys2Proof.Machine.execEventCommit s
  | .eventRecordWrite ok => Sys2Proof.Machine.execEventRecordWrite ok s
  | .msixUnmask port vec => Sys2Proof.Machine.execMsixUnmask port vec s
  | .holdoffExpiry src => Sys2Proof.Machine.execHoldoffExpiry src s
  | .quarantine src => Sys2Proof.Machine.execQuarantine src s
  | .evqClaim port via q => Sys2Proof.Machine.execEvqClaim port via q s
  | .evqComplete port via q val => Sys2Proof.Machine.execEvqComplete port via q val s
  | .evqCons port via q val => Sys2Proof.Machine.execEvqCons port via q val s
  | .evqSet port via src => Sys2Proof.Machine.execEvqSet port via src s
  | .evqQuarClear port via src => Sys2Proof.Machine.execEvqQuarClear port via src s
  | .evqQueueEnable port via q val => Sys2Proof.Machine.execEvqQueueEnable port via q val s
  | .wakeLatchSet n level dt rtc => Sys2Proof.Machine.execWakeLatchSet n level dt rtc s
  | .wakeStampCapture rtc => Sys2Proof.Machine.execWakeStampCapture rtc s
  | .cpClaim => Sys2Proof.Machine.execCpClaim s
  | .cpComplete req => Sys2Proof.Machine.execCpComplete req s
  | .snsWindowEnter p => Sys2Proof.Machine.execSnsWindowEnter p s
  | .snsAttach p vp => Sys2Proof.Machine.execSnsAttach p vp s
  | .snsDetach p sns => Sys2Proof.Machine.execSnsDetach p sns s
  | .drpToggle p => Sys2Proof.Machine.execDrpToggle p s
  | .capsSend p => Sys2Proof.Machine.execCapsSend p s
  | .capsRepeat p => Sys2Proof.Machine.execCapsRepeat p s
  | .vpInWindow p => Sys2Proof.Machine.execVpInWindow p s
  | .goodRx p hdr => Sys2Proof.Machine.execGoodRx p hdr s
  | .srcCaps p hdr objs => Sys2Proof.Machine.execSrcCaps p hdr objs s
  | .snkCaps p hdr objs => Sys2Proof.Machine.execSnkCaps p hdr objs s
  | .snsRequest p hdr objs => Sys2Proof.Machine.execSnsRequest p hdr objs s
  | .snsAccept p hdr objs => Sys2Proof.Machine.execSnsAccept p hdr objs s
  | .snsReject p hdr objs => Sys2Proof.Machine.execSnsReject p hdr objs s
  | .snsWait p hdr objs => Sys2Proof.Machine.execSnsWait p hdr objs s
  | .psReady p hdr objs => Sys2Proof.Machine.execPsReady p hdr objs s
  | .getSrcCaps p hdr objs => Sys2Proof.Machine.execGetSrcCaps p hdr objs s
  | .getSnkCaps p hdr objs => Sys2Proof.Machine.execGetSnkCaps p hdr objs s
  | .prSwap p hdr objs => Sys2Proof.Machine.execPrSwap p hdr objs s
  | .softReset p hdr objs => Sys2Proof.Machine.execSoftReset p hdr objs s
  | .notSupported p hdr objs => Sys2Proof.Machine.execNotSupported p hdr objs s
  | .snsAlert p hdr objs => Sys2Proof.Machine.execSnsAlert p hdr objs s
  | .frSwap p hdr objs => Sys2Proof.Machine.execFrSwap p hdr objs s
  | .hardReset p => Sys2Proof.Machine.execHardReset p s
  | .messageRetry p => Sys2Proof.Machine.execMessageRetry p s
  | .snsCollision p => Sys2Proof.Machine.execSnsCollision p s
  | .backoffExpiry p => Sys2Proof.Machine.execBackoffExpiry p s
  | .snkPsrExpiry p => Sys2Proof.Machine.execSnkPsrExpiry p s
  | .waitAgainExpiry p => Sys2Proof.Machine.execWaitAgainExpiry p s
  | .trequestExpiry p => Sys2Proof.Machine.execTrequestExpiry p s
  | .swapPsReadyTimeout p => Sys2Proof.Machine.execSwapPsReadyTimeout p s
  | .swapContractTimeout p => Sys2Proof.Machine.execSwapContractTimeout p s
  | .protectionTrip p cause => Sys2Proof.Machine.execProtectionTrip p cause s
  | .retryDelayExpiry p => Sys2Proof.Machine.execRetryDelayExpiry p s
  | .frsTrigger p vs pfi => Sys2Proof.Machine.execFrsTrigger p vs pfi s
  | .frsRecognition p => Sys2Proof.Machine.execFrsRecognition p s
  | .frsTurnOn p => Sys2Proof.Machine.execFrsTurnOn p s
  | .frsCancel p => Sys2Proof.Machine.execFrsCancel p s
  | .frsContractExpiry p => Sys2Proof.Machine.execFrsContractExpiry p s
  | .hardResetDischarged p => Sys2Proof.Machine.execHardResetDischarged p s
  | .deadBatteryStart => Sys2Proof.Machine.execDeadBatteryStart s
  | .pwrGetPort id => Sys2Proof.Machine.execPwrGetPort id s
  | .pwrSetPolicy id => Sys2Proof.Machine.execPwrSetPolicy id s
  | .pwrRequestContract id => Sys2Proof.Machine.execPwrRequestContract id s
  | .pwrRoleSwap id => Sys2Proof.Machine.execPwrRoleSwap id s
  | .pwrHardReset id => Sys2Proof.Machine.execPwrHardReset id s
  | .pwrSetLimits id => Sys2Proof.Machine.execPwrSetLimits id s
  | .pwrPortOff id => Sys2Proof.Machine.execPwrPortOff id s
  | .urmsWindowEnd dt => Sys2Proof.Machine.execUrmsWindowEnd dt s
  | .zeroCrossing dt => Sys2Proof.Machine.execZeroCrossing dt s
  | .tenCycleEnd => Sys2Proof.Machine.execTenCycleEnd s
  | .tenSecondEnd => Sys2Proof.Machine.execTenSecondEnd s
  | .calibrationComplete => Sys2Proof.Machine.execCalibrationComplete s
  | .mnsWordLatchRead port => Sys2Proof.Machine.execMnsWordLatchRead port s
  | .mnsEvtLatchRead port => Sys2Proof.Machine.execMnsEvtLatchRead port s
  | .mainsConfigure id => Sys2Proof.Machine.execMainsConfigure id s
  | .mainsGetStatus id => Sys2Proof.Machine.execMainsGetStatus id s
  | .mainsSetThresholds id => Sys2Proof.Machine.execMainsSetThresholds id s
  | .mainsCalibrate id => Sys2Proof.Machine.execMainsCalibrate id s
  | .saddleHeartbeat link number frame partner d pfail => Sys2Proof.Machine.execSaddleHeartbeat link number frame partner d pfail s
  | .heartbeatMiss => Sys2Proof.Machine.execHeartbeatMiss s
  | .saddleTime link source sec ns uncert state est delay hops stamp => Sys2Proof.Machine.execSaddleTime link source sec ns uncert state est delay hops stamp s
  | .timeLoss dt => Sys2Proof.Machine.execTimeLoss dt s
  | .timeSourceReturn => Sys2Proof.Machine.execTimeSourceReturn s
  | .saddleMirror items => Sys2Proof.Machine.execSaddleMirror items s
  | .saddleHandover hubs frame => Sys2Proof.Machine.execSaddleHandover hubs frame s
  | .spurLost hub late => Sys2Proof.Machine.execSpurLost hub late s
  | .saddleStop => Sys2Proof.Machine.execSaddleStop s
  | .saddleLinkUp link number count mode delay => Sys2Proof.Machine.execSaddleLinkUp link number count mode delay s
  | .saddleLinkDown link => Sys2Proof.Machine.execSaddleLinkDown link s
  | .pfiNAssert dt => Sys2Proof.Machine.execPfiNAssert dt s
  | .pfiNDeassert => Sys2Proof.Machine.execPfiNDeassert s
  | .pairConfigure id => Sys2Proof.Machine.execPairConfigure id s
  | .pairGetStatus id => Sys2Proof.Machine.execPairGetStatus id s
  | .pairSetNumber id => Sys2Proof.Machine.execPairSetNumber id s
  | .pairTakeover id => Sys2Proof.Machine.execPairTakeover id s
  | .pairRelease id => Sys2Proof.Machine.execPairRelease id s
  | .pairPrepareReplace id => Sys2Proof.Machine.execPairPrepareReplace id s
  | .busKeepEntry => Sys2Proof.Machine.execBusKeepEntry s
  | .busKeepExit => Sys2Proof.Machine.execBusKeepExit s
  | .sleepEntry => Sys2Proof.Machine.execSleepEntry s
  | .wakeTrigger rtc => Sys2Proof.Machine.execWakeTrigger rtc s
  | .rtcAlarm rtc => Sys2Proof.Machine.execRtcAlarm rtc s
  | .regulatorStageComplete => Sys2Proof.Machine.execRegulatorStageComplete s
  | .regulatorTimeout rail rtc => Sys2Proof.Machine.execRegulatorTimeout rail rtc s
  | .oscStageTimeout rtc => Sys2Proof.Machine.execOscStageTimeout rtc s
  | .wakeRetry => Sys2Proof.Machine.execWakeRetry s
  | .dvfsChange => Sys2Proof.Machine.execDvfsChange s
  | .dvsPgAssert dt => Sys2Proof.Machine.execDvsPgAssert dt s
  | .dvsPgTimeout dt => Sys2Proof.Machine.execDvsPgTimeout dt s
  | .railLoss rail => Sys2Proof.Machine.execRailLoss rail s
  | .railLossReboot => Sys2Proof.Machine.execRailLossReboot s
  | .vaoLoss => Sys2Proof.Machine.execVaoLoss s
  | .pdGetState id => Sys2Proof.Machine.execPdGetState id s
  | .pdSetState id => Sys2Proof.Machine.execPdSetState id s
  | .pdSetDvfs id => Sys2Proof.Machine.execPdSetDvfs id s
  | .pdSleep id => Sys2Proof.Machine.execPdSleep id s
  | .pdSetWake id => Sys2Proof.Machine.execPdSetWake id s
  | .cairnRecordWrite r1 r2 h1 h2 l1 l2 => Sys2Proof.Machine.execCairnRecordWrite r1 r2 h1 h2 l1 l2 s
  | .mergeRewrite r1 r2 l1 l2 => Sys2Proof.Machine.execMergeRewrite r1 r2 l1 l2 s
  | .headerRefresh h1 h2 l1 l2 => Sys2Proof.Machine.execHeaderRefresh h1 h2 l1 l2 s
  | .freezeExpiry => Sys2Proof.Machine.execFreezeExpiry s
  | .crnGetInfo id => Sys2Proof.Machine.execCrnGetInfo id s
  | .crnFreeze id => Sys2Proof.Machine.execCrnFreeze id s
  | .crnRead id => Sys2Proof.Machine.execCrnRead id s
  | .crnUnfreeze id => Sys2Proof.Machine.execCrnUnfreeze id s
  | .crnClear id => Sys2Proof.Machine.execCrnClear id s
  | .unlockExpiry => Sys2Proof.Machine.execUnlockExpiry s
  | .injectionEnd kind => Sys2Proof.Machine.execInjectionEnd kind s
  | .bistComplete failed mems ports saddle word errors damaged => Sys2Proof.Machine.execBistComplete failed mems ports saddle word errors damaged s
  | .jtagInstructionLoad ins => Sys2Proof.Machine.execJtagInstructionLoad ins s
  | .scrUnlock id => Sys2Proof.Machine.execScrUnlock id s
  | .scrLock id => Sys2Proof.Machine.execScrLock id s
  | .scrInject id => Sys2Proof.Machine.execScrInject id s
  | .bistRun id => Sys2Proof.Machine.execBistRun id s
  | .bistGetResult id => Sys2Proof.Machine.execBistGetResult id s
  | .snsWindowLeave p sns => Sys2Proof.Machine.execSnsWindowLeave p sns s
  | .frsSignalEnd p => Sys2Proof.Machine.execFrsSignalEnd p s
  | .dmHandshake code addr => Sys2Proof.Machine.execDmHandshake code addr s
  | .lnkPing p body turn => Sys2Proof.Machine.execLnkPing p body turn s
  | .mainsSample dt v0 v1 v2 v3 => Sys2Proof.Machine.execMainsSample dt v0 v1 v2 v3 s
  | .hostReadCompletion tag ok data => Sys2Proof.Machine.execHostReadCompletion tag ok data s
  | .vinPdLoss => Sys2Proof.Machine.execVinPdLoss s
  | .partnerAllocRequest key k words modify => Sys2Proof.Machine.execPartnerAllocRequest key k words modify s

end Sys2Proof.Machine
end

