-- ==== Sys2Proof/Laws/Bits.lean ====
section
/-! SUPPORT. Laws of the bit fields of a register word (R4): a field written reads as the value's low bits, and every bit outside it
stands. -/

namespace Sys2Proof.Machine

theorem testBit_bits (w : Word) (hi lo i : Nat) : (bits w hi lo).testBit i = (decide (i < hi - lo + 1) && w.getLsbD (lo + i)) := by
  simp only [bits, Nat.testBit_mod_two_pow, Nat.testBit_shiftRight, BitVec.testBit_toNat]

theorem getLsbD_bitMask (hi lo j : Nat) : (bitMask hi lo).getLsbD j = (decide (j < 32) && (decide (lo ≤ j) && decide (j - lo < hi - lo + 1))) := by
  simp only [bitMask, BitVec.getLsbD_ofNat, Nat.testBit_shiftLeft, Nat.testBit_two_pow_sub_one, ge_iff_le]

theorem getLsbD_setBits (w : Word) (hi lo v j : Nat) (hj : j < 32) :
    (setBits w hi lo v).getLsbD j = if lo ≤ j ∧ j - lo < hi - lo + 1 then v.testBit (j - lo) else w.getLsbD j := by
  simp only [setBits, BitVec.getLsbD_or, BitVec.getLsbD_and, BitVec.getLsbD_not, getLsbD_bitMask, BitVec.getLsbD_ofNat, hj,
    decide_true, Bool.true_and, Nat.testBit_shiftLeft, Nat.testBit_mod_two_pow, ge_iff_le]
  by_cases h1 : lo ≤ j <;> by_cases h2 : j - lo < hi - lo + 1 <;> simp [h1, h2]

/-- The field written. -/
theorem bits_setBits_same (w : Word) (hi lo v : Nat) (h : hi < 32) (hl : lo ≤ hi) :
    bits (setBits w hi lo v) hi lo = v % 2 ^ (hi - lo + 1) := by
  apply Nat.eq_of_testBit_eq
  intro i
  rw [testBit_bits, Nat.testBit_mod_two_pow]
  by_cases hi' : i < hi - lo + 1
  · rw [getLsbD_setBits _ _ _ _ _ (by omega), if_pos (by omega), Nat.add_sub_cancel_left]
  · simp [hi']

/-- A field beside it. -/
theorem bits_setBits_other (w : Word) (hi lo v hi' lo' : Nat) (h : hi' < 32) (hl : lo ≤ hi) (hl' : lo' ≤ hi')
    (hd : hi' < lo ∨ hi < lo') : bits (setBits w hi lo v) hi' lo' = bits w hi' lo' := by
  apply Nat.eq_of_testBit_eq
  intro i
  rw [testBit_bits, testBit_bits]
  by_cases hi'' : i < hi' - lo' + 1
  · rw [getLsbD_setBits _ _ _ _ _ (by omega), if_neg (by omega)]
  · simp [hi'']

end Sys2Proof.Machine
end

