-- ==== Sys2Proof/Laws/SMap.lean ====
section
/-! SUPPORT. Laws of the sparse arrays and memories: a write keeps the canonical form; a read after a write gives the value written
at its key and what stood there before at every other. -/

namespace Sys2Proof.Laws

open Sys2Proof.Machine

variable {α : Type} [DecidableEq α] {d : Nat → α}

theorem wfFrom_mono {lo : Option Nat} {k : Nat} {m : SMap α} (h : SMap.wfFrom d (some k) m = true)
    (hk : ∀ l, lo = some l → l ≤ k) : SMap.wfFrom d lo m = true := by
  cases m with
  | nil => rfl
  | cons x t =>
    simp only [SMap.wfFrom, Bool.and_eq_true, decide_eq_true_eq] at h ⊢
    refine ⟨⟨?_, h.1.2⟩, h.2⟩
    cases lo with
    | none => rfl
    | some l => have := hk l rfl; simp; omega

theorem wfFrom_filter (p : Nat × α → Bool) (m : SMap α) (lo : Option Nat) (h : SMap.wfFrom d lo m = true) :
    SMap.wfFrom d lo (m.filter p) = true := by
  induction m generalizing lo with
  | nil => rfl
  | cons x t ih =>
    obtain ⟨j, w⟩ := x
    have h0 := h
    simp only [SMap.wfFrom, Bool.and_eq_true] at h
    by_cases hp : p (j, w) = true
    · rw [List.filter_cons_of_pos hp]
      simp only [SMap.wfFrom, Bool.and_eq_true]
      exact ⟨h.1, ih (some j) h.2⟩
    · rw [List.filter_cons_of_neg hp]
      refine ih lo ?_
      cases lo with
      | none => exact wfFrom_mono h.2 fun l hl => by cases hl
      | some l =>
        refine wfFrom_mono h.2 fun l' hl => ?_
        cases hl
        have := h.1.1
        simp only [decide_eq_true_eq] at this
        omega

theorem wfFrom_insert (k : Nat) (v : α) (hv : v ≠ d k) (m : SMap α) (lo : Option Nat) (hlo : ∀ l, lo = some l → l < k)
    (h : SMap.wfFrom d lo m = true) : SMap.wfFrom d lo (SMap.insert k v m) = true := by
  induction m generalizing lo with
  | nil =>
    cases lo with
    | none => simp [SMap.insert, SMap.wfFrom, hv]
    | some l => simp [SMap.insert, SMap.wfFrom, hv, hlo l rfl]
  | cons x t ih =>
    obtain ⟨j, w⟩ := x
    simp only [SMap.wfFrom, Bool.and_eq_true] at h
    simp only [SMap.insert]
    split
    · next hkj =>
      simp only [SMap.wfFrom, Bool.and_eq_true]
      refine ⟨⟨?_, by simp [hv]⟩, ⟨⟨by simp [hkj], h.1.2⟩, h.2⟩⟩
      cases lo with
      | none => rfl
      | some l => simp [hlo l rfl]
    · split
      · next hkj =>
        subst hkj
        simp only [SMap.wfFrom, Bool.and_eq_true]
        exact ⟨⟨h.1.1, by simp [hv]⟩, h.2⟩
      · simp only [SMap.wfFrom, Bool.and_eq_true]
        exact ⟨h.1, ih (some j) (fun l hl => by cases hl; omega) h.2⟩

/-- A write keeps the canonical form. -/
theorem wf_put (k : Nat) (v : α) (m : SMap α) (h : SMap.wf d m = true) : SMap.wf d (SMap.put d k v m) = true := by
  unfold SMap.put
  split
  · exact wfFrom_filter _ m none h
  · next hv => exact wfFrom_insert k v hv m none (fun _ hl => by cases hl) h

/-- A memory write keeps the canonical form. -/
theorem wf_write (e : Nat → Byte) (m : Memory) (a : Nat) (bs : List Byte) (h : SMap.wf e m = true) :
    SMap.wf e (Memory.write e m a bs) = true := by
  induction bs generalizing m a with
  | nil => exact h
  | cons b bs ih => exact ih _ _ (wf_put a b m h)

omit [DecidableEq α] in
theorem get_insert (k j : Nat) (v : α) (m : SMap α) :
    SMap.get d (SMap.insert k v m) j = if j = k then v else SMap.get d m j := by
  induction m with
  | nil => simp only [SMap.insert, SMap.get, eq_comm]
  | cons x t ih =>
    obtain ⟨i, w⟩ := x
    simp only [SMap.insert]
    split
    · simp only [SMap.get, eq_comm (a := k)]
    · split
      · next h => subst h; simp only [SMap.get, eq_comm (a := k)]; split <;> rfl
      · simp only [SMap.get, ih]; split <;> (try split) <;> first | rfl | omega

omit [DecidableEq α] in
theorem get_erase (k j : Nat) (m : SMap α) :
    SMap.get d (m.filter fun x => x.1 != k) j = if j = k then d k else SMap.get d m j := by
  induction m with
  | nil => simp only [List.filter_nil, SMap.get]; split <;> simp_all
  | cons x t ih =>
    obtain ⟨i, w⟩ := x
    by_cases hi : i = k
    · subst hi
      rw [List.filter_cons_of_neg (by simp), ih]
      split
      · rfl
      · simp only [SMap.get]; rw [if_neg (by omega)]
    · rw [List.filter_cons_of_pos (by simp [hi])]
      simp only [SMap.get, ih]
      split <;> (try split) <;> first | rfl | omega

/-- Reading any key after a write. -/
theorem get_put (k j : Nat) (v : α) (m : SMap α) :
    SMap.get d (SMap.put d k v m) j = if j = k then v else SMap.get d m j := by
  unfold SMap.put
  split
  · next hv => rw [get_erase, hv]
  · exact get_insert k j v m

@[simp] theorem get_put_same (k : Nat) (v : α) (m : SMap α) : SMap.get d (SMap.put d k v m) k = v := by
  rw [get_put, if_pos rfl]

theorem get_put_other (k j : Nat) (v : α) (m : SMap α) (hj : j ≠ k) : SMap.get d (SMap.put d k v m) j = SMap.get d m j := by
  rw [get_put, if_neg hj]

/-- A byte outside the bytes written reads as before. -/
theorem get_write_other (e : Nat → Byte) (m : Memory) (a k : Nat) (bs : List Byte) (h : k < a ∨ a + bs.length ≤ k) :
    SMap.get e (Memory.write e m a bs) k = SMap.get e m k := by
  induction bs generalizing m a with
  | nil => rfl
  | cons b bs ih =>
    simp only [List.length_cons] at h
    rw [Memory.write, ih _ _ (by omega), get_put_other _ _ _ _ (by omega)]

/-- Bytes just written read back. -/
theorem read_write (e : Nat → Byte) (m : Memory) (a : Nat) (bs : List Byte) :
    Memory.read e (Memory.write e m a bs) a bs.length = bs := by
  induction bs generalizing m a with
  | nil => rfl
  | cons b bs ih =>
    simp only [List.length_cons, Memory.read, Memory.write]
    rw [ih, get_write_other _ _ _ _ _ (by omega), get_put_same]

/-- Bytes beside the bytes written read as before. -/
theorem read_write_other (e : Nat → Byte) (m : Memory) (a b n : Nat) (bs : List Byte) (h : b + n ≤ a ∨ a + bs.length ≤ b) :
    Memory.read e (Memory.write e m a bs) b n = Memory.read e m b n := by
  induction n generalizing b with
  | zero => rfl
  | succ n ih =>
    simp only [Memory.read]
    rw [get_write_other _ _ _ _ _ (by omega), ih (b + 1) (by omega)]

end Sys2Proof.Laws
end

