-- ==== Sys2Proof/Machine/Scratch.lean ====
section
/-! DEFINITION. The memories of the reduction cluster (09, R244, R245): the areas of the shared scratch, the words of each in use, and what
the local memory of each core holds. The contents stand in `State.red`, area by area; the spec gives no place of a value inside its
area. (DESIGN CHOICE, log entry 251.) -/

namespace Sys2Proof.Machine

/-- An area of the shared scratch (R245). -/
inductive ScratchArea where
  | tables     -- graph table banks 0 and 1
  | runs       -- run areas 0 and 1
  | state      -- node state of each bank's graph
  | delay      -- delay list
  | staging    -- result slots and trace records
  | commands   -- command queue
  deriving DecidableEq, Repr

def ScratchArea.all : List ScratchArea := [.tables, .runs, .state, .delay, .staging, .commands]

/-- First word location of an area. -/
def ScratchArea.base : ScratchArea → Nat
  | .tables => 0x00000
  | .runs => 0x08000
  | .state => 0x14000
  | .delay => 0x1A000
  | .staging => 0x1B000
  | .commands => 0x1F000

/-- Word locations of an area. -/
def ScratchArea.words : ScratchArea → Nat
  | .tables => 32768
  | .runs => 49152
  | .state => 24576
  | .delay => 4096
  | .staging => 16384
  | .commands => 4096

/-- Word locations of the shared scratch, and of each core's local memory (R244). -/
def scratchWords : Nat := 131072
def localWords : Nat := 8192

/-- The area that a word location belongs to. -/
def scratchArea (w : Nat) : Option ScratchArea :=
  ScratchArea.all.find? fun a => decide (a.base ≤ w ∧ w < a.base + a.words)

/-- First word location of bank `b`'s graph table, of run area `n` mod 2, and of bank `b`'s node state (R245, R254). -/
def tableBase (b : Nat) : Nat := ScratchArea.tables.base + 16384 * (b % 2)
def runBase (n : Nat) : Nat := ScratchArea.runs.base + 24576 * (n % 2)
def stateBase (b : Nat) : Nat := ScratchArea.state.base + 12288 * (b % 2)

/-- Words of a bank's graph table (R250). -/
def GBank.tableWords (g : GBank) : Nat := 16 + 8 * g.nodes.length + g.pool.length

/-- Words that an area holds at present. A result slot beyond the staging area's size still waits for its place there. -/
def Red.areaUsed (r : Red) : ScratchArea → Nat
  | .tables => ([r.bank0, r.bank1].filterMap id).foldl (fun n g => n + g.tableWords) 0
  | .runs => r.live.foldl (fun n x => n + valueFp (r.nodes x.bank)) 0
  | .state => ([r.bank0, r.bank1].filterMap id).foldl (fun n g => n + stateFp (g.nodes.map (·.outLen)) g.nodes) 0
  | .delay => 4 * r.delay.length
  | .staging => min r.staged stagingWords
  | .commands => r.queued

/-- The local memory of core `c` (R245): the inputs of the node in progress, which its run area gives, the words its outputs take, written
as it completes (R256), and a copy of the state of every node that the core ran last (bank, node, state words by element). A copy equals the shared word: a node's state changes only as a core
completes it, which then is the core that ran it last (R257). -/
structure GLocal where
  inputs : List RVal
  out    : Nat
  copies : List (Nat × Nat × SMap (List Int))
  deriving DecidableEq, Repr

def Red.localOf (r : Red) (c : Nat) : GLocal :=
  let ins := match (r.core c).busy with
    | some y => ((r.run y.run).bind fun x => (r.node x.bank y.node).map fun g =>
        ([g.a, g.b, g.c].filterMap id).map fun k => SMap.get (fun _ => []) x.out k).getD []
    | none => []
  let out := match (r.core c).busy with
    | some y => (((r.run y.run).bind fun x => r.node x.bank y.node).map (·.outLen)).getD 0
    | none => 0
  { inputs := ins
    out := out + (out + 23) / 24
    copies := [0, 1].flatMap fun b => match r.bank b with
      | some g => (List.range g.nodes.length).filterMap fun i =>
          if SMap.get (fun _ => 0) g.aff i = c + 1 then some (b, i, SMap.get (fun _ => []) g.st i) else none
      | none => [] }

end Sys2Proof.Machine
end

