-- ==== Sys2Proof/Machine/Tarn.lean ====
section
/-! DEFINITION. Tarn's fixed regions (R19) and the view of its bytes. A region whose contents the spec lays out byte by byte reads as
those bytes; `State.tarn` holds the time and firmware persistent regions themselves. -/

namespace Sys2Proof.Machine

inductive TarnRegion where
  | time | shadow | hold | boot | save | firmware
  deriving DecidableEq, Repr

inductive TarnWriter where
  | timeUnit | cairn | activePair | saveLogic
  deriving DecidableEq, Repr

/-- R19: first offset and size of each region. -/
def TarnRegion.span : TarnRegion → Nat × Nat
  | .time => (0x0000, 0x400)
  | .shadow => (0x0400, 0x200)
  | .hold => (0x0600, 0x400)
  | .boot => (0x0A00, 0x200)
  | .save => (0x0C00, 0xB400)
  | .firmware => (0xC000, 0x4000)

/-- R19: the one writer of each region. -/
def TarnRegion.writer : TarnRegion → TarnWriter
  | .time => .timeUnit
  | .shadow | .hold => .cairn
  | .boot | .firmware => .activePair
  | .save => .saveLogic

/-- The region of an offset; none above 64 KiB. -/
def tarnRegion (a : Nat) : Option TarnRegion :=
  [TarnRegion.time, .shadow, .hold, .boot, .save, .firmware].find? fun r => r.span.1 ≤ a && a < r.span.1 + r.span.2

/-- The shadow ring's 16 slots: a record stands in slot SEQ mod 16. (DESIGN CHOICE, log entry 243.) -/
def State.shadowSlot (s : State) (k : Nat) : List Byte :=
  match s.cairn.shadow.reverse.find? fun x => x.1 % 16 == k with
  | some x => recBytes x.1 x.2
  | none => zeros 32

/-- The holding queue's 32 slots, oldest first; a record that waits has no SEQ yet. (DESIGN CHOICE, log entry 243.) -/
def State.holdSlot (s : State) (k : Nat) : List Byte :=
  match s.cairn.hold[k]? with
  | some x => recBytes 0 x.1
  | none => zeros 32

/-- R376: the regions of the save area before its header: first offset and size. -/
def saveSpans : List (Nat × Nat) :=
  [(0x0C00, 0x1000), (0x1C00, 0x1800), (0x3400, 0x1000), (0x4400, 0x800), (0x4C00, 0x1000), (0x5C00, 0x1000), (0x6C00, 0x5000)]

/-- R376: a region of the save area, which ends with its CRC-32C. -/
def Save.region (v : Save) (o n : Nat) : List Byte :=
  let body := (List.range (n - 4)).map fun k => Config.saveByte v (o + k)
  body ++ leBytes 4 (crc32c body)

/-- The header's own part: MAGIC, the FRAME_NO of E and its CRC-32C (R376; the places inside it: DESIGN CHOICE, log entry 243). -/
def Save.header (v : Save) : List Byte :=
  let body := leBytes 4 0x56444D50 ++ leBytes 4 v.frame
  body ++ leBytes 4 (crc32c body)

/-- The wake-failure capture, under a CRC-32C of its own (R376, R380). -/
def Capture.bytes (c : Capture) : List Byte :=
  let body := leBytes 4 c.fail ++ leBytes 4 c.rtc ++ leBytes 4 (b2n c.pending)
  body ++ leBytes 4 (crc32c body)

/-- An entry of the firmware's journal (R54): mailbox, slot, TAG, generation, whether its status is recorded, and the status. -/
def Journal.bytes (j : Journal) : List Byte :=
  leBytes 1 j.mbx ++ leBytes 1 j.slot ++ leBytes 2 j.tag ++ leBytes 2 j.gen ++ leBytes 1 (b2n j.status.isSome) ++ leBytes 1 (j.status.getD 0)

/-- A byte that Tarn's memory itself holds. -/
def State.rawTarn (s : State) (a : Nat) : Byte := (Memory.read zeroByte s.tarn a 1).getD 0 0

/-- A byte of the save area: what the last sleep entry saved, or what stood there before. -/
def State.saveAreaByte (s : State) (a : Nat) : Byte :=
  if a < 0xBC00 then
    match s.pdm.saved, saveSpans.find? fun r => r.1 ≤ a && a < r.1 + r.2 with
    | some v, some r => (v.region r.1 r.2).getD (a - r.1) 0
    | _, _ => s.rawTarn a
  else if a < 0xBC0C then (match s.pdm.saved with
    | some v => v.header.getD (a - 0xBC00) 0
    | none => s.rawTarn a)
  else if a < 0xBC1C then (match s.pdm.capture with
    | some c => c.bytes.getD (a - 0xBC0C) 0
    | none => s.rawTarn a)
  else s.rawTarn a

/-- First offset of the firmware's journal, 8 bytes an entry, newest first (R54; DESIGN CHOICE, log entry 243). -/
def journalBase : Nat := 0xF000

def State.journalByte (s : State) (a : Nat) : Byte :=
  match s.journal.reverse[(a - journalBase) / 8]? with
  | some j => j.bytes.getD (a % 8) 0
  | none => s.rawTarn a

/-- Byte `a` of Tarn. The bytes of the boot region, which the spec gives no layout, are free; its one writer, the active pair, changes them
as it takes commands. (DESIGN CHOICE, log entry 243.) -/
def State.tarnByte (s : State) (a : Nat) : Byte :=
  match tarnRegion a with
  | some .shadow => (s.shadowSlot ((a - 0x400) / 32)).getD (a % 32) 0
  | some .hold => (s.holdSlot ((a - 0x600) / 32)).getD (a % 32) 0
  | some .boot => Config.tarnBody s.mbx.nextId a
  | some .save => s.saveAreaByte a
  | some .firmware => if journalBase ≤ a then s.journalByte a else s.rawTarn a
  | some .time => s.rawTarn a
  | none => 0

end Sys2Proof.Machine
end

