-- ==== Sys2Proof/Safety.lean ====
section
/-! DEFINITION. What the statements are said in: the canonical form of the memories, when a mailbox command may run, and when an
access through a window arrives. -/

namespace Sys2Proof.Machine

/-- The canonical form of every addressed memory of the block: the mailbox slots, Tarn, Cairn's MRAM and the flash. -/
def State.memOk (s : State) : Bool :=
  Memory.wf s.mbx.slots && Memory.wf s.tarn && Memory.wf s.cairn.mram && SMap.wf erasedByte s.flash

/-- The command `c` is taken under the number `id` with opcode `op`, the active pair serves commands, its effect tick has come, its
work has not begun, no command taken before it is still to take effect at that tick, and its fields that must be 0 are 0 (R33, R36, R38). -/
abbrev State.Ready (s : State) (id op : Nat) (c : Cmd) : Prop :=
  s.findCmd id = some c ∧ c.opcode = op ∧ s.fwServes = true ∧ s.due c = true ∧ c.begun = false ∧ s.turn c = true ∧ c.zeroBroken = false

/-- As `Ready`, in any frame from the take on. -/
abbrev State.ReadyNow (s : State) (id op : Nat) (c : Cmd) : Prop :=
  s.findCmd id = some c ∧ c.opcode = op ∧ s.fwServes = true ∧ c.begun = false ∧ c.zeroBroken = false

/-- A good message of TYPE `typ` reaches the attached port `p` for the first time, while the logic die runs (R314, R318, R331). -/
abbrev State.Hears (s : State) (p typ : Nat) (hdr : SnsHead) (objs : List Nat) : Prop :=
  p < s.ports ∧ (s.pp p).attached = true ∧ (s.pp p).rxId ≠ some (snsId hdr) ∧ s.dieRuns = true ∧ snsGood hdr objs = true ∧ snsType hdr = typ

/-- Whether a command's outcome is a next state; the other two stop the machine. -/
def goesOn (o : Out) : Bool := match o with
  | .next _ => true
  | _ => false

/-- The slot that an IN service leaves, written from the bank of frame `bank` (R185, R216, R222). -/
def Svc.slot (v : Svc) (bank result cause : Nat) (ws : List Nat) (fly : Bool) : SlotW :=
  { key := v.key, inst := v.inst, gen := v.gen, entry := v.entry, sframe := v.frame, bank := bank, result := result, fly := fly
    hist := false, cause := cause, words := ws, notRed := false, assured := v.assured }

end Sys2Proof.Machine
end

