-- ==== Sys2Proof/Laws/Ops.lean ====
section
/-! SUPPORT. What the shared operations of the meanings do, said once: the run of a ready command, its judgement, an access that arrives. -/

namespace Sys2Proof.Machine

/-! ### Registers -/

@[simp] theorem rd_wr_same (s : State) (a : Nat) (w : Word) : (s.wr a w).rd a = w := Laws.get_put_same _ _ _

theorem rd_wr_other (s : State) (a b : Nat) (w : Word) (h : b ≠ a) : (s.wr a w).rd b = s.rd b := Laws.get_put_other _ _ _ _ h

/-- A field written in a register. -/
theorem get_put_same (s : State) (f : Fld) (v : Nat) (h : f.hi < 32) (hl : f.lo ≤ f.hi) :
    (s.put f v).get f = v % 2 ^ (f.hi - f.lo + 1) := by
  simp only [State.put, State.get, rd_wr_same, Fld.ex, Fld.ins]
  exact bits_setBits_same _ _ _ _ h hl

/-- A field of another register, or another field of the same. -/
theorem get_put_other (s : State) (f g : Fld) (v : Nat) (h : g.hi < 32) (hl : f.lo ≤ f.hi) (hl' : g.lo ≤ g.hi)
    (hd : g.reg ≠ f.reg ∨ g.hi < f.lo ∨ f.hi < g.lo) : (s.put f v).get g = s.get g := by
  by_cases e : g.reg = f.reg
  · simp only [State.put, State.get, e, rd_wr_same, Fld.ex, Fld.ins]
    exact bits_setBits_other _ _ _ _ _ _ h hl hl' (by omega)
  · simp only [State.put, State.get, rd_wr_other _ _ _ _ e]

theorem rd_put_other (s : State) (f : Fld) (v a : Nat) (h : a ≠ f.reg) : (s.put f v).rd a = s.rd a := rd_wr_other _ _ _ _ h

/-- A field's value fits its field. -/
theorem get_mod (s : State) (f : Fld) : s.get f % 2 ^ (f.hi - f.lo + 1) = s.get f := by
  simp only [State.get, Fld.ex, bits, Nat.mod_mod]

/-- A counter that saturates. -/
theorem get_bump_same (s : State) (f : Fld) (n : Nat) (h : f.hi < 32) (hl : f.lo ≤ f.hi) :
    (s.bump f n).get f = min (s.get f + n) f.max := by
  rw [State.bump, get_put_same _ _ _ h hl]
  apply Nat.mod_eq_of_lt
  have : 0 < 2 ^ (f.hi - f.lo + 1) := Nat.two_pow_pos _
  simp only [Fld.max]; omega

theorem get_bump_other (s : State) (f g : Fld) (n : Nat) (h : g.hi < 32) (hl : f.lo ≤ f.hi) (hl' : g.lo ≤ g.hi)
    (hd : g.reg ≠ f.reg ∨ g.hi < f.lo ∨ f.hi < g.lo) : (s.bump f n).get g = s.get g := get_put_other _ _ _ _ h hl hl' hd

/-! ### Commands -/

/-- A ready command runs its work. -/
theorem run_ready {s : State} {id op : Nat} {c : Cmd} (h : s.Ready id op c) (f : Cmd → State) : s.run id op f = f c := by
  obtain ⟨h1, h2, h3, h4, h5, h6, h7⟩ := h
  simp [State.run, h1, h2, h3, h4, h5, h6, h7]

theorem runNow_ready {s : State} {id op : Nat} {c : Cmd} (h : s.ReadyNow id op c) (f : Cmd → State) : s.runNow id op f = f c := by
  obtain ⟨h1, h2, h3, h5, h7⟩ := h
  simp [State.runNow, h1, h2, h3, h5, h7]

/-- Where no rule is broken the work is done. -/
theorem judged_nil (s : State) (c : Cmd) (go : State) : s.judged c [] go = go := rfl

theorem judged_false (s : State) (c : Cmd) (st d : Nat) (l : List (Bool × Nat × Nat)) (go : State) :
    s.judged c ((false, st, d) :: l) go = s.judged c l go := rfl

/-- The first rule broken gives status and DETAIL. -/
theorem judged_true (s : State) (c : Cmd) (st d : Nat) (l : List (Bool × Nat × Nat)) (go : State) :
    s.judged c ((true, st, d) :: l) go = s.finish c st d [] := rfl

/-- What a judged command can do: it is answered with the first rule broken, or it goes on. -/
theorem judged_cases (s : State) (c : Cmd) (rules : List (Bool × Nat × Nat)) (go : State) :
    s.judged c rules go = go ∨ ∃ st d, (true, st, d) ∈ rules ∧ s.judged c rules go = s.finish c st d [] := by
  induction rules with
  | nil => exact .inl rfl
  | cons r l ih =>
    obtain ⟨b, st, d⟩ := r
    cases b with
    | true => exact .inr ⟨st, d, List.mem_cons_self, rfl⟩
    | false =>
      rcases ih with h | ⟨st', d', hm, h⟩
      · exact .inl h
      · exact .inr ⟨st', d', List.mem_cons_of_mem _ hm, h⟩

theorem hostWriteVia_ok {s : State} {p : Side} {v : Via} (h : s.reach p v = .ok) (go : State) : s.hostWriteVia p v go = go := by
  simp [State.hostWriteVia, h]

theorem hostReadVia_ok {s : State} {p : Side} {v : Via} (h : s.reach p v = .ok) (go : State) : s.hostReadVia p v go = go.replyOn p := by
  simp [State.hostReadVia, h]

end Sys2Proof.Machine
end

