-- ==== Sys2Proof/Certificates/Slice0/Obligations.lean ====
section
/-! DEFINITION. The statements about the block for the provers, one definition each (listed in OBLIGATIONS.json). -/

open Sys2Proof Sys2Proof.Machine

/-- A step runs the command at the front of the queue, with the queue's rest; on an empty queue it idles (the model's choice, log entry
71). The host's placing of a word changes nothing, since no row gives bits (log entry 72). -/
def Obligations.StepRunsTheFront : Prop :=
  (∀ (c : Instr) (rest : List Instr) (s : State), s.pending = c :: rest → step s = exec c { s with pending := rest }) ∧
  (∀ s : State, s.pending = [] → step s = .next s) ∧
  (∀ (s : State) (n w : Nat), s.withFetchWord n w = s)

/-- Every command, in every state and with every operand, has a next state: none stops the block; and no command but the step itself takes
from the queue or adds to it. -/
def Obligations.EveryCommandGoesOn : Prop :=
  ∀ (c : Instr) (s : State), ∃ t : State, exec c s = .next t ∧ t.pending = s.pending ∧ t.part = s.part

/-- The canonical form of every addressed memory (the mailboxes' slots, Tarn, the recorder's MRAM, the flash) is kept by every step. -/
def Obligations.MemoriesStayCanonical : Prop :=
  ∀ s t : State, s.memOk = true → step s = .next t → t.memOk = true

/-- What the machine is at reset: every register at the value of its table (0 where the spec states none, log entry 1), the memories in
canonical form, every mailbox free, and nothing pending. -/
def Obligations.ResetState : Prop :=
  State.reset.memOk = true ∧ State.reset.pending = [] ∧ (∀ a, State.reset.rd a = regReset .k8 a) ∧ State.reset.mbx.taken = [] ∧
  State.reset.devices = [] ∧ (∀ a, SMap.get erasedByte State.reset.flash a = 0xFF)

/-- R43 (its last sentence): the flash is written by FW_STAGE's outcome, FW_COMMIT and SYS_SET_MGR_PORT alone, and the firmware's settings
of the pair by PAIR_CONFIGURE and PAIR_SET_NUMBER alone. The fuses are written by SYS_KEY_PROVISION and FW_COMMIT alone, and Tarn by the
time unit's snapshots, the handover of a switch, and the loss of VAO. -/
def Obligations.WhoWritesWhatLasts : Prop :=
  ∀ (c : Instr) (s t : State), exec c s = .next t →
    ((∀ id ok code data, c ≠ .pendingOutcome id ok code data) → (∀ id, c ≠ .fwCommit id) → (∀ id, c ≠ .sysSetMgrPort id) → t.flash = s.flash) ∧
    ((∀ id, c ≠ .pairConfigure id) → (∀ id, c ≠ .pairSetNumber id) → t.pair.saved = s.pair.saved ∧ t.pair.savedNo = s.pair.savedNo) ∧
    ((∀ id, c ≠ .sysKeyProvision id) → (∀ id, c ≠ .fwCommit id) → t.fw.fuses = s.fw.fuses) ∧
    ((∀ dt rtc, c ≠ .runningSnapshot dt rtc) → (∀ dt rtc, c ≠ .sleepSnapshot dt rtc) → c ≠ .switchStopTaking → c ≠ .vaoLoss → t.tarn = s.tarn)

/-- R66: FRAME_NO changes only by a tick or a boundary that SYSTIME passes while ticks are suspended, one more modulo 2^32 (or to frame 0,
at the first tick of a machine without a reconstructed time), by the reconstruction of the time, and by what starts the logic die anew. -/
def Obligations.FrameNumber : Prop :=
  ∀ (c : Instr) (s t : State), exec c s = .next t → t.frame = s.frame ∨
    ((∃ l x, c = .frameTick l x) ∧ (t.frame = (s.frame + 1) % 2 ^ 32 ∨ (t.frame = 0 ∧ s.time.started = false))) ∨
    (c = .suspendedBoundary ∧ t.frame = (s.frame + 1) % 2 ^ 32) ∨ (∃ r, c = .timeReconstruction r) ∨
    (t.frame = 0 ∧ (c = .powerOn ∨ c = .rstNAssert ∨ c = .vaoLoss ∨ c = .pllLock ∨ (∃ r, c = .railLoss r) ∨ ∃ j, c = .jtagInstructionLoad j))

/-- Frames by block: the mains observer's events, the messages and waits of port power, and the recorder's writes leave every block alone
but their own, the registers, the event controller and, where a command ends, the mailboxes and the firmware's journal. A record slot
whose write failed takes its open bytes (log entry 256) from the counter of fresh values. -/
def Obligations.BlockFrames : Prop :=
  (∀ (s t : State) (dt : Nat) (a b c d : Int), exec (.mainsSample dt a b c d) s = .next t ∨ exec (.urmsWindowEnd dt) s = .next t ∨
    exec (.zeroCrossing dt) s = .next t → t = { s with regs := t.regs, time := t.time, evq := t.evq, mains := t.mains }) ∧
  (∀ s t : State, exec .tenCycleEnd s = .next t ∨ exec .tenSecondEnd s = .next t ∨ exec .calibrationComplete s = .next t →
    t = { s with regs := t.regs, evq := t.evq, mbx := t.mbx, mains := t.mains, journal := t.journal }) ∧
  (∀ (s t : State) (p : Nat) (h : SnsHead) (o : List Nat), exec (.srcCaps p h o) s = .next t ∨ exec (.snkCaps p h o) s = .next t ∨
    exec (.snsRequest p h o) s = .next t ∨ exec (.snsAccept p h o) s = .next t ∨ exec (.snsReject p h o) s = .next t ∨
    exec (.snsWait p h o) s = .next t ∨ exec (.psReady p h o) s = .next t ∨ exec (.getSrcCaps p h o) s = .next t ∨
    exec (.getSnkCaps p h o) s = .next t ∨ exec (.prSwap p h o) s = .next t ∨ exec (.softReset p h o) s = .next t ∨
    exec (.notSupported p h o) s = .next t ∨ exec (.snsAlert p h o) s = .next t ∨ exec (.frSwap p h o) s = .next t ∨
    exec (.hardReset p) s = .next t ∨ exec (.vpInWindow p) s = .next t ∨ exec (.messageRetry p) s = .next t →
    t = { s with regs := t.regs, evq := t.evq, mbx := t.mbx, power := t.power, journal := t.journal }) ∧
  (∀ (s t : State) (r1 r2 h1 h2 l1 l2 : Bool), exec (.cairnRecordWrite r1 r2 h1 h2 l1 l2) s = .next t ∨
    exec (.mergeRewrite r1 r2 l1 l2) s = .next t ∨ exec (.headerRefresh h1 h2 l1 l2) s = .next t →
    t = { s with regs := t.regs, evq := t.evq, mbx := t.mbx, cairn := t.cairn, journal := t.journal, fw := { s.fw with fresh := t.fw.fresh } })

/-- Power-on and RST_N (R3, R47): a cold reset returns every register to its reset value and keeps Tarn, flash and the queue; once RST_N
is high, the supplies are in range and no test instruction holds the die, the sequencer starts every regulator. -/
def Obligations.ColdResetAndPowerOn : Prop :=
  (∀ s : State, s.boot.vaoOk = false ∨ s.boot.vinOk = false → ∃ t : State, exec .powerOn s = .next t ∧
    (∀ a, t.rd a = regReset s.part a) ∧ t.boot.vaoOk = true ∧ t.boot.vinOk = true ∧ t.boot.rstN = s.boot.rstN ∧
    t.tarn = s.tarn ∧ t.flash = s.flash ∧ t.pending = s.pending ∧
    t.boot.stage = (if s.boot.rstN ∧ ¬ s.scree.halted then .regulators else .held) ∧
    t.pdm.en = (if s.boot.rstN ∧ ¬ s.scree.halted then 15 else 0)) ∧
  (∀ s : State, ∃ t : State, exec .rstNAssert s = .next t ∧
    (∀ a, t.rd a = regReset s.part a) ∧ t.boot.rstN = false ∧ t.boot.stage = .held ∧ t.scree.halted = false ∧
    t.tarn = s.tarn ∧ t.flash = s.flash ∧ t.pending = s.pending ∧ t.part = s.part ∧ t.fw.fuses = s.fw.fuses) ∧
  (∀ s : State, s.boot.rstN = false → ∃ t : State, exec .rstNRise s = .next t ∧ t.boot.rstN = true ∧ t.regs = s.regs ∧
    t.boot.stage = (if s.boot.vaoOk ∧ s.boot.vinOk ∧ ¬ s.scree.halted then .regulators else s.boot.stage)) ∧
  (∀ (s : State) (j : JtagInstr), j = .extest ∨ j = .clamp ∨ j = .highz → ∃ t : State, exec (.jtagInstructionLoad j) s = .next t ∧
    (∀ a, t.rd a = regReset s.part a) ∧ t.scree.halted = true ∧ t.scree.jtag = j ∧ t.boot.stage = .held ∧ t.flash = s.flash) ∧
  (∀ (s : State) (j : JtagInstr), j ≠ .extest → j ≠ .clamp → j ≠ .highz →
    exec (.jtagInstructionLoad j) s = .next { s with scree := { s.scree with jtag := j } })

/-- The stages of R47 up to the reference, in both orders of the regulators (R379), and the fallback of R22. -/
def Obligations.RegulatorStages : Prop :=
  (∀ s : State, s.boot.stage = .regulators → s.pdm.seq = false → ∃ t : State, exec .regulatorsReady s = .next t ∧
    t.boot.stage = .reference ∧ t.get Fd.PDM_STATE_TPHY = 3 ∧ t.get Fd.PDM_DVFS_PG = 1 ∧ t.pdm = s.pdm) ∧
  (∀ s : State, s.boot.stage = .regulators → s.pdm.seq = true → s.pdm.rail < 4 →
    exec .regulatorStageComplete s =
      .next (s.editPdm fun p => { p with rail := s.pdm.rail + 1, en := p.en ||| 2 ^ s.pdm.rail })) ∧
  (∀ s : State, s.boot.stage = .regulators → s.pdm.seq = true → 4 ≤ s.pdm.rail → ∃ t : State, exec .regulatorStageComplete s = .next t ∧
    t.boot.stage = .reference ∧ t.get Fd.PDM_STATE_TPHY = 3 ∧ t.pdm = s.pdm) ∧
  (∀ s : State, s.boot.stage = .reference → exec .referenceReady s = .next ((s.put Fd.GLB_STATUS_OSC_FALLBACK 0).setStage .pll)) ∧
  (∀ (s : State) (rtc : Nat), s.boot.stage = .reference → ∃ t : State, exec (.oscStageTimeout rtc) s = .next t ∧
    t.boot.stage = .pll ∧ t.get Fd.GLB_STATUS_OSC_FALLBACK = 1 ∧ t.get Fd.PDM_FAIL_STAGE = 2 ∧
    t.get Fd.PDM_FAIL_COUNT = min (s.get Fd.PDM_FAIL_COUNT + 1) Fd.PDM_FAIL_COUNT.max ∧ t.pdm.capture.isSome = true) ∧
  (∀ (s : State) (rail rtc : Nat), s.boot.stage = .regulators → s.pdm.seq = false → rail < 4 → ∃ t : State,
    exec (.regulatorTimeout rail rtc) s = .next t ∧ t.boot.stage = .stopped ∧ t.pdm.en = 0 ∧ t.get Fd.PDM_FAIL_STAGE = 1 ∧
    t.get Fd.PDM_FAIL_RAIL = rail ∧ t.pdm.fails = s.pdm.fails + 1 ∧ t.pdm.retry = decide (s.pdm.fails < 2)) ∧
  (∀ (s : State) (rail rtc : Nat), s.boot.stage = .regulators → s.pdm.seq = true → s.pdm.rail = 4 → ∃ t : State,
    exec (.regulatorTimeout rail rtc) s = .next t ∧ t.boot.stage = .reference ∧ t.get Fd.PDM_STATE_TPHY = 0 ∧
    t.get Fd.PDM_FAIL_RAIL = 4 ∧ t.pdm.en = s.pdm.en % 8) ∧
  (∀ s : State, s.pdm.retry = true → s.boot.stage = .stopped → ∃ t : State, exec .wakeRetry s = .next t ∧
    t.boot.stage = .regulators ∧ t.pdm.retry = false ∧ t.pdm.en = (if s.pdm.seq then s.pdm.en ||| 1 else 15))

/-- From the lock of the PLL to the standby's readiness (R27, R47, R49, R50). -/
def Obligations.BootToRunning : Prop :=
  (∀ s : State, s.boot.stage = .pll → s.pdm.waking = false → ∃ t : State, exec .pllLock s = .next t ∧ t.boot.stage = .rom ∧
    t.time.sys = 0 ∧ t.time.frameNo = 0 ∧ t.boot.barPort = s.mgrSide ∧
    t.get Fd.GLB_STATUS_MGR_PORT = (if s.mgrSide = .h1 then 1 else 0)) ∧
  (∀ (s : State) (okA okB : Bool), s.boot.stage = .rom → okA ∨ okB → ∃ t : State, exec (.imageSelect okA okB) s = .next t ∧
    t.boot.stage = .loaded ∧ t.get Fd.GLB_STATUS_ACTIVE_PAIR = b2n (!okA) ∧ t.get Fd.GLB_STATUS_STANDBY_READY = 0 ∧
    t.get Fd.MBX_FW_STATE_MODE = b2n s.bootSlot.isNone ∧ t.fw.pairA.mode = (if okA then .active else .halted) ∧
    t.fw.pairB.mode = (if ¬ okB then .halted else if okA then .loading else .active)) ∧
  (∀ (s : State) (e : Nat), s.boot.stage = .loaded → ∃ t : State, exec (.fwRunning e) s = .next t ∧
    t.get Fd.GLB_STATUS_FW_RUNNING = 1 ∧ t.boot.barOpen = true ∧ t.time.ticking = true ∧
    t.boot.stage = (if s.mode = 1 then .recovery else .running)) ∧
  (∀ s : State, s.boot.stage = .running → s.otherPair.mode = .loading → s.otherPair.back = none → s.standbyOn = true → s.bistStandby = false →
    s.pdm.stdCmd = none → s.pdm.keepFault = false → ∃ t : State, exec (.standbyReadyCheck true) s = .next t ∧
    t.get Fd.GLB_STATUS_STANDBY_READY = 1 ∧ t.otherPair.mode = .ready ∧
    t.get Fd.MBX_FW_STATE_STBY_SLOT = s.otherPair.slot % 2)

/-- R10: an access of another size or alignment, or a write that does not cover all four bytes, is an Unsupported Request; the write is
discarded and the read returns all ones. `be` above 15 marks a TLP that fails ECRC (R233), which is not the case here. -/
def Obligations.UnsupportedRequests : Prop :=
  (∀ (s : State) (p : Side) (w : Space) (off be v : Nat), be < 16 → be ≠ 15 ∨ off % 4 ≠ 0 →
    exec (.registerWrite p w off be v) s = .next (s.reportUR p)) ∧
  (∀ (s : State) (p : Side) (w : Space) (off size : Nat), size ≠ 4 ∨ off % 4 ≠ 0 →
    exec (.readClear p w off size) s = .next (((s.replyOn p).reportUR p).answer 0xFFFFFFFF))

/-- R29, with the windows open: a page of an instance that does not exist, or is not bound to the accessing port, is an Unsupported
Request to reads and writes. R30: GLB_RESET with the key schedules a warm reset for the next tick, at which it begins; without the key
nothing happens. R30: while the windows are closed, BAR0 and the pages read all ones and take no write. -/
def Obligations.WindowsAndWarmReset : Prop :=
  (∀ (s : State) (p : Side) (off : Nat), s.boot.barOpen = true → off < 0x400000 → off % 4 = 0 →
    ((s.instOf (off / 0x10000)).exist = false ∨ (s.instOf (off / 0x10000)).port ≠ p) →
    (∀ v, exec (.registerWrite p .bar2 off 15 v) s = .next (s.reportUR p)) ∧
    exec (.readClear p .bar2 off 4) s = .next (((s.replyOn p).reportUR p).answer 0xFFFFFFFF)) ∧
  ((∀ (s : State) (v : Nat), s.reach s.boot.barPort .manager = .ok → bitAt v 0 = true → v / 2 ^ 16 % 2 ^ 16 = 0xA5C3 → ∃ t : State,
    exec (.glbResetWrite s.boot.barPort v) s = .next t ∧ t.regs = s.regs ∧ t.pending = s.pending ∧
    t.boot.warm = some { frame := (s.frame + 1) % 2 ^ 32, reason := if s.mode = 3 then 5 else 3 }) ∧
  (∀ (s : State) (p : Side) (v : Nat), s.reach p .manager = .ok → ¬ (bitAt v 0 = true ∧ v / 2 ^ 16 % 2 ^ 16 = 0xA5C3) →
    exec (.glbResetWrite p v) s = .next s) ∧
  (∀ (s : State) (w : WarmReq), s.boot.warm = some w → since32 s.frame w.frame < 2 ^ 31 → ∃ t : State,
    exec .warmReset s = .next t ∧ t.get Fd.GLB_STATUS_FW_RUNNING = 0 ∧ t.get Fd.GLB_STATUS_COLD_BOOT = 0 ∧
    t.get Fd.GLB_STATUS_ACTIVE_PAIR = 0 ∧ t.boot.barOpen = false ∧ t.boot.stage = .rom ∧ t.boot.reason = w.reason ∧
    t.boot.warm = none ∧ t.get Fd.GLB_STATUS_H0_UP = s.get Fd.GLB_STATUS_H0_UP ∧ t.get Fd.GLB_STATUS_H1_UP = s.get Fd.GLB_STATUS_H1_UP)) ∧
  ((∀ (s : State) (off v : Nat), s.boot.barOpen = false → off < 0x100000 → off % 4 = 0 →
    exec (.registerWrite s.boot.barPort .bar0 off 15 v) s = .next s ∧
    exec (.readClear s.boot.barPort .bar0 off 4) s = .next ((s.replyOn s.boot.barPort).answer 0xFFFFFFFF)) ∧
  (∀ (s : State) (p : Side) (off v : Nat), s.boot.barOpen = false → off < 0x400000 → off % 4 = 0 →
    exec (.registerWrite p .bar2 off 15 v) s = .next s ∧
    exec (.readClear p .bar2 off 4) s = .next ((s.replyOn p).answer 0xFFFFFFFF)))

/-- R7 to R10, R233: every access of a host goes on. A write with all byte enables, and a read, that reach a place of BAR0 or BAR2 have
its effect: the word of a register with its RC fields, mailbox memory (R35), the device-mode buffers, CFG and STAT of a source (R306), and
nothing where nothing stands. A write whose TLP fails ECRC is discarded while the check is enabled. R7 to R9, R15 on the registers of GLB
and MBX that have no write effect of their own, and on a register of SCH: an effective write stages the RW fields for the next tick, 1s
clear W1C bits at once, a reserved encoding leaves everything; a read answers the value with write-only fields 0 and clears RC fields;
mailbox memory takes words while the host owns the slot (R35). -/
def Obligations.RegisterReadsAndWrites : Prop :=
  ((∀ (s : State) (p : Side) (w : Space) (off be v : Nat), ∃ t : State, exec (.registerWrite p w off be v) s = .next t) ∧
  (∀ (s : State) (p : Side) (w : Space) (off size : Nat), ∃ t : State, exec (.readClear p w off size) s = .next t) ∧
  (∀ (s : State) (p : Side) (w : Space) (off v : Nat) (via : Via) (x : Place), w = .bar0 ∨ w = .bar2 → s.place w off = some (via, x) →
    s.reach p via = .ok → off % 4 = 0 → v < 2 ^ 32 →
    (x = .none → exec (.registerWrite p w off 15 v) s = .next s) ∧
    (∀ m o, x = .slot m o → s.bitOf (Reg.MBX_OWNER m) (o / 0x100) = true →
      exec (.registerWrite p w off 15 v) s = .next (s.bump (Fd.MBX_ERR_WR_BUSY m))) ∧
    (∀ m o, x = .slot m o → s.bitOf (Reg.MBX_OWNER m) (o / 0x100) = false → ∃ t : State, exec (.registerWrite p w off 15 v) s = .next t ∧
      Memory.read zeroByte t.mbx.slots (m * 0x800 + o) 4 = leBytes 4 v ∧ t.regs = s.regs ∧
      (∀ k, k < m * 0x800 + o ∨ m * 0x800 + o + 4 ≤ k → SMap.get zeroByte t.mbx.slots k = SMap.get zeroByte s.mbx.slots k)) ∧
    (∀ i, x = .buf i → ∃ t : State, exec (.registerWrite p w off 15 v) s = .next t ∧
      SMap.get (fun _ => (0 : Word)) t.dm.buf i = BitVec.ofNat 32 (v % 2 ^ 24) ∧ t.regs = s.regs ∧
      (∀ j, j ≠ i → SMap.get (fun _ => (0 : Word)) t.dm.buf j = SMap.get (fun _ => (0 : Word)) s.dm.buf j)) ∧
    (∀ n, x = .srcCfg n → srcExists n = true → ∃ t : State, exec (.registerWrite p w off 15 v) s = .next t ∧ t.regs = s.regs ∧
      (t.src n).mask = bitAt v 31 ∧ (t.src n).claim = (srcLevel n || bitAt v 30) ∧ (t.src n).holdoff = v / 2 ^ 24 % 16 ∧
      (t.src n).prio = v / 2 ^ 20 % 8 ∧ (t.src n).targets = v % 2 ^ 16) ∧
    (∀ n own, x = .srcStat n own → srcExists n = true → bitAt v 24 = false → ∃ t : State, exec (.registerWrite p w off 15 v) s = .next t ∧
      t.regs = s.regs ∧ (t.src n).quar = ((s.src n).quar && !bitAt v 25) ∧
      (t.src n).ownerNext = (if own = true ∧ n ≤ 35 then some (v / 2 ^ 26 % 64) else (s.src n).ownerNext))) ∧
  (∀ (s : State) (p : Side) (w : Space) (off : Nat) (via : Via) (x : Place), w = .bar0 ∨ w = .bar2 → s.place w off = some (via, x) →
    s.reach p via = .ok → off % 4 = 0 →
    ((∀ a, x ≠ .word a) → exec (.readClear p w off 4) s = .next ((s.replyOn p).answer (s.viewPlace x))) ∧
    (s.replyOn p).host.readEcrc = s.host.ecrcGen.contains p ∧
    (∀ a, x = .word a → a ≠ Reg.TIM_SYSTIME_SEC → a ≠ Reg.TRE_DM_STROBE_SEC → a ≠ Reg.MNS_WORD 0 → a ≠ Reg.MNS_EVT_INFO →
      ¬ (0xA8000 ≤ a ∧ a < 0xAC000 ∧ a % 0x40 = 0x18) → ∃ t : State, exec (.readClear p w off 4) s = .next t ∧
      t.host.readData = s.viewWord a ∧ t.host.readEcrc = s.host.ecrcGen.contains p ∧ t.rd a = s.rd a &&& ~~~ BitVec.ofNat 32 (((regDesc a).map (·.rc)).getD 0) ∧
      (∀ b, b ≠ a → t.rd b = s.rd b) ∧ t.time = s.time ∧ t.evq = s.evq)) ∧
  (∀ (s : State) (p : Side) (w : Space) (off v : Nat), s.host.ecrcChk.contains p = true → w = .bar0 ∨ w = .bar2 →
    ∃ t : State, exec (.registerWrite p w off 31 v) s = .next t ∧ t.host.ecrcErr = s.host.ecrcErr ++ [p] ∧ t.regs = s.regs ∧ t.mbx = s.mbx) ∧
  (∀ (s : State) (p : Side) (v : Nat), v < 2 ^ 32 → ∃ t : State, exec (.registerWrite p .aer aerControl 15 v) s = .next t ∧ t.regs = s.regs ∧
    t.host.ecrcChk.contains p = bitAt v 8 ∧ t.host.ecrcGen.contains p = bitAt v 6)) ∧
  ((∀ (s : State) (a v : Nat) (d : RegDesc), s.reach s.boot.barPort .manager = .ok → a % 4 = 0 → v < 2 ^ 32 → (a < 0x10000 ∨ 0x10800 ≤ a ∧ a < 0x20000) →
    a ≠ Reg.GLB_RESET → a ≠ Reg.MBX_DOORBELL 0 → regDesc a = some d → d.refuses v = false → ∃ t : State,
    exec (.registerWrite s.boot.barPort .bar0 a 15 v) s = .next t ∧ (∀ b, b ≠ a → t.rd b = s.rd b) ∧
    (d.rw = 0 → t.rd a = d.store (s.rd a) v) ∧
    (d.rw ≠ 0 → t.rd a = s.rd a &&& ~~~ (BitVec.ofNat 32 v &&& BitVec.ofNat 32 d.w1c) ∧
      SMap.get (fun _ => none) t.staged a = some (d.mergeRw 0 (BitVec.ofNat 32 v)))) ∧
  (∀ (s : State) (v : Nat), s.reach s.boot.barPort .manager = .ok → v < 2 ^ 32 →
    ∃ t : State, exec (.registerWrite s.boot.barPort .bar0 Reg.SCH_ALLOC_SEA 15 v) s = .next t ∧
      t.get Fd.SCH_ALLOC_SEA_SEA = v % 2 ^ 24 ∧ (∀ b, b ≠ Reg.SCH_ALLOC_SEA → t.rd b = s.rd b)) ∧
  (∀ (s : State) (a v : Nat) (d : RegDesc), s.reach s.boot.barPort .manager = .ok → a % 4 = 0 → v < 2 ^ 32 → 0x20000 ≤ a → a < 0x30000 →
    regDesc a = some d → d.refuses v = true →
    ∃ t : State, exec (.registerWrite s.boot.barPort .bar0 a 15 v) s = .next t ∧ ∀ b, t.rd b = s.rd b) ∧
  (∀ (s : State) (a : Nat) (d : RegDesc), s.reach s.boot.barPort .manager = .ok → a % 4 = 0 → (a < 0x10000 ∨ 0x10800 ≤ a ∧ a < 0x20000) →
    regDesc a = some d → s.live a = none → ∃ t : State, exec (.readClear s.boot.barPort .bar0 a 4) s = .next t ∧
      t.host.readData = (s.shown a &&& ~~~ BitVec.ofNat 32 d.wo).toNat ∧ t.rd a = s.rd a &&& ~~~ BitVec.ofNat 32 d.rc) ∧
  (∀ (s : State) (o v : Nat), s.reach s.boot.barPort .manager = .ok → o % 4 = 0 → o < 0x800 → v < 2 ^ 32 →
    s.bitOf (Reg.MBX_OWNER 0) (o / 0x100) = false → ∃ t : State,
    exec (.registerWrite s.boot.barPort .bar0 (0x10000 + o) 15 v) s = .next t ∧
      Memory.read zeroByte t.mbx.slots o 4 = leBytes 4 v ∧
      (∀ k, k < o ∨ o + 4 ≤ k → SMap.get zeroByte t.mbx.slots k = SMap.get zeroByte s.mbx.slots k) ∧ t.regs = s.regs) ∧
  (∀ (s : State) (o v : Nat), s.reach s.boot.barPort .manager = .ok → o % 4 = 0 → o < 0x800 →
    s.bitOf (Reg.MBX_OWNER 0) (o / 0x100) = true →
    exec (.registerWrite s.boot.barPort .bar0 (0x10000 + o) 15 v) s = .next (s.bump (Fd.MBX_ERR_WR_BUSY 0))))

/-- R35: a doorbell of an unowned slot sets OWNER, clears DONE and queues the slot; of an owned one it counts RING_BUSY alone. -/
def Obligations.Doorbells : Prop :=
  (∀ (s : State) (sl : Nat), s.reach s.boot.barPort .manager = .ok → sl < 8 → s.bitOf (Reg.MBX_OWNER 0) sl = false → ∃ t : State,
    exec (.mbxDoorbellWrite s.boot.barPort 0 (2 ^ sl)) s = .next t ∧ t.bitOf (Reg.MBX_OWNER 0) sl = true ∧
    t.bitOf (Reg.MBX_DONE 0) sl = false ∧ t.mbx.rung = s.mbx.rung ++ [(0, sl)] ∧ t.mbx.slots = s.mbx.slots ∧
    t.mbx.taken = s.mbx.taken) ∧
  (∀ (s : State) (sl : Nat), s.reach s.boot.barPort .manager = .ok → sl < 8 → s.bitOf (Reg.MBX_OWNER 0) sl = true →
    exec (.mbxDoorbellWrite s.boot.barPort 0 (2 ^ sl)) s = .next (s.bump (Fd.MBX_ERR_RING_BUSY 0))) ∧
  (∀ (s : State) (i sl : Nat), i ≠ 0 → s.reach (s.instOf i).port (.page i) = .ok → sl < 8 →
    s.bitOf (Reg.MBX_OWNER i) sl = true →
    exec (.mbxDoorbellWrite (s.instOf i).port i (2 ^ sl)) s = .next (s.bump (Fd.MBX_ERR_RING_BUSY i)))

/-- R34, R35, R53: while the active pair is halted a completion writes no slot and waits; else a command that ends answers in its slot:
STATUS, DETAIL, LENGTH, EFFECT_FRAME and the response; OWNER clears and DONE sets; the command is no longer taken; every other byte of
mailbox memory stands. What a completion leaves alone: every block but mailboxes, their journal, registers and event controller, and of
the registers every one but OWNER and DONE of its mailbox. R39: a command that goes PENDING releases its slot with STATUS 1, stays known,
and its outcome is kept under its TAG. -/
def Obligations.Completions : Prop :=
  (∀ (s : State) (c : Cmd) (st d : Nat) (resp : List Byte), c.pend = false → c.slot < 8 → resp.length ≤ 240 → st < 256 → d < 256 →
    let t := s.finish c st d resp
    (s.activePair.mode = .halted → t = s.setCmd { c with begun := true, ended := some (st, d, s.frame, resp) }) ∧
    (s.activePair.mode ≠ .halted →
    t.slotNum c.mbx c.slot 5 1 = st ∧ t.slotNum c.mbx c.slot 11 1 = d ∧ t.slotNum c.mbx c.slot 6 2 = resp.length ∧
    t.slotNum c.mbx c.slot 12 4 = s.frame % 2 ^ 32 ∧ t.slotBytes c.mbx c.slot 16 resp.length = resp ∧
    t.bitOf (Reg.MBX_OWNER c.mbx) c.slot = false ∧ t.bitOf (Reg.MBX_DONE c.mbx) c.slot = true ∧ t.findCmd c.id = none ∧
    (∀ k, k < slotAddr c.mbx c.slot ∨ slotAddr c.mbx c.slot + 256 ≤ k →
      SMap.get zeroByte t.mbx.slots k = SMap.get zeroByte s.mbx.slots k) ∧
    (∀ k < 5, SMap.get zeroByte t.mbx.slots (slotAddr c.mbx c.slot + k) = SMap.get zeroByte s.mbx.slots (slotAddr c.mbx c.slot + k)))) ∧
  (∀ (s : State) (c : Cmd) (st d : Nat) (resp : List Byte),
    (∀ a, a ≠ Reg.MBX_OWNER c.mbx → a ≠ Reg.MBX_DONE c.mbx → (s.finish c st d resp).rd a = s.rd a) ∧
    s.finish c st d resp = { s with regs := (s.finish c st d resp).regs, mbx := (s.finish c st d resp).mbx,
                                    evq := (s.finish c st d resp).evq, journal := (s.finish c st d resp).journal }) ∧
  (∀ (s : State) (c : Cmd) (f : Nat), c.pend = false → c.slot < 8 → s.findCmd c.id = some c →
    let t := s.goPending c f
    t.slotNum c.mbx c.slot 5 1 = 1 ∧ t.slotNum c.mbx c.slot 12 4 = f % 2 ^ 32 ∧
    t.bitOf (Reg.MBX_OWNER c.mbx) c.slot = false ∧ t.bitOf (Reg.MBX_DONE c.mbx) c.slot = true ∧
    t.findCmd c.id = some { c with pend := true, begun := true } ∧
    (t.outcomeOf c.mbx c.tag).isSome = true ∧ (t.mbx.outcomes.filter fun o => o.mbx == c.mbx).length ≤ 16)

/-- The system commands that only answer, and the nonce (R39, R61, R62). -/
def Obligations.SystemQueries : Prop :=
  ∀ (s : State) (id : Nat) (c : Cmd),
  (s.Ready id 0x0000 c → exec (.sysNop id) s = .next (s.okay c c.req)) ∧
  (s.Ready id 0x0001 c → exec (.sysGetInfo id) s = .next (s.okay c
    (leBytes 4 (s.rd Reg.MBX_FW_VER).toNat ++ leBytes 1 (s.get Fd.MBX_FW_STATE_RUN_SLOT) ++ leBytes 1 (s.get Fd.MBX_FW_STATE_MODE) ++
      leBytes 1 (s.get Fd.MBX_FW_STATE_SEC_COUNT) ++ leBytes 1 (s.get Fd.MBX_BOOT_INFO_REASON) ++ leBytes 8 Config.uid ++
      leBytes 4 (s.rd Reg.GLB_CAP).toNat ++ leBytes 1 c.mbx ++ leBytes 1 (s.instOf c.mbx).gen ++ zeros 2))) ∧
  (s.Ready id 0x0002 c → ∃ n < 2 ^ 64, exec (.sysGetNonce id) s =
    .next ({ s with fw := { s.fw with nonce := some (n, s.frame), fresh := s.fw.fresh + 1 } }.okay c
      (leBytes 8 n ++ leBytes 4 ((s.frame + 65536) % 2 ^ 32)))) ∧
  (s.Ready id 0x0003 c → s.outcomeOf c.mbx (c.u 0 2) = none → exec (.sysQueryPending id) s = .next (s.okay c (zeros 8))) ∧
  (∀ o, s.Ready id 0x0003 c → s.outcomeOf c.mbx (c.u 0 2) = some o → exec (.sysQueryPending id) s = .next (s.okay c
    (leBytes 1 (if o.done then 2 else 1) ++ leBytes 1 o.status ++ leBytes 1 o.detail ++ [0] ++ leBytes 4 o.frame))) ∧
  (s.Ready id 0x0007 c → exec (.sysGetPairStatus id) s = .next (s.okay c
    (leBytes 1 (s.get Fd.GLB_STATUS_ACTIVE_PAIR) ++
      leBytes 1 (match s.otherPair.mode with | .loading => 1 | .ready => 2 | .halted => 3 | _ => 0) ++
      leBytes 1 (s.get Fd.MBX_FW_STATE_PAIR_FAULTS) ++ leBytes 1 s.fw.lastCause ++ leBytes 4 s.fw.lastFrame))) ∧
  (s.findCmd id = some c → s.fwServes = true → opInfo c.opcode = none →
    exec (.unknownOpcode id) s = .next (s.finish c ST.unsupported (if c.mbx = 0 then 0 else 0xF2) [])) ∧
  (∀ n f, s.fw.nonce = some (n, f) → 65536 ≤ since32 s.frame f →
    exec .nonceExpiry s = .next { s with fw := { s.fw with nonce := none } })

/-- SYS_SET_MGR_PORT, SYS_WARM_RESET and SYS_KEY_PROVISION (R27, R44, R52, R59, R62). -/
def Obligations.SystemSettings : Prop :=
  ∀ (s : State) (id : Nat) (c : Cmd),
  (s.Ready id 0x0004 c → c.u 0 1 ≤ 1 → ∃ t : State, exec (.sysSetMgrPort id) s = .next (t.okay c []) ∧
    t.mgrSide = (if c.u 0 1 = 1 then .h1 else .h0) ∧ t.newestHdr.isSome = true ∧ t.regs = s.regs ∧ t.boot = s.boot) ∧
  (s.Ready id 0x0004 c → 1 < c.u 0 1 → exec (.sysSetMgrPort id) s = .next (s.finish c ST.invalid 0 [])) ∧
  (s.ReadyNow id 0x0005 c → since32 (c.target.getD ((c.takeFrame + 2) % 2 ^ 32)) s.frame = 1 →
    exec (.sysWarmReset id) s = .next
      ({ s with boot := { s.boot with
          warm := some { frame := c.target.getD ((c.takeFrame + 2) % 2 ^ 32), reason := 4 } } }.finishAt c ST.ok 0
        (c.target.getD ((c.takeFrame + 2) % 2 ^ 32)) [])) ∧
  (s.Ready id 0x0006 c → c.u 0 1 = 0 → s.fw.fuses.key0 = none → exec (.sysKeyProvision id) s = .next
    ({ s with fw := { s.fw with fuses := { s.fw.fuses with key0 := some (slice c.req 4 64) } } }.okay c [])) ∧
  (s.Ready id 0x0006 c → c.u 0 1 = 0 → s.fw.fuses.key0.isSome = true →
    exec (.sysKeyProvision id) s = .next (s.finish c ST.denied 0 [])) ∧
  (s.Ready id 0x0006 c → c.u 0 1 = 1 → s.fw.fuses.key1Uses < 8 → s.fw.fuses.key0.isSome = true → exec (.sysKeyProvision id) s = .next
    (if s.tokenOk (slice c.req 68 92) 3 (some 0) then
      ({ s with fw := { s.fw with
          fuses := { s.fw.fuses with key1 := some (slice c.req 4 64), key1Uses := s.fw.fuses.key1Uses + 1 }, nonce := none } }.okay c [])
     else s.endNonce.finish c ST.denied 0 [])) ∧
  (s.Ready id 0x0006 c → c.u 0 1 = 1 → 8 ≤ s.fw.fuses.key1Uses → exec (.sysKeyProvision id) s = .next (s.finish c ST.denied 0 []))

/-- The firmware commands and their outcomes (R46, R49, R57, R58, R63). -/
def Obligations.FirmwareCommands : Prop :=
  ∀ (s : State) (id : Nat) (c : Cmd),
  (s.Ready id 0x0F00 c → exec (.fwGetSlots id) s = .next (s.okay c
    (s.slotRecord 0 ++ s.slotRecord 1 ++ s.slotRecord 2 ++ leBytes 1 s.preferred ++ leBytes 1 s.fw.fuses.sec))) ∧
  (s.Ready id 0x0F01 c → c.u 0 8 % 4 = 0 → c.u 8 4 ≤ 0x100000 → c.u 12 1 ≤ 2 →
    exec (.fwStage id) s = .next
      (((s.fwReadsEnd c.id).fwRead c.id (if bitAt (c.u 13 1) 0 then some (c.u 16 4 % 2 ^ 20) else none) (c.u 0 8) (c.u 8 4) 0).goPending c s.frame)) ∧
  (∀ (img : List Byte) (k : Nat), s.findCmd id = some c → c.opcode = 0x0F01 → c.pend = true → c.begun = true → s.fwServes = true → k ≠ 1 →
    s.slotInUse (c.u 12 1) = false →
    let w := (s.fwReadsEnd id).flashWrite (imageBase (c.u 12 1)) (img.take (c.u 8 4))
    exec (.pendingOutcome id true k img) s = .next (match
        w.imageRules (c.u 12 1 == 2) (w.flashBytes (imageBase (c.u 12 1)) (img.take (c.u 8 4)).length) with
      | none => w.okay c []
      | some d => w.finish c ST.invalid d [])) ∧
  (∀ (img : List Byte) (k : Nat), s.findCmd id = some c → c.opcode = 0x0F01 → c.pend = true → c.begun = true → s.fwServes = true →
    s.slotInUse (c.u 12 1) = true → ∃ t : State, exec (.pendingOutcome id true k img) s = .next t ∧ t.flash = s.flash) ∧
  (s.Ready id 0x0F02 c → c.u 0 1 ≤ 1 → s.otherPair.mode ≠ .halted → s.fw.switch = none → s.standbyOn = true → ∃ t : State,
    exec (.fwLoadStandby id) s = .next (t.goPending c s.frame) ∧ t.get Fd.GLB_STATUS_STANDBY_READY = 0 ∧
    t.otherPair = { s.otherPair with mode := .loading, slot := c.u 0 1, back := some (s.otherPair.mode, s.otherPair.slot) } ∧ t.mbx = s.mbx) ∧
  (s.Ready id 0x0F02 c → c.u 0 1 ≤ 1 → s.otherPair.mode ≠ .halted → s.fw.switch = none → s.standbyOn = false →
    exec (.fwLoadStandby id) s = .next (s.goPending c s.frame)) ∧
  (s.ReadyNow id 0x0F03 c → 4 ≤ since32 (c.target.getD ((c.takeFrame + 4) % 2 ^ 32)) c.takeFrame →
    s.on Fd.GLB_STATUS_STANDBY_READY = true → exec (.fwSwitch id) s = .next
      ({ s with fw := { s.fw with switch := some (FwSwitch.mk c.id (c.target.getD ((c.takeFrame + 4) % 2 ^ 32)) false none none) } }.goPending
        c (c.target.getD ((c.takeFrame + 4) % 2 ^ 32)))) ∧
  (s.ReadyNow id 0x0F03 c → 4 ≤ since32 (c.target.getD ((c.takeFrame + 4) % 2 ^ 32)) c.takeFrame →
    s.on Fd.GLB_STATUS_STANDBY_READY = false → exec (.fwSwitch id) s = .next (s.finish c ST.denied 0 [])) ∧
  (s.Ready id 0x0F04 c → ¬ (s.newestHdr.isSome = true ∧ s.preferred = s.runSlot) → ∃ t : State,
    exec (.fwCommit id) s = .next (t.okay c []) ∧ t.preferred = s.runSlot ∧ t.get Fd.MBX_FW_STATE_TRIAL = 0 ∧
    t.fw.fuses.sec = max s.fw.fuses.sec (s.imageSec s.runSlot)) ∧
  (s.Ready id 0x0F04 c → s.newestHdr.isSome = true → s.preferred = s.runSlot → exec (.fwCommit id) s = .next (s.okay c []))

/-- Pair faults, takeover and the switch of a live update (R53 to R58). -/
def Obligations.PairFaultsAndSwitch : Prop :=
  (∀ (s : State) (p : PairId), s.get (if pairNum p = 0 then Fd.PDM_STATE_PAIRA else Fd.PDM_STATE_PAIRB) = 2 →
    exec (.lockstepMismatch p) s = .next s) ∧
  (∀ (s : State) (p : PairId), s.get Fd.GLB_STATUS_ACTIVE_PAIR = pairNum p → s.activePair.mode = .active →
    s.get (if pairNum p = 0 then Fd.PDM_STATE_PAIRA else Fd.PDM_STATE_PAIRB) ≠ 2 → s.on Fd.GLB_STATUS_STANDBY_READY = false → ∃ t : State, exec (.lockstepMismatch p) s = .next t ∧ t.activePair.mode = .halted ∧
      t.get Fd.GLB_STATUS_FW_RUNNING = 0 ∧ t.get Fd.MBX_FW_STATE_MODE = 3 ∧ t.fw.lastCause = 1 ∧ t.fw.lastFrame = s.frame ∧
      t.mbx = s.mbx) ∧
  (∀ (s : State) (p : PairId), s.get Fd.GLB_STATUS_ACTIVE_PAIR = pairNum p → s.activePair.mode = .active → 16 ≤ s.activePair.wd →
    s.on Fd.GLB_STATUS_STANDBY_READY = true → ∃ t : State, exec (.pairWatchdogExpiry p) s = .next t ∧ t.activePair.mode = .halted ∧
      t.fw.takeoverAt = some ((s.frame + 2) % 2 ^ 32) ∧ t.fw.lastCause = 3 ∧ t.get Fd.GLB_STATUS_FW_RUNNING = s.get Fd.GLB_STATUS_FW_RUNNING) ∧
  (∀ (s : State) (f : Nat), s.fw.takeoverAt = some f → since32 s.frame f < 2 ^ 31 → s.otherPair.mode = .ready → s.fw.switch = none → s.mbx.taken = [] → ∃ t : State,
    exec .standbyTakeover s = .next t ∧ t.get Fd.GLB_STATUS_ACTIVE_PAIR = 1 - s.get Fd.GLB_STATUS_ACTIVE_PAIR ∧
      t.get Fd.GLB_STATUS_STANDBY_READY = 0 ∧ t.get Fd.GLB_STATUS_FW_RUNNING = 1 ∧ t.get Fd.MBX_FW_STATE_MODE = 0 ∧
      t.activePair.mode = .active ∧ t.otherPair.mode = .loading ∧ t.fw.takeoverAt = none) ∧
  (∀ (s : State) (f : Nat), s.fw.takeoverAt = some f → since32 s.frame f < 2 ^ 31 → s.otherPair.mode ≠ .ready → ∃ t : State,
    exec .standbyTakeover s = .next t ∧ t.get Fd.GLB_STATUS_FW_RUNNING = 0 ∧ t.get Fd.MBX_FW_STATE_MODE = 3 ∧ t.fw.takeoverAt = none ∧
      t.mbx = s.mbx) ∧
  (∀ s : State, s.otherPair.mode = .loading → s.otherPair.back = none → s.standbyOn = true → s.bistStandby = false → ∃ t : State,
    exec (.faultedPairSelftest true) s = .next t ∧ t.otherPair.mode = .ready ∧
    t.get Fd.GLB_STATUS_STANDBY_READY = 1) ∧
  (∀ s : State, s.standbyOn = false → exec (.faultedPairSelftest true) s = .next s) ∧
  (∀ s : State, s.otherPair.mode = .loading → s.otherPair.back = none → s.standbyOn = true → s.bistStandby = false → ∃ t : State,
    exec (.faultedPairSelftest false) s = .next t ∧ t.otherPair.mode = .halted ∧
    t.get Fd.GLB_STATUS_STANDBY_READY = 0) ∧
  (∀ (s : State) (w : FwSwitch), s.fw.switch = some w → since32 w.target s.frame ≤ 2 → w.stopped = false → s.activePair.mode = .active →
    ∃ t : State, exec .switchStopTaking s = .next t ∧ t.get Fd.MBX_FW_STATE_MODE = 2 ∧
      t.fw.switch = some { w with stopped := true, written := some (s.imageStateVer s.runSlot) } ∧
      Memory.read zeroByte t.tarn handoverBase 1 = leBytes 1 (s.imageStateVer s.runSlot)) ∧
  (∀ (s : State) (w : FwSwitch), s.fw.switch = some w → since32 w.target s.frame ≤ 1 → w.written.isSome = true → w.accepted = none →
    exec .handoverStateCheck s = .next { s with fw := { s.fw with switch := some { w with accepted := some s.handoverGood } } }) ∧
  (∀ (s : State) (w : FwSwitch), s.fw.switch = some w → since32 s.frame w.target < 2 ^ 31 → w.accepted = some true →
    s.activePair.mode = .active → s.on Fd.GLB_STATUS_STANDBY_READY = true → s.findCmd w.cmd = none → ∃ t : State, exec .switchHandover s = .next t ∧
      t.get Fd.GLB_STATUS_ACTIVE_PAIR = 1 - s.get Fd.GLB_STATUS_ACTIVE_PAIR ∧ t.get Fd.MBX_FW_STATE_MODE = 0 ∧
      t.fw.switch = none ∧ t.otherPair.mode = .ready) ∧
  (∀ (s : State) (w : FwSwitch) (c : Cmd), s.fw.switch = some w → since32 s.frame w.target < 2 ^ 31 → w.accepted = some false →
    s.activePair.mode = .active → s.findCmd w.cmd = some c → s.mbx.rung = [] → ∃ t : State,
      exec .switchHandover s = .next (t.finish c ST.fault 0 []).retake ∧
      t.get Fd.GLB_STATUS_ACTIVE_PAIR = s.get Fd.GLB_STATUS_ACTIVE_PAIR ∧ t.get Fd.MBX_FW_STATE_MODE = 0 ∧ t.fw.switch = none)

/-- R24, R25, R31: what a read of the scrubber that finds no, one or two bits in error counts and records. R37 and R40: what happens to a
taken command when its TIMEOUT is reached. -/
def Obligations.ScrubberAndTimeout : Prop :=
  (∀ (s : State) (mem word : Nat), s.dieRuns = true → word * 3 < memBytes mem → s.memOn mem word = true → word < 2 ^ 27 →
    exec (.scrubberRead mem word 0) s = .next s ∧
    (∃ t : State, exec (.scrubberRead mem word 1) s = .next t ∧ t.get Fd.GLB_ECC_CORR_COUNT = min (s.get Fd.GLB_ECC_CORR_COUNT + 1) 65535 ∧
      (s.get Fd.GLB_ECC_UNCORR_COUNT = 0 → s.fw.eccAt ≠ some s.time.cyc → t.on Fd.GLB_ECC_LAST_UNCORR = false ∧ t.get Fd.GLB_ECC_LAST_MEM = mem ∧ t.get Fd.GLB_ECC_LAST_WORD = word)) ∧
    (mem ≠ 4 → ∃ t : State, exec (.scrubberRead mem word 2) s = .next t ∧
      t.get Fd.GLB_ECC_UNCORR_COUNT = min (s.get Fd.GLB_ECC_UNCORR_COUNT + 1) 65535 ∧ t.on Fd.GLB_ECC_LAST_UNCORR = true ∧
      (s.fw.eccAt ≠ some s.time.cyc → t.get Fd.GLB_ECC_LAST_MEM = mem ∧ t.get Fd.GLB_ECC_LAST_WORD = word) ∧
      (s.fw.eccAt = some s.time.cyc → s.on Fd.GLB_ECC_LAST_UNCORR = true → s.get Fd.GLB_ECC_LAST_MEM < mem →
        t.rd Reg.GLB_ECC_LAST = s.rd Reg.GLB_ECC_LAST) ∧ (mem = 1 → Config.mapOfWord word ∈ t.alloc.full))) ∧
  (∀ (s : State) (id : Nat) (c : Cmd), s.findCmd id = some c → s.fwServes = true → c.pend = false →
    (since32 s.frame c.takeFrame < c.timeout → exec (.commandTimeout id) s = .next s) ∧
    (c.timeout ≤ since32 s.frame c.takeFrame → c.begun = false → exec (.commandTimeout id) s = .next ((s.giveUp c).finish c ST.timeout 0 []) ∧
      (s.giveUp c).links.recals = s.links.recals.filter (fun r => r.cmd != c.id) ∧ (s.giveUp c).regs = s.regs ∧ (s.giveUp c).mbx = s.mbx) ∧
    (c.timeout ≤ since32 s.frame c.takeFrame → c.begun = true → c.opcode ≠ 0x0108 → c.opcode ≠ 0x0103 →
      exec (.commandTimeout id) s = .next (s.goPending c s.frame)))

/-- FRAME_TICK, SUSPENDED_BOUNDARY and the instants of a frame (R65, R66, R68, R70, R83). R71: at the hard stop a periodic transaction of
the plan that has not started is deferred and counted, once per frame in FRAMES, with OVERRUN and the event. -/
def Obligations.FramesAndOverrun : Prop :=
  ((∀ (s : State) (m : Bool) (l : List (Nat × Nat × Nat × Nat)), s.time.ticking = true → s.time.recon = false →
    s.boot.stage ≠ .asleep → ∃ t : State, exec (.frameTick m l) s = .next t ∧ t.time.started = true ∧ t.time.phase = .running ∧
    t.frame = (if s.time.started ∨ s.time.counting ∨ s.time.waitTick then (s.frame + 1) % 2 ^ 32 else 0)) ∧
  (∀ s : State, s.time.ticking = false → s.time.counting = true → ∃ t : State, exec .suspendedBoundary s = .next t ∧
    t.frame = (s.frame + 1) % 2 ^ 32 ∧ t.time.boundary = s.nextBoundary ∧ t.regs = s.regs ∧ t.pending = s.pending) ∧
  (∀ (s : State) (m : Nat), s.time.ticking = true → s.time.started = true → s.time.phase = .running → ∃ t : State,
    exec (.colStart m) s = .next t ∧ t.time.phase = .col ∧ t.frame = s.frame) ∧
  (∀ s : State, s.time.ticking = true → s.time.started = true → s.time.phase ≠ .stopped → ∃ t : State,
    exec .hardStop s = .next t ∧ t.time.phase = .stopped ∧ t.frame = s.frame ∧
    t.time.cyc = s.time.cyc + (s.cyclesTo s.nextBoundary - 80)) ∧
  (∀ s : State, s.time.frameOut = true → ∃ t : State, exec .frameOutFall s = .next t ∧ t.time.frameOut = false ∧
    t.frame = s.frame ∧ t.regs = s.regs) ∧
  (∀ (s : State) (f : Nat), s.time.ppsFall = some f → since32 s.frame f < 2 ^ 31 →
    exec .ppsOutFall s = .next (s.setTime { s.time with ppsOut := false, ppsFall := none })) ∧
  (∀ s : State, s.slewing = true → s.time.corrResid = 0 → exec .slewComplete s = .next ((s.advance s.slewCycles).put Fd.TIM_STATUS_SLEWING 0))) ∧
  (∀ (s : State) (v : Svc), s.time.ticking = true → s.time.started = true → s.time.phase = .col → s.time.overrunNow = false →
    s.xfer.svcs = [v] → v.past = false → v.attempts = 0 → s.xfer.opens = [] → s.linkState v.port = 7 → s.pathRecovers v.port v.addr = false →
    s.xfer.deferred = 0 →
    ∃ t : State, exec .hardStop s = .next t ∧
      t.get Fd.TIM_OVERRUN_DEFERRED = min (s.get Fd.TIM_OVERRUN_DEFERRED + 1) Fd.TIM_OVERRUN_DEFERRED.max ∧
      t.get Fd.TIM_OVERRUN_FRAMES = min (s.get Fd.TIM_OVERRUN_FRAMES + 1) Fd.TIM_OVERRUN_FRAMES.max ∧
      t.get Fd.TIM_STATUS_OVERRUN = 1 ∧ t.xfer.deferred = 1)

/-- R73: a correction is split into whole periods and a residual of at most half a period. -/
def Obligations.CorrectionSplit : Prop :=
  ∀ (d : Int) (p : Nat), 0 < p → 2 * (d - splitWhole d p * (p : Int)).natAbs ≤ p

/-- The discipline on an edge and without one (R79 to R82). -/
def Obligations.PpsDiscipline : Prop :=
  (∀ (s : State) (dt : Nat) (fall : Bool), (s.advance dt).on Fd.TIM_PPS_CTRL_EN = false →
    exec (.ppsEdge dt fall) s = .next (s.advance dt)) ∧
  (∀ (s0 : State) (dt : Nat) (fall : Bool), let s := s0.advance dt
    s.on Fd.TIM_PPS_CTRL_EN = true → fall = s.on Fd.TIM_PPS_CTRL_POLARITY →
    s.discState = 2 → s.pair.holds = false → s.slewing = false → s.time.waitTick = false → s.holdDue = false →
    s.scree.injs = [] → (∀ c, s.disc.lastAcc = some c → c + 200000000 ≤ s.time.cyc) →
    s.phaseErr.natAbs ≤ s.get Fd.TIM_PPS_WINDOW_WINDOW → ∃ t : State, exec (.ppsEdge dt fall) s0 = .next t ∧
      t.get Fd.TIM_PPS_ERR_ERR = ofSigned 32 s.phaseErr ∧ t.get Fd.TIM_STATUS_TIME_ESTIMATED = 0 ∧ t.discState = 2 ∧
      t.get Fd.TIM_PPS_COUNT_ACCEPTED = min (s.get Fd.TIM_PPS_COUNT_ACCEPTED + 1) Fd.TIM_PPS_COUNT_ACCEPTED.max ∧
      t.time.rateNext = some (rateUnits (-(s.disc.integ + s.phaseErr + 64 * s.phaseErr))) ∧
      t.disc.integ = s.disc.integ + s.phaseErr ∧ t.disc.lastAcc = some s.time.cyc) ∧
  (∀ (s0 : State) (dt : Nat) (fall : Bool), let s := s0.advance dt
    s.on Fd.TIM_PPS_CTRL_EN = true → fall = s.on Fd.TIM_PPS_CTRL_POLARITY →
    s.discState = 2 → s.pair.holds = false → s.slewing = false → s.time.waitTick = false → s.holdDue = false →
    s.scree.injs = [] → s.get Fd.TIM_PPS_WINDOW_WINDOW < s.phaseErr.natAbs → ∃ t : State, exec (.ppsEdge dt fall) s0 = .next t ∧
      t.get Fd.TIM_PPS_COUNT_REJECTED = min (s.get Fd.TIM_PPS_COUNT_REJECTED + 1) Fd.TIM_PPS_COUNT_REJECTED.max ∧
      t.get Fd.TIM_RATE_RATE = s.get Fd.TIM_RATE_RATE ∧ t.time.rateNext = s.time.rateNext ∧ t.discState = 2) ∧
  (∀ (s : State) (dt : Nat), (s.advance dt).holdDue = true → ∃ t : State, exec (.holdoverEntry dt) s = .next t ∧
    t.discState = 3 ∧ t.get Fd.TIM_RATE_RATE = ofSigned 32 (rateUnits (-s.disc.integ)) ∧ t.frame = s.frame ∧
    t.disc.hoFromLocked = (s.discState == 2))

/-- The RTC's calibration and the snapshots (R84, R85). R86: the reconstruction of SYSTIME and FRAME_NO from a valid snapshot. -/
def Obligations.SnapshotsAndReconstruction : Prop :=
  ((∀ (s0 : State) (dt rtc b : Nat), let s := s0.advance dt
    s.timeRuns = true → s.time.calStart = some b → s.time.calBad = false → s.slewing = false → ∃ t : State,
    exec (.rtcCalibration dt rtc) s0 = .next t ∧
    t.get Fd.TIM_RTC_PERIOD_PERIOD = ((s.get Fd.TIM_RTC_PERIOD_PERIOD : Int) + divRoundEven
      (((s.nowNsAll + 2 ^ 32 * 1000000000 - b) % (2 ^ 32 * 1000000000) * 2 : Nat) - (s.get Fd.TIM_RTC_PERIOD_PERIOD : Int)) 8).toNat % 2 ^ 32 ∧
    t.time.calStart = some s.nowNsAll ∧ t.time.rtc = rtc % 2 ^ 48) ∧
  (∀ (s0 : State) (dt rtc : Nat), let s := s0.advance dt
    s.snapshotFree = true → s.timeRuns = true → ∃ t : State,
    exec (.runningSnapshot dt rtc) s0 = .next t ∧ leNat (Memory.read zeroByte t.tarn 0 4) = 0x4D495454 ∧
    leNat (Memory.read zeroByte t.tarn 12 4) = s.snapFrame % 2 ^ 32 ∧ leNat (Memory.read zeroByte t.tarn 16 6) = rtc % 2 ^ 48 ∧
    t.snapValid = true ∧ (∀ a, 48 ≤ a → SMap.get zeroByte t.tarn a = SMap.get zeroByte s.tarn a) ∧ t.regs = s.regs) ∧
  (∀ (s0 : State) (dt rtc : Nat), let s := s0.advance dt
    s.time.sleepSnap = true → s.snapshotFree = true → ∃ t : State,
    exec (.sleepSnapshot dt rtc) s0 = .next t ∧ t.time.sleepSnap = false ∧ t.snapValid = true ∧
    t.pdm.alarmFrom = some (rtc % 2 ^ 48) ∧ (∀ a, 48 ≤ a → SMap.get zeroByte t.tarn a = SMap.get zeroByte s.tarn a))) ∧
  (∀ (s : State) (rtc : Nat), s.time.recon = true → s.snapValid = true →
    let delta := (rtc % 2 ^ 48 + 2 ^ 48 - s.snapNum 0x10 6) % 2 ^ 48
    let elapsed := delta * s.snapNum 0x18 4 / 65536
    let p := periodNs (s.snapNum 0x24 1 % 4)
    let t0 := s.snapNum 4 4 * 1000000000 + s.snapNum 8 4
    ∃ t : State, exec (.timeReconstruction rtc) s = .next t ∧
      t.time.sys = (t0 + elapsed) % (2 ^ 32 * 1000000000) * 2 ^ 32 ∧
      t.frame = (s.snapNum 0x0C 4 + ((t0 + elapsed) / p - t0 / p)) % 2 ^ 32 ∧
      t.disc.uncertBase = min (s.snapNum 0x1C 4 + elapsed * s.snapNum 0x28 4 / 1000000000 + 10) 0xFFFFFFFF ∧
      t.get Fd.TIM_STATUS_TIME_ESTIMATED = 1 ∧ t.get Fd.TIM_CTRL_PERIOD = s.snapNum 0x24 1 % 4 ∧
      t.time.recon = false ∧ t.tarn = s.tarn)

/-- The time commands and the registers they set (R73, R78, R80, R88). -/
def Obligations.TimeCommands : Prop :=
  (∀ (s : State) (p : Side) (dt : Nat), (s.advance dt).reach p .manager = .ok → ∃ t : State,
    exec (.systimeLatchRead p dt) s = .next t ∧ t.host.readData = (s.advance dt).nowSec ∧
    t.get Fd.TIM_SYSTIME_NS_NS = (s.advance dt).nowNs % 2 ^ 30 ∧ t.get Fd.TIM_FRAME_NO_FRAME_NO = s.frame % 2 ^ 32) ∧
  (∀ (s : State) (w : PeriodChange), s.time.period = some w → since32 s.frame w.target < 2 ^ 31 → s.time.boundary % 1000000 = 0 →
    s.slewing = false → s.time.ticking = true → s.findCmd w.cmd = none → ∃ t : State, exec .framePeriodChange s = .next t ∧
    t.get Fd.TIM_CTRL_PERIOD = w.code % 4 ∧ t.get Fd.TIM_CTRL_STROBE_OFFSET = w.strobe % 2 ^ 12 ∧ t.time.period = none ∧
    t.frame = s.frame) ∧
  ∀ (s : State) (id : Nat) (c : Cmd),
  (s.Ready id 0x0400 c → c.u 0 1 = 0 → s.slewing = false → exec (.timeSet id) s = .next ((s.applyWhole
    (((c.u 4 4 : Int) - (s.time.boundary / 1000000000 : Nat)) * 1000000000 / (periodNs s.period : Int))).okay c [])) ∧
  (s.Ready id 0x0400 c → c.u 0 1 = 1 → c.u 8 4 ≤ 999999999 → s.discState < 2 → exec (.timeSet id) s = .next
    (((s.startCorrection ((c.u 4 4 * 1000000000 + c.u 8 4 : Nat) - (s.time.boundary : Int))).put Fd.TIM_STATUS_TIME_ESTIMATED 0).replan.okay c [])) ∧
  (s.Ready id 0x0400 c → c.u 0 1 = 1 → c.u 8 4 ≤ 999999999 → 2 ≤ s.discState → s.discState ≤ 4 →
    exec (.timeSet id) s = .next (s.finish c ST.denied 1 [])) ∧
  (s.Ready id 0x0401 c → exec (.timeGet id) s = .next (s.okay c
    (leBytes 4 (s.time.stamp / nsUnit / 1000000000) ++ leBytes 4 (s.time.stamp / nsUnit % 1000000000) ++ leBytes 4 s.frame ++
      leBytes 1 s.discState ++ leBytes 1 (s.get Fd.TIM_STATUS_TIME_ESTIMATED + 2 * s.get Fd.TIM_STATUS_SLEWING) ++
      leBytes 1 s.period ++ zeros 1 ++ leBytes 4 s.uncert ++ leBytes 2 (s.get Fd.TIM_CTRL_STROBE_OFFSET) ++ zeros 2))) ∧
  (s.Ready id 0x0402 c → c.u 0 1 ≤ 3 → 64 ≤ c.u 2 2 → c.u 2 2 ≤ 2000 → s.maxAcc + 16 * 64 ≤ c.u 2 2 * 64 → s.alloc.grants = [] →
    exec (.timeSetFramePeriod id) s = .next ((s.setTime { s.time with
      period := some { cmd := id, code := c.u 0 1, strobe := c.u 2 2, target := s.frame } }).begin c)) ∧
  (s.Ready id 0x0403 c → c.u 0 1 ≤ 1 → c.u 1 1 ≤ 1 → (c.i 2 2).natAbs ≤ 10000 → 100 ≤ c.u 4 4 → c.u 4 4 ≤ 100000 →
    c.u 8 4 ≤ 1000000 → c.u 12 4 ≤ 1000000 → ∃ t : State, exec (.timeSetPps id) s = .next (t.okay c []) ∧
    t.get Fd.TIM_PPS_CTRL_EN = c.u 0 1 ∧ t.get Fd.TIM_PPS_CTRL_POLARITY = c.u 1 1 ∧
    t.disc.hoPpb = c.u 8 4 ∧ t.disc.sleepPpb = c.u 12 4 ∧
    t.discState = (if s.discState = 4 then 4 else if c.u 0 1 = 1 ∧ s.get Fd.TIM_PPS_CTRL_EN = 0 then 1
      else if c.u 0 1 = 0 ∧ s.get Fd.TIM_PPS_CTRL_EN ≠ 0 then 0 else s.discState)) ∧
  (s.Ready id 0x0404 c → (c.i 0 4).natAbs ≤ 2684354 → (c.i 4 4).natAbs ≤ 500000000 → s.discState = 0 →
    exec (.timeAdjust id) s = .next (((s.setRate (c.i 0 4)).startCorrection (c.i 4 4 + s.corrLeft)).replan.okay c []) ∧
    (s.setRate (c.i 0 4)).get Fd.TIM_RATE_RATE = ofSigned 32 (c.i 0 4)) ∧
  (s.Ready id 0x0405 c → ∃ b : List Byte, b.length = 36 ∧ exec (.timeGetDiscipline id) s = .next (s.okay c b) ∧
    leAt b 0 1 = s.discState ∧ leAt b 12 4 = s.get Fd.TIM_PPS_ERR_ERR ∧ leAt b 16 4 = s.get Fd.TIM_RATE_RATE ∧
    leAt b 32 4 = s.get Fd.TIM_RTC_PERIOD_PERIOD)

/-- Training words and the stages they end (R96, R101, R102). `s.rxWords p 1 0` is the state after one good word. The delay measurement
(R104, R105). -/
def Obligations.TrainingAndDelay : Prop :=
  ((∀ (s : State) (p body : Nat), p < 8 → (s.rxWords p 1 0).linkState p = 2 → exec (.ts1 p body false false) s =
    .next (((s.rxWords p 1 0).editLp p fun l => { l with ts1Seen := true }).pollDone p)) ∧
  (∀ (s : State) (p : Nat), p < 8 → s.linkState p = 2 → (s.lp p).ts1Seen = true → s.isDm p = false → ∃ t : State,
    exec (.wordLockGain p) s = .next t ∧ t.linkState p = (if (s.lp p).kind = .l2exit then 4 else 3)) ∧
  (∀ (s : State) (p : Nat), p < 8 → (s.lp p).wordLock = false → 63 ≤ (s.lp p).good → ((s.rxWords p 1 0).lp p).wordLock = true) ∧
  (∀ (s : State) (p body : Nat), p < 8 → (s.rxWords p 1 0).linkState p = 4 → body / 2 ^ 8 % 16 = 1 →
    ((s.rxWords p 1 0).lp p).ts2Rx = 15 → s.isDm p = false → ∃ t : State, exec (.ts2 p body) s = .next t ∧ t.linkState p = 5 ∧
    t.get (Fd.LNK_STATUS_PARTNER_HUB p) = body / 2 ^ 14 % 2 ∧ t.get (Fd.LNK_STATUS_PARTNER_DUAL p) = body / 2 ^ 13 % 2) ∧
  (∀ (s : State) (p body : Nat), p < 8 → (s.rxWords p 1 0).linkState p = 4 → body / 2 ^ 8 % 16 ≠ 1 → exec (.ts2 p body) s =
    .next ((s.rxWords p 1 0).editLp p fun l => { l with ts2Rx := 0, verBad := true })) ∧
  (∀ (s : State) (p k : Nat), p < 8 → s.linkState p = k → 2 ≤ k → k ≤ 5 → (s.lp p).verBad = false → exec (.trainingTimeout p) s =
    .next (s.trainFail p (k - 1))) ∧
  (∀ (s : State) (p code : Nat), p < 8 → code < 16 → ∃ (u : State) (f : RecalCmd → Bool) (b : List Byte),
    s.trainFail p code = (u.loseLink 1 (rootLink p)).endRecals p f ST.fault code b ∧ u.linkState p = 1 ∧
    u.get (Fd.LNK_STATUS_LAST_FAIL p) = code ∧
    u.get (Fd.LNK_RECOV_TRAIN_FAILS p) = min (s.get (Fd.LNK_RECOV_TRAIN_FAILS p) + 1) (Fd.LNK_RECOV_TRAIN_FAILS p).max ∧
    (u.lp p).fails = (s.lp p).fails + 1 ∧
    (u.lp p).waitUntil = some ((s.frame + (if 4 ≤ (s.lp p).fails + 1 then 4096 else 16)) % 2 ^ 32)) ∧
  (∀ (s : State) (p f : Nat), p < 8 → (s.lp p).waitUntil = some f → since32 s.frame f < 2 ^ 31 →
    exec (.detectWaitEnd p) s = .next (s.editLp p fun l => { l with waitUntil := none, detects := 0 }))) ∧
  ((∀ (s : State) (p stamp : Nat), p < 8 → s.linkState p = 5 → s.isDm p = false → (s.lp p).pings < 64 → exec (.pingSend p stamp) s =
    .next ((s.say p 0x27 ((s.lp p).pings * 2 ^ 8)).editLp p fun l => { l with
      exch := l.exch ++ [{ seq := l.pings, launch := stamp, echo := none, trip := none }], pings := l.pings + 1 })) ∧
  (∀ (s : State) (p body stamp : Nat) (e : Exchange), p < 8 → ((s.rxWords p 1 0).lp p).exch = [e] → e.seq = body / 2 ^ 8 → e.echo = none →
    ∃ t : State, exec (.lnkEcho p body stamp) s = .next t ∧ (t.lp p).exch = [{ e with echo := some stamp }] ∧ t.regs = (s.rxWords p 1 0).regs) ∧
  (∀ (s : State) (p turn a : Nat) (e : Exchange), p < 8 → ((s.rxWords p 1 0).lp p).exch = [e] → e.echo = some a → e.trip = none → e.seq < 63 →
    turn < 2 ^ 16 → ∃ t : State, exec (.lnkTurn p turn) s = .next t ∧ t.get (Fd.LNK_DELAY_INFO_TURN p) = turn ∧
    (t.lp p).exch = [{ e with trip := some ((a : Int) - e.launch - turn) }]) ∧
  (∀ (s : State) (p body turn : Nat), p < 8 → (s.rxWords p 1 0).isDm p = true → exec (.lnkPing p body turn) s =
    .next ((((s.rxWords p 1 0).editLp p fun l => { l with echoed := some (body / 2 ^ 8, turn) }).say p 0x2B (body / 2 ^ 8 * 2 ^ 8)).say
      p 0x2D turn)) ∧
  (∀ (l : List Int) (d : Nat), l ≠ [] → 0 ≤ l.foldl (· + ·) 0 → judgeTrips (some l) = .good d →
    d ≤ 819 ∧ spread l ≤ 8 ∧ (2 * (l.foldl (· + ·) 0 - (d : Int) * (2 * l.length : Nat))).natAbs ≤ 2 * l.length) ∧
  (∀ (s : State) (p : Nat), p < 8 → judgeTrips ((s.lp p).trips 64) = .again → (s.lp p).attempts = 3 →
    s.judgeStage p = (s.showSpread p 64).trainFail p 6) ∧
  (∀ (s : State) (p : Nat), p < 8 → judgeTrips ((s.lp p).trips 64) = .tooLong → s.judgeStage p = (s.showSpread p 64).trainFail p 5) ∧
  (∀ (s : State) (p d : Nat), p < 8 → judgeTrips ((s.lp p).trips 64) = .good d → d ≤ 819 → s.isDm p = false →
    (s.judgeStage p).linkState p = 6 ∧ (s.judgeStage p).get (Fd.LNK_DELAY_MEASURED p) = d ∧
    (s.judgeStage p).get (Fd.LNK_DELAY_USED p) = d))

/-- Words that fail their check and control words on a working link (R93 to R97). -/
def Obligations.LinkWords : Prop :=
  (∀ (s : State) (p w : Nat), p < 8 → wordBad w = true →
    (s.lp p).wordLock = false ∨ (((s.lp p).recent.take 63).filter id).length < 15 → ∃ t : State, exec (.wordError p w) s = .next t ∧
    t.get (Fd.LNK_ERR_WORD p) = min (s.get (Fd.LNK_ERR_WORD p) + 1) (Fd.LNK_ERR_WORD p).max ∧
    (∀ a, a ≠ Reg.LNK_ERR p → t.rd a = s.rd a)) ∧
  (∀ (s : State) (p w : Nat), p < 8 → wordBad w = true → s.linkState p = 7 → (s.lp p).wordLock = true →
    15 ≤ (((s.lp p).recent.take 63).filter id).length → ∃ t : State, exec (.wordError p w) s = .next t ∧ t.linkState p = 8) ∧
  (∀ w : Nat, w / 2 ^ 28 % 4 = 0 ∨ w / 2 ^ 28 % 4 = 3 → wordBad w = true) ∧
  (∀ (s : State) (p : Nat), p < 8 → (s.lp p).descrOn = true → ∃ t : State,
    exec (.lnkIdle p ((s.lp p).descr % 2 ^ 16)) s = .next t ∧ t.regs = (s.rxWords p 1 0).regs) ∧
  (∀ (s : State) (p body : Nat), p < 8 → (s.lp p).descrOn = true → body ≠ (s.lp p).descr % 2 ^ 16 → ∃ t : State,
    exec (.lnkIdle p body) s = .next t ∧
    t.get (Fd.LNK_ERR_SCRAMBLE p) = min (s.get (Fd.LNK_ERR_SCRAMBLE p) + 1) (Fd.LNK_ERR_SCRAMBLE p).max) ∧
  (∀ (s : State) (p code : Nat), p < 8 → knownCodes.contains code = false →
    exec (.unknownControlWord p code) s = .next ((s.rxWords p 1 0).bump (Fd.LNK_ERR_UNKNOWN p))) ∧
  (∀ (s : State) (p code : Nat), p < 8 → knownCodes.contains code = true → exec (.unknownControlWord p code) s = .next (s.rxWords p 1 0)) ∧
  (∀ (s : State) (p b : Nat), p < 8 → exec (.lnkUmark p b) s =
    .next ((s.rxWords p 1 0).editLp p fun l => { l with descr := 0xFFFFFF, descrOn := true, mism := 0 }))

/-- RECOVERY and the power states of a link (R107 to R110, R151). Recalibration and the commands of a link (R111, R112, R115, R116). -/
def Obligations.LinkStatesAndRecalibration : Prop :=
  ((∀ (s : State) (p : Nat), p < 8 → s.linkState p = 7 → s.isDm p = false → ∃ t : State, exec (.wordLockLoss p) s = .next t ∧
    t.linkState p = 8 ∧ (t.lp p).wordLock = false ∧ (t.lp p).slot = none) ∧
  (∀ (s : State) (p : Nat), p < 8 → s.linkState p ≠ 7 → ∃ t : State, exec (.wordLockLoss p) s = .next t ∧ t.regs = s.regs ∧
    t.lp p = { s.lp p with recent := [], good := 0, wordLock := false } ∧
    (s.isDm p = true → t.tree.dm.lastSof = none ∧ t.tree.dm.strobeAt = none)) ∧
  (∀ (s : State) (p : Nat), p < 8 → s.linkState p = 8 → (s.lp p).wordLock = true → (s.lp p).ts1Seen = true → 16 ≤ (s.lp p).ts2Rx →
    exec (.recoveryComplete p) s = .next (s.editLp p fun l => { l with l0Next := true })) ∧
  (∀ (s : State) (p : Nat), (s.lp p).wordLock = false ∨ (s.lp p).ts1Seen = false ∨ (s.lp p).ts2Rx < 16 →
    exec (.recoveryComplete p) s = .next s) ∧
  (∀ (s : State) (p : Nat), p < 8 → s.linkState p = 8 → (s.lp p).l0Next = false → s.isDm p = false → ∃ u : State,
    exec (.recoveryTimeout p) s = .next (u.loseLink 1 (rootLink p)) ∧ u.linkState p = 1 ∧ u.get (Fd.LNK_STATUS_LAST_FAIL p) = 8 ∧
    u.get (Fd.LNK_RECOV_RETRAINS p) = min (s.get (Fd.LNK_RECOV_RETRAINS p) + 1) (Fd.LNK_RECOV_RETRAINS p).max) ∧
  (∀ (s : State) (p : Nat), p < 8 → let s0 := s.rxWords p 1 0
    s0.isDm p = false → (s0.lp p).pmReq = 1 → exec (.pm p (2 * 2 ^ 12)) s =
      .next (s0.editLp p fun l => { l with pmReq := 0, pmEnter := 9, pmAt := s0.time.cyc })) ∧
  (∀ (s : State) (p : Nat), p < 8 → let s0 := s.rxWords p 1 0
    s0.isDm p = false → exec (.pm p (5 * 2 ^ 12)) s = .next (s0.editLp p fun l => { l with pmReq := 0 })) ∧
  (∀ (s : State) (p : Nat), p < 8 → exec (.pmAnswerTimeout p) s = .next (s.editLp p fun l => { l with pmReq := 0 })) ∧
  (∀ (s : State) (p : Nat), p < 8 → s.linkState p = 10 → s.on Fd.TRE_CTRL_AUTO_RESUME = false → ∃ t : State,
    exec (.lnkBeacon p) s = .next t ∧ t.get (Fd.LNK_EVENT_WAKE p) = 1 ∧ t.get Fd.TRE_EVENT_WAKE = 1 ∧ t.linkState p = 10) ∧
  (∀ (s : State) (p : Nat), p < 8 → s.linkState p = 10 → since32 s.frame (s.lp p).lowFrame ≥ 256 → exec (.lowPowerDetect p true) s =
    .next (s.editLp p fun x => { x with lowFrame := s.frame, absents := 0 })) ∧
  (∀ (s : State) (p : Nat), p < 8 → s.linkState p = 10 → since32 s.frame (s.lp p).lowFrame ≥ 256 → (s.lp p).absents = 1 →
    exec (.lowPowerDetect p false) s =
      .next ((s.editLp p fun x => { x with lowFrame := s.frame, absents := 2 }).removal p))) ∧
  ((∀ (s : State) (p : Nat), p < 8 → s.linkState p = 7 → bits (s.lp p).ctrlEff 19 16 = 0 → since32 s.frame (s.lp p).dlyBase ≥ 256 →
    exec (.recalDue p 0) s = .next (s.editLp p fun x => { x with dlyDue := true })) ∧
  (∀ (s : State) (p : Nat), p < 8 → (s.lp p).slot = some 1 → (s.lp p).dlyDue = false → (s.lp p).rxDue = false → s.links.recals = [] → ∃ t : State,
    exec (.recalSlotComplete p) s = .next t ∧ t.get (Fd.LNK_RECAL_LAST_KIND p) = 1 ∧
    t.get (Fd.LNK_RECAL_FRAME_FRAME p) = s.frame % 2 ^ 32 ∧ (t.lp p).slot = none ∧ (t.lp p).rxBase = s.frame) ∧
  (∀ (s : State) (p v : Nat), p < 8 → s.reach s.boot.barPort .manager = .ok → p < s.ports → writable (Reg.LNK_CTRL p) v = true →
    s.bistHolds = false → bitAt v 2 = true → exec (.lnkRetrainWrite s.boot.barPort p v) s =
      .next ((s.storeReg (Reg.LNK_CTRL p) v).editLp p fun l => { l with retrain := true })) ∧
  ∀ (s : State) (id : Nat) (c : Cmd),
  (s.Ready id 0x0108 c → s.badLink (c.link 0 3 4) = false → (c.link 0 3 4).hub = 0 → c.u 1 1 = 0 →
    s.linkState (c.link 0 3 4).port = 7 → exec (.linkRecalibrate id) s =
      .next (({ s with links := { s.links with
          recals := s.links.recals ++ [{ cmd := c.id, port := (c.link 0 3 4).port, kind := 0, ran := false }] } } : State).begin c)) ∧
  (s.Ready id 0x0108 c → s.badLink (c.link 0 3 4) = false → (c.link 0 3 4).hub = 0 → c.u 1 1 = 0 →
    s.linkState (c.link 0 3 4).port ≠ 7 → exec (.linkRecalibrate id) s = .next (s.finish c ST.denied 2 [])) ∧
  (s.Ready id 0x0109 c → s.badLink (c.link 0 1 2) = false → (c.link 0 1 2).hub = 0 →
    exec (.linkGetStatus id) s = .next (s.okay c (s.linkBytes (c.link 0 1 2).port))) ∧
  (s.Ready id 0x0109 c → s.badLink (c.link 0 1 2) = true → exec (.linkGetStatus id) s = .next (s.finish c ST.invalid 0 [])))

/-- R300 and R301: a claim takes the source of the queue's OFFERED ones that comes first and answers its word; the next claim of an empty
queue answers 0x3FF. COMPLETE of the claimed source by its queue ends the service, PENDING if it fired again or is asserted; any other
COMPLETE counts in ERRORS. -/
def Obligations.ClaimsAndCompletions : Prop :=
  ∀ (s : State) (p : Side) (via : Via) (q Q : Nat), s.reach p via = .ok → s.queueVia via q = some Q →
  (∀ n, s.claimable Q = some n → (s.src n).inQueues.contains Q = true → (s.src n).st = .offered → ∃ t : State,
    exec (.evqClaim p via q) s = .next t ∧ t.host.readData = s.claimWord n ∧ t.regs = s.regs ∧
    t.src n = { s.src n with st := .inService, occ := 0, inQueues := [], server := some Q } ∧
    (∀ m, m ≠ n → t.src m = s.src m)) ∧
  (s.claimable Q = none → exec (.evqClaim p via q) s = .next ((s.answer 0x3FF).replyOn p)) ∧
  (∀ n, (s.src n).st = .inService → (s.src n).server = some Q → n < 1024 → (srcLevel n = false ∨ s.levelArg n = 0) →
    (s.src n).occ = 0 → ∃ t : State, exec (.evqComplete p via q n) s = .next t ∧ (t.src n).st = .inactive ∧
      (t.src n).server = none ∧ (∀ m, m ≠ n → t.src m = s.src m) ∧ t.regs = s.regs) ∧
  (∀ n, (s.src n).st = .inService → (s.src n).server = some Q → n < 1024 →
    (s.src n).occ ≠ 0 ∨ (srcLevel n = true ∧ s.levelArg n ≠ 0) → ∃ t : State, exec (.evqComplete p via q n) s = .next t ∧
      (t.src n).st = .pending ∧ (t.src n).server = none ∧ (∀ m, m ≠ n → t.src m = s.src m) ∧ t.regs = s.regs) ∧
  (∀ n, n < 1024 → (s.src n).st ≠ .inService ∨ (s.src n).server ≠ some Q →
    exec (.evqComplete p via q n) s = .next (s.bump (Fd.EVQ_Q_STATUS_ERRORS Q)))

/-- R292, R293, R294, R296, R297, R299 and R302: commits, hold-offs, the masks of messages, CONS, SET, QUAR and EN of a queue. R298, R299:
the oldest committed record whose port takes it (R234), of a live generation, is written as two posted writes, the second with Relaxed
Ordering clear. -/
def Obligations.EventDeliveryAndRecords : Prop :=
  ((∀ (s : State) (n : Nat), s.nextSource = some n → ∃ t : State, exec .eventCommit s = .next t ∧
    (t.src n).st = (if s.needsClaim n then .offered else .inactive) ∧ (t.src n).occ = 0 ∧ (t.src n).sw = false ∧
    (t.src n).commitAt = some s.frame ∧ (∀ m, m ≠ n → t.src m = s.src m)) ∧
  (∀ s : State, s.nextSource = none → exec .eventCommit s = .next s) ∧
  (∀ (s : State) (p : Side) (v : Nat), ∃ t : State, exec (.msixUnmask p v) s = .next t ∧
    t.host.msixMask.contains (p, v) = false ∧ t.host.msixPend.contains (p, v) = false ∧
    t.host.msix = (if s.host.msixPend.contains (p, v) then s.host.msix ++ [(p, v)] else s.host.msix)) ∧
  (∀ (s : State) (n f : Nat), (s.src n).commitAt = some f → s.heldOff n = false →
    exec (.holdoffExpiry n) s = .next (s.putSrc n { s.src n with commitAt := none })) ∧
  (∀ (s : State) (n : Nat), (s.src n).quarDue = true → (s.src n).quar = false → ∃ t : State,
    exec (.quarantine n) s = .next t ∧ (t.src n).quar = true ∧ t.srcMasked n = true) ∧
  (∀ (s : State) (p : Side) (via : Via) (q Q v : Nat), s.reach p via = .ok → s.queueVia via q = some Q → v < 65536 →
    ((v + 65536 - s.qCons Q) % 65536 ≤ s.qUsed Q → ∃ t : State, exec (.evqCons p via q v) s = .next t ∧
      t.qCons Q = v ∧ t.qProd Q = s.qProd Q ∧ t.on (Fd.EVQ_Q_STATUS_ARMED Q) = decide (s.qProd Q = v)) ∧
    (s.qUsed Q < (v + 65536 - s.qCons Q) % 65536 →
      exec (.evqCons p via q v) s = .next (s.bump (Fd.EVQ_Q_STATUS_ERRORS Q)))) ∧
  (∀ (s : State) (p : Side) (via : Via) (x n : Nat), s.reach p via = .ok → s.srcVia via x = some n →
    (s.srcLive n = true → ∃ t : State, exec (.evqSet p via x) s = .next t ∧ (t.src n).sw = true ∧
      (t.src n).occ = min ((s.src n).occ + 1) 255 ∧ (t.src n).st ≠ .inactive ∧ t.regs = s.regs ∧
      (∀ m, m ≠ n → t.src m = s.src m)) ∧
    exec (.evqQuarClear p via x) s = .next (s.putSrc n { s.src n with quar := false, run := 0, quarDue := false })) ∧
  (∀ (s : State) (p : Side) (via : Via) (q Q v : Nat), s.reach p via = .ok → s.queueVia via q = some Q → s.qEn Q = false →
    bitAt v 31 = true → 6 ≤ v / 2 ^ 12 % 16 → ∃ t : State, exec (.evqQueueEnable p via q v) s = .next t ∧ t.qEn Q = true ∧
      t.qSize Q = 2 ^ (v / 2 ^ 12 % 16) ∧ t.qProd Q = 0 ∧ t.qCons Q = 0)) ∧
  (∀ (s : State) (r : EventRec), s.nextEvent = some r → r.gen = (s.instOf r.inst).gen → (s.instOf r.inst).exist = true →
    s.portUp (s.instOf r.inst).port = true → s.isoKind r.inst (pasidOf (s.rd (Reg.EVQ_Q_PASID r.queue)).toNat) = 0 → ∃ t : State,
    exec (.eventRecordWrite true) s = .next t ∧ t.evq.records = s.evq.records.erase r ∧
    (t.host.writes.drop s.host.writes.length).map (fun w => (w.data, w.relaxed)) =
      [(leBytes 4 r.word0 ++ leBytes 4 r.arg ++ leBytes 4 r.frame, false), (leBytes 4 (r.phase * 2 ^ 31 + r.ns), false)])

/-- R303: a qualifying edge of a WAKE pin sets its latch; the count is captured at the next RTC edge. R305: a claim of the active pair
takes the highest request above the stack's top; a completion of the top pops it, and any other is counted in FAULTS. R33: of an
instance's mailbox, a class M command completes DENIED. -/
def Obligations.WakeLatchesAndControlClaims : Prop :=
  ((∀ (s0 : State) (n dt rtc : Nat) (level : Bool), n < 4 → s0.boot.vaoOk = true → let s := s0.advance dt
    wakeEdge (bits (s.rd Reg.EVQ_WAKE_CFG) (2 * n + 1) (2 * n)) (bitAt s.evq.wakeIn n) level = true → ∃ t : State,
    exec (.wakeLatchSet n level dt rtc) s0 = .next t ∧ t.bitOf Reg.EVQ_WAKE_LATCH n = true ∧ bitAt t.evq.wakeCap n = true) ∧
  (∀ (s : State) (n rtc : Nat), n < 4 → bitAt s.evq.wakeCap n = true → rtc < 2 ^ 32 → ∃ t : State,
    exec (.wakeStampCapture rtc) s = .next t ∧ t.get (Fd.EVQ_WAKE_STAMP_RTC n) = rtc ∧ t.evq.wakeCap = 0 ∧ t.time.rtc = rtc)) ∧
  ((∀ (s : State) (r : CpReq), s.cpNext = some r → r = .tick → ∃ t : State,
    exec .cpClaim s = .next t ∧ t.mbx.cpAnswer = cpNumber r ∧ t.mbx.cpStack = (cpPriority r, r) :: s.mbx.cpStack ∧
    t.mbx.cpReqs = s.mbx.cpReqs.filter (· != r) ∧ t.get Fd.EVQ_CP_STATUS_TOP = cpPriority r % 8) ∧
  (∀ s : State, s.cpNext = none → exec .cpClaim s = .next { s with mbx := { s.mbx with cpAnswer := 0x3FF } }) ∧
  (∀ (s : State) (m sl lo hi : Nat), s.cpNext = some .doorbell → s.fwServes = true → nextRung s.mbx.rung = some (m, sl) → m ≠ 0 →
    m < 64 → sl < 8 → opInfo (s.slotNum m sl 0 2) = some (true, lo, hi) → s.slotNum m sl 5 1 = 0 → s.slotNum m sl 4 1 ≤ 1 →
    s.slotNum m sl 6 2 ≤ 240 → ∃ t : State, exec .cpClaim s = .next t ∧ t.slotNum m sl 5 1 = ST.denied ∧
      t.bitOf (Reg.MBX_OWNER m) sl = false ∧ t.bitOf (Reg.MBX_DONE m) sl = true ∧ t.findCmd s.mbx.nextId = none ∧
      t.links = s.links ∧ t.tree = s.tree ∧ t.alloc = s.alloc ∧ t.xfer = s.xfer ∧ t.inst = s.inst ∧ t.flash = s.flash) ∧
  (∀ (s : State) (p : Nat) (r : CpReq) (rest : List (Nat × CpReq)), s.mbx.cpStack = (p, r) :: rest → ∃ t : State,
    exec (.cpComplete r) s = .next t ∧ t.mbx.cpStack = rest ∧ t.get Fd.EVQ_CP_STATUS_DEPTH = rest.length % 16) ∧
  (∀ (s : State) (p : Nat) (r q : CpReq) (rest : List (Nat × CpReq)), s.mbx.cpStack = (p, r) :: rest → q ≠ r → ∃ t : State,
    exec (.cpComplete q) s = .next t ∧ t.mbx.cpStack = s.mbx.cpStack ∧
    t.get Fd.EVQ_CP_STATUS_FAULTS = min (s.get Fd.EVQ_CP_STATUS_FAULTS + 1) Fd.EVQ_CP_STATUS_FAULTS.max))

/-- R280: at its reset an instance's generation goes up by one modulo 256, its channels and queues stop and empty, its completion rings
close, its mailbox (but mailbox 0's) is cleared; the tick resets it once (R284). R283 and R415: the events of a host port reset every
instance bound to it at the next tick. -/
def Obligations.InstanceResets : Prop :=
  (∀ (s : State) (i : Nat), i < 64 → (s.instOf i).exist = true → s.inst.resetOn.contains i = false →
    (∀ n, n ∈ (s.instOf i).dma → n < 32) → (∀ q, q ∈ (s.instOf i).queues → q < 256) → ∃ t : State,
    exec (.instanceReset i) s = .next t ∧ (t.instOf i).gen = ((s.instOf i).gen + 1) % 256 ∧
    (t.instOf i).dma = (s.instOf i).dma ∧ (t.instOf i).queues = (s.instOf i).queues ∧ (t.instOf i).port = (s.instOf i).port ∧
    t.inst.resetOn.contains i = true ∧ t.inst.resetAt.contains i = false ∧
    (t.rings.crOpen.all fun x => x.1 != i) = true ∧ t.get (Fd.INS_CR_OPEN_OPEN i) = 0 ∧ t.rd (Reg.INS_DB_ERR i) = 0 ∧
    (∀ n, n ∈ (s.instOf i).dma → t.get (Fd.DMA_CH_CTRL_EN n) = 0) ∧
    (∀ q, q ∈ (s.instOf i).queues → t.qEn q = false ∧ t.qProd q = 0 ∧ t.qCons q = 0) ∧
    (i ≠ 0 → t.rd (Reg.MBX_OWNER i) = 0 ∧ (t.mbx.taken.all fun c => c.mbx != i) = true ∧
      ∀ o < 0x800, SMap.get zeroByte t.mbx.slots (i * 0x800 + o) = 0) ∧
    (∀ j, j ≠ i → t.instOf j = s.instOf j)) ∧
  (∀ (s : State) (i : Nat), ¬ (i < 64 ∧ (s.instOf i).exist = true) → exec (.instanceReset i) s = .next s) ∧
  (∀ (s : State) (p : Side),
    exec (.functionLevelReset p) s = .next (s.portReset p) ∧
    (∀ i, i ∈ s.instList → (s.instOf i).port = p → i ∈ (s.portReset p).inst.resetAt) ∧
    (∀ i, i ∈ (s.portReset p).inst.resetAt → i ∈ s.inst.resetAt ∨ (s.instOf i).port = p) ∧
    (s.portReset p).regs = s.regs ∧
    exec (.dataLinkDown p) s = .next ((s.putPortUp p false).portReset p) ∧
    exec (.perstAssert p) s = .next ((s.putPortUp p false).portReset p))

/-- R272 to R276, R284, R285 and R288: the instance commands that do their work: what each makes of the instance it names. -/
def Obligations.InstanceCommands : Prop :=
  ∀ (s : State) (id : Nat) (c : Cmd),
  (s.Ready id 0x0300 c → c.u 0 1 ≠ 0 → c.u 0 1 ≤ 63 → (s.instOf (c.u 0 1)).exist = false → c.u 1 1 ≤ 1 → c.u 2 1 ≤ s.freeDma.length →
    c.u 3 1 ≠ 0 → c.u 3 1 ≤ 16 → c.u 3 1 ≤ s.freeQueues.length → c.u 4 2 ≤ 16368 → c.u 4 2 ≤ s.freeEntries → c.u 8 4 ≤ s.freeShare →
    c.u 12 8 % 4096 = 0 → windowOk (c.u 24 4) = true → tablePasidOk (c.u 20 4) (c.u 24 4) = true → usedRanges (c.ranges 28) = [] →
    ∃ t : State, exec (.instCreate id) s =
      .next (t.okay c (leBytes 1 (c.u 0 1) ++ leBytes 1 (s.instOf (c.u 0 1)).gen ++ zeros 2 ++ leBytes 4 (maskOf (s.freeDma.take (c.u 2 1))))) ∧
      t.instOf (c.u 0 1) =
        { exist := true, port := if c.u 1 1 = 1 then .h1 else .h0, gen := (s.instOf (c.u 0 1)).gen, dma := s.freeDma.take (c.u 2 1)
          queues := s.freeQueues.take (c.u 3 1), allot := c.u 4 2, share := c.u 8 4, table := c.u 12 8, tablePasid := c.u 20 4
          window := c.u 24 4, ranges := c.ranges 28, discards := 0, lateSeen := false } ∧
      t.instOf 0 = { s.instOf 0 with share := t.freeShare } ∧ (∀ j, j ≠ 0 → j ≠ c.u 0 1 → t.instOf j = s.instOf j)) ∧
  (s.Ready id 0x0300 c → c.u 0 1 = 0 → c.u 2 1 ≤ 32 → c.u 3 1 ≠ 0 → c.u 3 1 ≤ 16 → c.u 4 2 ≤ 16368 →
    exec (.instCreate id) s = .next (s.finish c ST.invalid 1 [])) ∧
  (s.Ready id 0x0301 c → c.u 0 1 = 0 → exec (.instDestroy id) s = .next (s.finish c ST.invalid 1 [])) ∧
  (s.Ready id 0x0301 c → c.u 0 1 ≠ 0 → c.u 0 1 ≤ 63 → (s.instOf (c.u 0 1)).exist = true → c.u 1 1 = (s.instOf (c.u 0 1)).gen →
    s.inst.resetOn.contains (c.u 0 1) = false → ∃ t : State,
    exec (.instDestroy id) s = .next (t.okay c (leBytes 1 ((c.u 1 1 + 1) % 256))) ∧ (t.instOf (c.u 0 1)).exist = false ∧
    (t.instOf (c.u 0 1)).gen = (c.u 1 1 + 1) % 256 ∧ (t.instOf (c.u 0 1)).dma = [] ∧ (t.instOf (c.u 0 1)).queues = []) ∧
  (s.Ready id 0x0302 c → c.u 0 1 ≤ 63 → (s.instOf (c.u 0 1)).exist = true → c.u 1 1 = (s.instOf (c.u 0 1)).gen →
    s.inst.resetOn.contains (c.u 0 1) = false → ∃ t : State,
    exec (.instReset id) s = .next (t.okay c (leBytes 1 ((c.u 1 1 + 1) % 256))) ∧ t.inst.resetOn.contains (c.u 0 1) = true ∧
    t.instOf (c.u 0 1) = { s.instOf (c.u 0 1) with gen := (c.u 1 1 + 1) % 256, lateSeen := false, discards := (t.instOf (c.u 0 1)).discards }) ∧
  (s.Ready id 0x0302 c → c.u 0 1 ≤ 63 → (s.instOf (c.u 0 1)).exist = true → s.inst.portOn.contains (c.u 0 1) = true →
    s.inst.resetOn.contains (c.u 0 1) = true → (c.u 1 1 + 1) % 256 = (s.instOf (c.u 0 1)).gen → (s.instOf (c.u 0 1)).gen < 256 → ∃ t : State,
    exec (.instReset id) s = .next (t.okay c (leBytes 1 (s.instOf (c.u 0 1)).gen)) ∧ t.instOf (c.u 0 1) = s.instOf (c.u 0 1)) ∧
  (s.Ready id 0x0302 c → c.u 0 1 ≤ 63 → (s.instOf (c.u 0 1)).exist = true → c.u 1 1 ≠ (s.instOf (c.u 0 1)).gen →
    s.inst.portOn.contains (c.u 0 1) = false →
    exec (.instReset id) s = .next (s.finish c ST.stale 0 [])) ∧
  (s.Ready id 0x0303 c → c.mbx ≠ 0 → c.u 0 1 = c.mbx ∨ c.u 0 1 = 0xFF →
    exec (.instGet id) s = .next (s.okay c (s.instBytes c.mbx)) ∧ (s.instBytes c.mbx).take 2 = leBytes 1 c.mbx ++ leBytes 1 (s.instOf c.mbx).gen) ∧
  (s.Ready id 0x0304 c → c.u 0 1 ≠ 0 → c.u 0 1 ≤ 63 → (s.instOf (c.u 0 1)).exist = true → c.u 1 1 = (s.instOf (c.u 0 1)).gen →
    c.u 6 2 = 2 → c.u 8 4 ≤ (s.instOf (c.u 0 1)).share + s.freeShare → s.shareUsed s.alloc.grants (c.u 0 1) ≤ c.u 8 4 → ∃ t : State,
    exec (.instResize id) s = .next (t.okay c []) ∧
    t.instOf (c.u 0 1) = { s.instOf (c.u 0 1) with share := c.u 8 4 }) ∧
  (s.Ready id 0x0305 c → exec (.instGetPool id) s = .next (s.okay c
    (leBytes 4 131072 ++ leBytes 4 s.freeEntries ++ leBytes 4 (128 * s.policyB * s.ports) ++ leBytes 4 s.freeShare ++ leBytes 1 32 ++
      leBytes 1 s.freeDma.length ++ leBytes 2 256 ++ leBytes 2 s.freeQueues.length ++ zeros 2)))

/-- R222 and R223 for sampled IN: what each answer makes of the service. Good data gives DATA; NRDY with REASON 1 NO_SAMPLE; NRDY with
REASON 0, ERR 1 and ERR 3 FAILED with CAUSE 3; NRDY after a ready indication FAILED with CAUSE 3, counted in XFR_WITHDRAWN and not in
ERRORS; no response FAILED with CAUSE 1; a damaged packet FAILED with CAUSE 2. The transaction closes. R222 and R224 for assured IN:
without a response the service is tried again while it has had fewer than 1 + ASSURED_RETRY attempts; after the last it ends FAILED and
enters history recovery. A NO_SAMPLE answer does not. -/
def Obligations.PeriodicAnswers : Prop :=
  (∀ (s : State) (p a : Nat) (t : Txn) (v : Svc), s.findTxn p a = some t → t.kind = .periodic → t.dirIn = true → t.abort = false →
    s.liveSvc t.key = some v → v.dirIn = true → v.entry ≠ 0 → v.assured = false → s.scree.injs = [] →
  (∀ sop words xtra pid ws, s.judgePacket t sop words false true false = .data ws xtra pid → ∃ u : State,
    exec (.packetReceive p a sop words false true false) s = .next (u.sysDone.rxWords p (words.length + 2) 0) ∧
    u.xfer.slots = s.xfer.slots ++ [v.slot s.frame 0 0 ws (bitAt xtra 1)] ∧ u.xfer.opens = s.xfer.opens.erase t ∧
    u.regs = s.regs ∧ u.pager = s.pager) ∧
  (∀ sop words bad ended abort, s.judgePacket t sop words bad ended abort = .damaged → ∃ u : State,
    exec (.packetReceive p a sop words bad ended abort) s = .next (u.sysDone.rxWords p (words.length + 1 + b2n ended) (b2n bad)) ∧
    u.xfer.slots = s.xfer.slots ++ [v.slot s.frame 2 2 [] false] ∧ u.xfer.opens = s.xfer.opens.erase t ∧
    u.regs = (if wireDamaged t sop words bad ended abort then s.bump Fd.XFR_CHECK_CRC24 else s).regs) ∧
  (∀ body, hskAnswer t body = .nrdy 1 → ∃ u : State, exec (.handshake p a body) s = .next (u.sysDone.rxWords p 1 0) ∧
    u.xfer.slots = s.xfer.slots ++ [v.slot s.frame 1 0 [] false] ∧ u.xfer.opens = s.xfer.opens.erase t ∧ u.regs = s.regs) ∧
  (∀ body, (hskAnswer t body = .nrdy 0 ∧ v.ready = false) ∨ hskAnswer t body = .err 1 ∨ hskAnswer t body = .err 3 → ∃ u : State,
    exec (.handshake p a body) s = .next (u.sysDone.rxWords p 1 0) ∧
    u.xfer.slots = s.xfer.slots ++ [v.slot s.frame 2 3 [] false] ∧ u.xfer.opens = s.xfer.opens.erase t ∧ u.regs = s.regs) ∧
  (∀ body, hskAnswer t body = .nrdy 0 → v.ready = true → ∃ u : State,
    exec (.handshake p a body) s = .next (u.sysDone.rxWords p 1 0) ∧
    u.xfer.slots = s.xfer.slots ++ [v.slot s.frame 2 3 [] false] ∧ u.pager = s.pager ∧ u.get Fd.XFR_EVENT_WITHDRAWN = 1 ∧
    u.get Fd.XFR_WITHDRAWN_COUNT = min (s.get Fd.XFR_WITHDRAWN_COUNT + 1) Fd.XFR_WITHDRAWN_COUNT.max) ∧
  (∃ u : State, exec (.responseWindowClose p a) s = .next u.sysDone ∧
    u.xfer.slots = s.xfer.slots ++ [v.slot s.frame 2 1 [] false] ∧ u.xfer.opens = s.xfer.opens.erase t ∧ u.regs = s.regs)) ∧
  (∀ (s : State) (p a : Nat) (t : Txn) (v : Svc), s.findTxn p a = some t → t.kind = .periodic → t.dirIn = true → t.abort = false →
    s.liveSvc t.key = some v → v.dirIn = true → v.entry ≠ 0 → v.assured = true → s.scree.injs = [] →
  (v.attempts < 1 + s.retryReserve → ∃ u : State, exec (.responseWindowClose p a) s = .next u.sysDone ∧
    u.xfer.slots = s.xfer.slots ∧ u.xfer.hists = s.xfer.hists ∧ (u.liveSvc t.key).map (·.attempts) = some v.attempts ∧
    u.xfer.opens = s.xfer.opens.erase t) ∧
  (1 + s.retryReserve ≤ v.attempts → ∃ u : State, exec (.responseWindowClose p a) s = .next u.sysDone ∧
    u.xfer.slots = s.xfer.slots ++ [v.slot s.frame 2 1 [] false] ∧
    u.xfer.hists.map (fun h => (h.key, h.sframe)) = s.xfer.hists.map (fun h => (h.key, h.sframe)) ++ [(v.key, v.frame)]) ∧
  (∀ body, hskAnswer t body = .nrdy 1 → ∃ u : State, exec (.handshake p a body) s = .next (u.sysDone.rxWords p 1 0) ∧
    u.xfer.slots = s.xfer.slots ++ [v.slot s.frame 1 0 [] false] ∧ u.xfer.hists = s.xfer.hists) ∧
  (∀ sop words xtra pid ws, s.judgePacket t sop words false true false = .data ws xtra pid → ∃ u : State,
    exec (.packetReceive p a sop words false true false) s = .next (u.sysDone.rxWords p (words.length + 2) 0) ∧
    u.xfer.slots = s.xfer.slots ++ [v.slot s.frame 0 0 ws (bitAt xtra 1)] ∧ u.xfer.hists = s.xfer.hists ∧
    u.xfer.sent.map (fun x => (x.port, x.kind, x.addr)) =
      s.xfer.sent.map (fun x => (x.port, x.kind, x.addr)) ++ [(t.port, 6, t.addr)]))

/-- R119, R120 and R121: a packet is good on the wire exactly where no word failed, it ended without ABORT, it has the words that LEN
announces and its CHECK is the CRC over the token and the packet; a packet built by those rules is good. -/
def Obligations.PacketsOnTheWire : Prop :=
  (∀ (t : Txn) (sop : Nat) (ws : List Nat), ws.length ≠ sop % 1024 + b2n t.stamped + 1 → wireDamaged t sop ws false true false = true) ∧
  (∀ (t : Txn) (pid xtra : Nat) (ws : List Nat), ws.length < 1024 → t.stamped = false →
    wireDamaged t (sopBody pid xtra ws.length) (ws ++ [packetCheck t.addr t.ep (sopBody pid xtra ws.length) ws]) false true false = false) ∧
  (∀ (t : Txn) (pid xtra st : Nat) (ws : List Nat), ws.length < 1024 → t.stamped = true →
    wireDamaged t (sopBody pid xtra ws.length) (st :: ws ++ [packetCheck t.addr t.ep (sopBody pid xtra ws.length) (st :: ws)]) false true
      false = false) ∧
  (∀ (t : Txn) (sop c : Nat) (ws : List Nat), c ≠ packetCheck t.addr t.ep sop ws → wireDamaged t sop (ws ++ [c]) false true false = true) ∧
  (∀ b : List Byte, bytesOfWords (wordsOfBytes b).1 (wordsOfBytes b).2 = b)

/-- R70, R219, R222, R225 and R210: the launch of a service of the plan: its token opens a transaction; on a path with a link in RECOVERY,
or without its context, it is deferred, and a retry there is passed over; after the hard stop, or where it could not end by it, nothing
starts. -/
def Obligations.PeriodicLaunches : Prop :=
  (∀ (s : State) (p e w : Nat) (v : Svc), s.headSvc p = some v → s.time.phase = .stopped →
    exec (.periodicLaunch p e w) s = .next s) ∧
  (∀ (s : State) (p e w : Nat) (v : Svc), s.headSvc p = some v → s.time.phase ≠ .stopped → (s.findTxn p v.addr).isSome = true →
    exec (.periodicLaunch p e w) s = .next s) ∧
  (∀ (s : State) (p e w : Nat) (v : Svc), s.headSvc p = some v → s.time.phase ≠ .stopped → s.findTxn p v.addr = none →
    s.pathRecovers p v.addr = true → v.entry ≠ 0 → v.dirIn = true → v.attempts = 0 ∧ ∃ t : State,
      exec (.periodicLaunch p e w) s = .next t ∧ t.xfer.opens = s.xfer.opens ∧
      t.xfer.slots = s.xfer.slots ++ [v.slot s.frame 3 0 [] false] ∧
      t.get Fd.XFR_DEFER_LINK = min (s.get Fd.XFR_DEFER_LINK + 1) Fd.XFR_DEFER_LINK.max) ∧
  (∀ (s : State) (p e w : Nat) (v : Svc) (c : Ctx), s.headSvc p = some v → s.pathRecovers p v.addr = false → s.ctx v.key = some c →
    s.ctxReady v.key = true → s.periodicFits p v.addr (s.svcNeed v c) = false → exec (.periodicLaunch p e w) s = .next s) ∧
  (∀ (s : State) (p e w : Nat) (v : Svc) (c : Ctx), s.headSvc p = some v → s.time.phase ≠ .stopped → s.findTxn p v.addr = none →
    s.linkState p = 7 → s.pathRecovers p v.addr = false → s.ctx v.key = some c → s.ctxReady v.key = true →
    s.periodicFits p v.addr (s.svcNeed v c) = true → v.attempts = 0 → s.scree.injs = [] → v.port = p →
    (v.dirIn = true → ∃ t : State, exec (.periodicLaunch p e w) s = .next t ∧ (t.findTxn p v.addr).isSome = true ∧
      t.xfer.opens.length = s.xfer.opens.length + 1 ∧ t.xfer.slots = s.xfer.slots ∧ t.regs = s.regs ∧
      t.xfer.sent.map (fun x => (x.kind, x.addr, x.ep)) = s.xfer.sent.map (fun x => (x.kind, x.addr, x.ep)) ++ [(1, v.addr, v.ep)]) ∧
    (v.dirIn = false → v.assured = false → v.entry ≠ 0 → e = 0 → ∃ t : State, exec (.periodicLaunch p e w) s = .next t ∧
      t.xfer.opens = s.xfer.opens ∧ (t.xfer.results.getLast?).map (fun r => (r.key, r.frame, r.result)) = some (v.key, v.frame, 0) ∧
      (t.xfer.sent.getLast?).map (fun x => (x.kind, x.addr, x.ep, x.words.length, x.abort)) =
        some (2, v.addr, v.ep, (s.outWords v.key v.frame).length + 2, false))) ∧
  (∀ (s : State) (k : Nat) (v : Svc), s.ctxReady k = false → s.liveSvc k = some v → v.attempts = 0 → v.entry ≠ 0 → v.dirIn = true →
    ∃ t : State, exec (.pageLate k) s = .next t ∧ t.xfer.slots = s.xfer.slots ++ [v.slot s.frame 3 0 [] false] ∧
      t.get Fd.SCH_PAGE_LATE_LATE = min (s.get Fd.SCH_PAGE_LATE_LATE + 1) Fd.SCH_PAGE_LATE_LATE.max)

/-- R216, R217, R224, R226, R228, R229, R231, R265 and R131: the bulk region, the writes of a bank and the deadlines. -/
def Obligations.BulkRegion : Prop :=
  (∀ (s : State) (p : Nat) (h : HistRec), s.nextHist p = some h → s.bulkOpen p = true → s.cmdWaits p = false → ∃ t : State,
    exec (.histLaunch p) s = .next t ∧ t.xfer.opens.length = s.xfer.opens.length + 1 ∧ t.regs = s.regs ∧
    (t.xfer.sent.getLast?).map (fun x => (x.kind, x.addr, x.ep, x.hseq)) =
      some (4, h.key / 16, h.key % 16, (h.sframe + 2 ^ 32 - 1) % 128)) ∧
  (∀ (s : State) (p e w : Nat), (s.nextHist p).isSome = true ∨ s.cmdWaits p = true ∨ s.bulkOpen p = false →
    exec (.bulkLaunch p e w) s = .next s) ∧
  (∀ (s : State) (p e w a : Nat) (c : SysCtl), s.bulkOpen p = true → s.cmdWaits p = false → s.nextHist p = none →
    s.nextEp0 p = some (a, .sys c) → c.stage = .setup → ∃ t : State, exec (.bulkLaunch p e w) s = .next t ∧
      (t.xfer.opens.getLast?).map (fun x => (x.port, x.addr, x.setup)) = some (p, a, true) ∧ t.regs = s.regs ∧
      (t.xfer.sent.getLast?).map (fun x => (x.kind, x.addr, x.ep, x.words)) =
        some (3, a, 0, c.setup ++ [packetCheck a 0 (sopBody 1 0 3) c.setup])) ∧
  (∀ (s : State) (p a body : Nat) (t : Txn) (x : Entry) (c : Ctx) (d : Desc), s.findTxn p a = some t → t.kind = .bulk → t.abort = false →
    s.scree.injs = [] → s.entry t.inst t.entry = some x → s.ctx t.key = some c → x.desc = some d → x.closing = none →
    hskAnswer t body = .stall → ∃ u : State, exec (.handshake p a body) s = .next (u.sysDone.rxWords p 1 0) ∧
      (u.ctx t.key).map (·.state) = some 3 ∧ (u.entry t.inst t.entry).map (·.desc) = some none ∧
      (u.rings.recs.getLast?).map (fun r => leAt r.bytes 1 1) = some 2 ∧ u.rings.recs.length = s.rings.recs.length + 1) ∧
  (∀ (s : State) (p : Nat) (fits : Bool) (c : GCmd), s.nextCmd p = some c → s.linkState p ≠ 7 →
    exec (.busCommandLaunch p fits) s = .next (({ s with red := { s.red with cmds := s.red.cmds.erase c } }).bump Fd.RED_CMD_DROPPED)) ∧
  (∀ (s : State) (p : Nat) (c : GCmd), s.nextCmd p = some c → s.bulkOpen p = true →
    s.bulkFits p 0 (s.cmdNeed p c) = true → ∃ t : State,
    exec (.busCommandLaunch p true) s = .next t ∧ t.red.cmds = s.red.cmds.erase c ∧
    t.get Fd.RED_CMD_SENT = min (s.get Fd.RED_CMD_SENT + 1) Fd.RED_CMD_SENT.max ∧
    (t.xfer.sent.getLast?).map (fun x => (x.kind, x.addr, x.ep)) = some (5, c.group, c.ep)) ∧
  (∀ (s : State) (w : BulkW) (x : Entry), (s.xfer.bulkIn.find? fun y => since32 s.frame y.bank == 1) = some w →
    s.mayDrain (s.instOf w.inst).port = true → w.gen = (s.instOf w.inst).gen → s.entry w.inst w.entry = some x →
    s.isoKind w.inst (pasidOf x.pasid) = 0 → s.portUp (s.instOf w.inst).port = true → ∃ t : State,
    exec (.bulkInWrite true 0 0) s = .next t ∧ t.xfer.bulkIn = s.xfer.bulkIn.erase w ∧
    t.host.writes = s.host.writes ++
      [{ port := (s.instOf w.inst).port, pasid := pasidOf x.pasid, addr := w.addr, data := w.bytes, relaxed := true
         poisoned := false, ecrc := s.host.ecrcGen.contains (s.instOf w.inst).port }]) ∧
  (∀ (s : State) (k i e : Nat) (c : Ctx) (x : Entry) (d : Desc), s.boundEntry k = some (i, e) → s.ctx k = some c → s.entry i e = some x →
    x.desc = some d → x.kind = 1 → x.live = true → x.closing = none → d.stop = none → 0 < x.size → d.dataIn x = false → d.dtype = 0 → d.moved < d.len →
    s.xfer.bulkOut = [] → s.host.reads = [] → 0 < s.get Fd.XFR_CTRL_BULK_OUT_PKTS → s.mayDrain (s.instOf i).port = true →
    (min (packetBytes c) (d.len - d.moved) + 2) / 3 ≤ 131072 - s.load bufMap ((s.frame + 1) % 2 ^ 32 % 64) →
    s.isoKind i (pasidOf x.pasid) = 0 → ∃ t : State, exec (.bulkOutFetch k) s = .next t ∧ t.regs = s.regs ∧
      t.host.reads.map (fun r => (r.addr, r.len, r.use)) = [(d.buf + d.moved, min (packetBytes c) (d.len - d.moved), .out)]) ∧
  (∀ (s : State) (w : SlotW), s.xfer.slots = [w] → s.xfer.bulkIn = [] → 2 ≤ since32 s.frame w.bank → w.gen = (s.instOf w.inst).gen →
    w.hist = false → ∃ u : State, exec .drainDeadline s = .next (u.slotOut { w with result := 2, cause := 0, words := [], fly := false } true 0 0) ∧
      u.xfer.slots = [] ∧ u.get Fd.XFR_EVENT_DRAIN_LATE = 1 ∧
      u.get Fd.XFR_DRAIN_LATE = min (s.get Fd.XFR_DRAIN_LATE + 1) Fd.XFR_DRAIN_LATE.max) ∧
  (∀ (s : State) (p a f : Nat) (c : SysCtl), s.sysAt p a = some c → c.begun = some f → s.msFrames 50 ≤ since32 s.frame f →
    s.msFrames 5 ≤ s.msFrames 50 → ∃ u : State, exec (.controlDeadline p a) s = .next u.sysDone ∧ u.regs = s.regs ∧
      (u.xfer.ctls.filter (·.result.isNone)).length + 1 = (s.xfer.ctls.filter (·.result.isNone)).length)

/-- R146 and R147 on a root port: enumeration starts with the DEVICE descriptor at address 0, or refuses the device with its reason, which
disables the link; the last request completed, the device stands in the tree at its address; a STALL refuses it with reason 6. -/
def Obligations.Enumeration : Prop :=
  (∀ (s : State) (p delay turn : Nat), p < 8 → s.enumOn p = none → s.nextEnum p = some (rootLink p, false, delay, turn) →
    let e : Enum := { link := rootLink p, step := .route0, pos := 0, path := [], addr := 0, tier := 1, down := delay, turn := turn
                      hubInfo := false, dev := [], eps := [], hubd := [], repeats := 0, page := none, waiting := false }
    (s.enumReason e = none → ∃ t : State, exec (.enumerationStart p) s = .next t ∧
      (t.enumOn p).map (fun x => (x.link, x.step, x.waiting)) = some (rootLink p, .devDesc, true) ∧
      (t.xfer.ctls.getLast?).map (fun c => (c.port, c.addr, c.setup, c.use)) =
        some (p, 0, setupWords true 0 0 0x06 1 32 0, SysUse.enumerate) ∧
      (t.tree.waiting.all fun w => w.1 != rootLink p) = true ∧ t.tree.devs = s.tree.devs) ∧
    (∀ r, s.enumReason e = some r → ∃ t : State, exec (.enumerationStart p) s = .next t ∧ t.enumOn p = none ∧
      t.get Fd.TRE_REFUSE_REASON = r % 16 ∧ t.get Fd.TRE_REFUSE_PORT = p ∧ t.get (Fd.LNK_CTRL_DISABLE p) = 1 ∧
      t.get Fd.TRE_EVENT_REFUSED = 1 ∧ t.tree.devs = s.tree.devs ∧
      t.get Fd.TRE_REFUSE_COUNT_COUNT = min (s.get Fd.TRE_REFUSE_COUNT_COUNT + 1) Fd.TRE_REFUSE_COUNT_COUNT.max)) ∧
  (∀ (s : State) (p : Nat), (s.enumOn p).isSome = true → exec (.enumerationStart p) s = .next s) ∧
  (∀ (s : State) (p : Nat) (e : Enum) (c : SysCtl), s.enumOn p = some e →
    s.xfer.ctls.find? (fun c => c.use == SysUse.enumerate && c.port == p && c.result.isSome) = some c →
    (e.step = .config → e.pos = 0 → devIsHub e.dev = false → c.result = some 0 → c.setup = setupWords false 0 0 0x09 1 0 0 → ∃ t : State,
      exec (.enumerationRequestComplete p) s = .next t ∧ t.enumOn p = none ∧ t.get Fd.TRE_EVENT_ENUM_DONE = 1 ∧
      (t.dev e.addr).map (fun d => (d.link, d.tier, d.isHub, d.eps)) = some (e.link, e.tier, false, epsOf (numEp e.dev) e.eps) ∧
      (t.ctxEnt (e.addr * 16)).isSome = true) ∧
    (c.result = some 1 → e.addr = 0 → e.link = rootLink p → p < 8 → ∃ t : State,
      exec (.enumerationRequestComplete p) s = .next t ∧ t.enumOn p = none ∧ t.get Fd.TRE_REFUSE_REASON = 6 ∧
      t.get (Fd.LNK_CTRL_DISABLE p) = 1 ∧ t.tree.devs = s.tree.devs))

/-- R140 to R158: the tree commands on root links, and the end of a bus reset's idle time. -/
def Obligations.TreeCommands : Prop :=
  (∀ (s : State) (p : Nat), (s.lp p).resetIdle = true → ∃ t : State, exec (.busResetIdleEnd p) s = .next t ∧
    t.lp p = { s.lp p with resetIdle := false } ∧ t.regs = s.regs) ∧
  (∀ (s : State) (p : Nat), (s.lp p).resetIdle = false → exec (.busResetIdleEnd p) s = .next s) ∧
  ∀ (s : State) (id : Nat) (c : Cmd),
  (s.Ready id 0x0100 c → c.u 0 1 < s.ports →
    let l := (s.portDevices (c.u 0 1)).filter fun x => decide (c.u 2 2 ≤ x.1)
    exec (.treeGetTopology id) s = .next (s.okay c
      (leBytes 2 (min l.length 29) ++ leBytes 2 (((l.drop 29).head?.map (·.1)).getD 0xFFFF) ++
        leBytes 2 (s.portDevices (c.u 0 1)).length ++ zeros 2 ++ ((l.take 29).map topoEntry).flatten))) ∧
  (s.Ready id 0x0101 c → c.u 0 1 < s.ports → c.u 1 1 = 0 → s.bistHolds = false → c.pend = false → ∃ t : State,
    exec (.treeEnumerate id) s = .next t ∧ t.findCmd id = some { c with pend := true, begun := true } ∧
    (t.tree.enumCmds.getLast?).map (·.waits) =
      some (((s.tree.enums.map (·.link)) ++ s.tree.waiting.map (·.1)).filter fun l => c.u 0 1 == 0xFF || c.u 0 1 == l.port) ∧
    t.xfer = s.xfer) ∧
  (s.Ready id 0x0102 c → c.link 0 1 2 = rootLink (c.u 0 1) → c.u 0 1 < s.ports → s.isDm (c.u 0 1) = false → s.bistHolds = false →
    s.isOff (rootLink (c.u 0 1)) = false → s.linkState (c.u 0 1) ≠ 9 → s.linkState (c.u 0 1) ≠ 10 →
    exec (.treePortReset id) s = .next
      ((((s.begin c).onLink (rootLink (c.u 0 1))).busReset (c.u 0 1)).addLinkCmd id 0x0102 (rootLink (c.u 0 1)) .wait)) ∧
  (s.Ready id 0x0103 c → c.link 0 1 2 = rootLink (c.u 0 1) → c.u 0 1 < s.ports → s.linkState (c.u 0 1) ≠ 7 →
    exec (.treeSuspend id) s = .next (s.finish c ST.denied 1 [])) ∧
  (s.Ready id 0x0103 c → c.link 0 1 2 = rootLink (c.u 0 1) → c.u 0 1 < s.ports → s.linkState (c.u 0 1) = 7 → (s.lp (c.u 0 1)).pmReq = 0 →
    (s.lp (c.u 0 1)).pmEnter = 0 → (s.xfer.opens.any fun t => t.port == c.u 0 1) = false → ∃ t : State,
    exec (.treeSuspend id) s = .next t ∧ (t.lp (c.u 0 1)).pmReq = 3 ∧ t.findCmd id = some { c with begun := true } ∧
    (t.tree.linkCmds.getLast?).map (fun x => (x.cmd, x.op, x.link)) = some (id, 0x0103, rootLink (c.u 0 1)) ∧ t.regs = s.regs) ∧
  (s.Ready id 0x0104 c → c.link 0 1 2 = rootLink (c.u 0 1) → c.u 0 1 < s.ports → s.linkState (c.u 0 1) = 10 →
    exec (.treeResume id) s = .next (((s.begin c).startTraining (c.u 0 1) .l2exit).addLinkCmd id 0x0104 (rootLink (c.u 0 1)) .wait)) ∧
  (s.Ready id 0x0105 c → c.u 0 1 < s.ports → c.u 1 1 = 1 → s.portDevices (c.u 0 1) = [] → s.tree.dm.on = false → s.bistHolds = false →
    ∃ u : State, exec (.treeDeviceMode id) s = .next (u.okay c []) ∧ u.tree.dm.on = true ∧ u.tree.dm.port = c.u 0 1 ∧
      u.tree.dm.info = slice c.req 2 11 ∧ u.get Fd.TRE_DM_CTRL_ACTIVE = 1 ∧ u.rd Reg.TRE_DM_STATUS = 0) ∧
  (s.Ready id 0x0105 c → c.u 0 1 < s.ports → c.u 1 1 ≤ 1 → s.portDevices (c.u 0 1) ≠ [] →
    exec (.treeDeviceMode id) s = .next (s.finish c ST.denied 1 [])) ∧
  (∀ d, s.Ready id 0x0106 c → s.dev (c.u 0 2) = some d → c.u 10 3 / 2 ^ 12 ≤ 192 → ownRequest (c.u 4 3) = false → ∃ t : State,
    exec (.treeControlXfer id) s = .next t ∧ t.findCmd id = some { c with begun := true } ∧
    (t.xfer.ctls.getLast?).map (fun x => (x.port, x.addr, x.setup, x.out, x.use)) =
      some (d.link.port, c.u 0 2, [c.u 4 3, c.u 7 3, c.u 10 3], c.req.drop 16, SysUse.command id)) ∧
  (s.Ready id 0x0106 c → (s.dev (c.u 0 2)).isSome = true → c.u 10 3 / 2 ^ 12 ≤ 192 → ownRequest (c.u 4 3) = true →
    exec (.treeControlXfer id) s = .next (s.finish c ST.denied 1 [])) ∧
  (∀ d, s.Ready id 0x0107 c → s.dev (c.u 0 2) = some d → c.u 2 1 % 2 = 0 → ∃ u : State,
    u = (s.disableLink d.link false).loseLink 1 d.link ∧
    exec (.treeRemoveDevice id) s = .next (u.okay c (leBytes 2 (s.devsBelow d.link).length ++ zeros 2)) ∧
    (u.tree.offLinks.getLast?).map (·.link) = some d.link)

/-- R77, R100, R118, R129 and R153 to R157: what the port of device mode does with the far host's SOFs, strobes, tokens, packets,
handshakes and bus resets, and with the writes of the host. `w` is the state once the words have come (R95, R96). -/
def Obligations.DeviceMode : Prop :=
  (∀ (s : State) (dt : Nat) (bodies c : List Nat), let w := (s.advance dt).dmWords bodies.length
    sofContent bodies = some c → w.tree.dm.on = true → w.linkState w.tree.dm.port = 7 → ∃ t : State,
    exec (.dmSof dt bodies) s = .next t ∧ t.tree.dm.lastSof = some (c.getD 0 0 * 2 ^ 12 + c.getD 1 0) ∧
    t.tree.dm.strobeAt = some (w.time.cyc + (c.getD 4 0 * 64 - (c.getD 2 0 * 16 + c.getD 3 0 / 2 ^ 8)) * 5 / 64) ∧
    t.tree.dm.answers = [] ∧ t.tree.dm.sofCyc = w.time.cyc ∧ (t.lp w.tree.dm.port).scr = 0xFFFFFF ∧ (t.lp w.tree.dm.port).scrAt = 2 ∧
    (bodies.length = 16 → bodies.getD 15 0 / 2 ^ 12 = 15 → (t.lp w.tree.dm.port).descr = 0xFFFFFF ∧ (t.lp w.tree.dm.port).descrOn = true) ∧
    t.regs = w.regs) ∧
  (∀ (s : State) (dt : Nat) (bodies : List Nat), let w := (s.advance dt).dmWords bodies.length
    (sofContent bodies = none → w.tree.dm.on = true → exec (.dmSof dt bodies) s = .next (w.dmMark bodies) ∧
      (bodies.length = 16 → bodies.getD 15 0 / 2 ^ 12 = 15 → ((w.dmMark bodies).lp w.tree.dm.port).descr = 0xFFFFFF) ∧
      (w.dmMark bodies).tree = w.tree) ∧
    (w.tree.dm.on = false → exec (.dmSof dt bodies) s = .next w)) ∧
  (∀ (s : State) (dt at' q : Nat), let u := s.advance (at' - s.time.cyc)
    s.tree.dm.on = true → s.tree.dm.strobeAt = some at' → s.tree.dm.lastSof = some q → (s.lp s.tree.dm.port).wordLock = true →
    exec (.dmStrobe dt) s = .next { u with tree := { u.tree with dm := { u.tree.dm with
      samples := (q, false) :: u.tree.dm.samples.take 1, strobeAt := none, lastStrobe := some u.time.cyc, sec := u.nowSec, ns := u.nowNs } } }) ∧
  (∀ (s : State) (dt q last : Nat), let u := s.advance (last + frameCyc s.tree.dm.period - s.time.cyc)
    s.tree.dm.on = true → s.tree.dm.strobeAt = none → s.tree.dm.lastSof = some q → s.tree.dm.lastStrobe = some last →
    (s.lp s.tree.dm.port).wordLock = true →
    exec (.dmStrobe dt) s = .next { u with tree := { u.tree with dm := { u.tree.dm with
      samples := ((q + 1) % 2 ^ 24, true) :: u.tree.dm.samples.take 1, lastSof := some ((q + 1) % 2 ^ 24), strobeAt := none
      lastStrobe := some u.time.cyc, sofCyc := u.tree.dm.sofCyc + frameCyc u.tree.dm.period, sec := u.nowSec, ns := u.nowNs } } }) ∧
  (∀ (s : State) (dt : Nat), s.tree.dm.lastSof = none ∨ (s.tree.dm.strobeAt = none ∧ s.tree.dm.lastStrobe = none) ∨ (s.lp s.tree.dm.port).wordLock = false →
    exec (.dmStrobe dt) s = .next (s.advance dt)) ∧
  (∀ (s : State) (p : Side), s.reach p .manager = .ok →
    exec (.dmStrobeLatchRead p) s = .next (((s.put Fd.TRE_DM_STROBE_NS_NS s.tree.dm.ns).answer s.tree.dm.sec).replyOn p)) ∧
  (∀ (w : State) (n code reason : Nat), (w.dmHsk n code reason).tree.dm.answers = w.tree.dm.answers ++
    [{ ep := n, hsk := some (code, reason), sop := code * 2 ^ 13 + n * 2 ^ 9 + w.dmAddr % 32 * 16 + reason, words := [] }]) ∧
  (∀ (s : State) (k target ep : Nat), let w := s.dmWords 2
    s.dmTakes k target ep = false →
    exec (.dmToken k target ep) s = .next { w with tree := { w.tree with dm := { w.tree.dm with token := none } } }) ∧
  (∀ (s : State) (target ep : Nat), let w := s.dmWords 2
    s.dmTakes 1 target ep = true → ep ≠ 0 →
    (w.dmHalt ep = true → ∃ t : State, exec (.dmToken 1 target ep) s = .next t ∧ t.regs = w.regs ∧
      t.tree.dm.answers = (w.dmHsk ep 2 0).tree.dm.answers) ∧
    (w.dmHalt ep = false → w.dmSampled ep = true → w.dmSample = none → ∃ t : State, exec (.dmToken 1 target ep) s = .next t ∧
      t.regs = w.regs ∧ t.tree.dm.answers = (w.dmHsk ep 1 1).tree.dm.answers) ∧
    (w.dmHalt ep = false → w.dmFull ep = false → ∃ t : State, exec (.dmToken 1 target ep) s = .next t ∧ t.regs = w.regs ∧
      t.tree.dm.answers = (w.dmHsk ep 1 (b2n (w.dmSampled ep))).tree.dm.answers) ∧
    (w.dmHalt ep = false → w.dmFull ep = true → w.dmSampled ep = false → ∃ t : State, exec (.dmToken 1 target ep) s = .next t ∧
      t.regs = w.regs ∧ t.tree.dm.await = some ep ∧ t.tree.dm.answers.length = w.tree.dm.answers.length + 1) ∧
    (∀ x, w.dmHalt ep = false → w.dmFull ep = true → w.dmSampled ep = true → w.dmSample = some x → ep < 16 → ∃ t : State,
      exec (.dmToken 1 target ep) s = .next t ∧ t.dmFull ep = false ∧ t.get Fd.TRE_EVENT_DM_XFER = 1 ∧
      t.tree.dm.answers.length = w.tree.dm.answers.length + 1 ∧
      (t.tree.dm.answers.getLast?).map (fun a => (a.words.head?, a.sop / 2 ^ 11 % 2)) = some (some x.1, b2n x.2))) ∧
  (∀ (s : State) (w0 w1 w2 : Nat), let w := s.dmWords 6
    s.tree.dm.token = some (3, 0) → (w0 / 2 ^ 21) % 4 = 0 → w.dmFull 0 = false → ∃ t : State,
    exec (.dmSetup (sopBody 1 0 3) [w0, w1, w2, packetCheck s.dmAddr 0 (sopBody 1 0 3) [w0, w1, w2]] false true false) s = .next t ∧
    t.tree.dm.answers = w.tree.dm.answers ++ [{ ep := 0, hsk := some (0, 0), sop := w.dmAddr % 32 * 16, words := [] }] ∧
    t.tree.dm.setup = [w0, w1, w2] ∧ t.get (Fd.TRE_DM_EP_STAT_TOGGLE 0) = 1 ∧ t.tree.dm.token = none ∧
    (∀ b, s.dmRequest [w0, w1, w2] = some b → t.tree.dm.reply = b.take (w2 / 2 ^ 12) ∧ t.tree.dm.refused = false) ∧
    (s.dmRequest [w0, w1, w2] = none → t.tree.dm.refused = true)) ∧
  (∀ (s : State) (n sop : Nat) (words : List Nat) (bad ended abort : Bool), let w := s.dmWords (words.length + 1 + b2n ended) (b2n bad)
    s.tree.dm.token = some (2, n) → n < 16 → n ≠ 0 → s.dmSampled n = false →
    (s.dmDamaged n sop words false bad ended abort = true → ∃ t : State, exec (.dmPacket sop words bad ended abort) s = .next t ∧
      t.regs = w.regs ∧ t.tree.dm.buf = w.tree.dm.buf ∧ t.tree.dm.answers = (w.dmHsk n 3 1).tree.dm.answers) ∧
    (s.dmDamaged n sop words false bad ended abort = false → s.dmHalt n = false → sop % 1024 ≤ s.dmMax n → sop / 2 ^ 12 ≠ s.dmPid n →
      ∃ t : State, exec (.dmPacket sop words bad ended abort) s = .next t ∧ t.regs = w.regs ∧ t.tree.dm.buf = w.tree.dm.buf ∧
      t.tree.dm.answers = (w.dmHsk n 0 0).tree.dm.answers) ∧
    (s.dmDamaged n sop words false bad ended abort = false → s.dmHalt n = false → sop % 1024 ≤ s.dmMax n → sop / 2 ^ 12 = s.dmPid n →
      (sop / 2 ^ 10) % 4 ≠ 3 → s.dmFull n = false → w.dmFull n = false → w.dmTog n ≤ 1 → ∃ t : State,
      exec (.dmPacket sop words bad ended abort) s = .next t ∧ t.dmFull n = true ∧
      t.get (Fd.TRE_DM_EP_STAT_RX_LEN n) = sop % 1024 ∧ t.dmTog n = 1 - w.dmTog n ∧ t.get Fd.TRE_EVENT_DM_XFER = 1 ∧
      t.tree.dm.answers = (w.dmHsk n 0 0).tree.dm.answers)) ∧
  (∀ (s : State) (n : Nat), let w := s.dmWords 1
    s.tree.dm.on = true → s.tree.dm.await = some n → n ≠ 0 → n < 16 → w.dmFull n = true → w.dmTog n ≤ 1 → ∃ t : State,
    exec (.dmHandshake 0 s.dmAddr) s = .next t ∧ t.dmFull n = false ∧ t.dmTog n = 1 - w.dmTog n ∧ t.tree.dm.await = none ∧
    t.get Fd.TRE_EVENT_DM_XFER = 1) ∧
  (∀ (s : State) (code a : Nat), code ≠ 0 ∨ a ≠ s.dmAddr → exec (.dmHandshake code a) s = .next (s.dmWords 1)) ∧
  (∀ s : State, s.tree.dm.on = true → s.tree.dm.port < 8 → ∃ t : State, exec .dmBusReset s = .next t ∧ t.linkState s.tree.dm.port = 1) ∧
  (∀ (s : State) (p : Side) (n v : Nat), s.reach p .manager = .ok → n < 16 → writable (Reg.TRE_DM_EP_STAT n) v = true →
    bitAt v 31 = true → ∃ t : State, exec (.dmArmWrite p n v) s = .next t ∧ t.dmFull n = s.dmIn n) ∧
  (∀ (s : State) (p : Side) (v : Nat), s.reach p .manager = .ok → writable Reg.TRE_DM_CTRL v = true → bitAt v 2 = true →
    s.tree.dm.on = true → s.linkState s.tree.dm.port = 10 → s.on Fd.TRE_DM_STATUS_REMOTE_WAKE_EN = true → ∃ t : State,
    exec (.dmRemoteWakeWrite p v) s = .next t ∧
    (if 16 ≤ since32 s.frame (s.lp s.tree.dm.port).lowFrame then t.tree.dm.signalled = true ∧ t.tree.dm.beacons = s.tree.dm.beacons + 1
    else t.tree.dm.ready = true ∧ t.tree.dm.beacons = s.tree.dm.beacons))

/-- R155, in device mode: a bus reset discards any partial control transfer, sets every toggle to DATA0, returns the address to 0,
unconfigured, clears FULL on every endpoint and raises DM_RESET. The endpoints' buffers and the mailboxes stay. -/
def Obligations.DeviceBusReset : Prop :=
  ∀ s : State, s.tree.dm.on = true → s.tree.dm.port < 8 → ∃ t : State, exec .dmBusReset s = .next t ∧
    (t.tree.dm.setup = [] ∧ t.tree.dm.reply = [] ∧ t.tree.dm.stage = .setup ∧ t.tree.dm.moved = 0 ∧ t.tree.dm.addrNext = none) ∧
    (∀ n < 16, t.dmTog n = 0) ∧ (t.dmAddr = 0 ∧ t.get Fd.TRE_DM_STATUS_CONFIGURED = 0) ∧ (∀ n < 16, t.dmFull n = false) ∧
    t.get Fd.TRE_EVENT_DM_RESET = 1 ∧ t.tree.dm.buf = s.tree.dm.buf ∧ t.mbx = s.mbx

/-- R172 to R175 for a doorbell with none waiting before it: a rejected one has no effect but its code in INS_DB_ERR and the event; RING
makes descriptors available; OPEN reads its table entry; CLOSE begins the close; ACK frees records. -/
def Obligations.EntryDoorbells : Prop :=
  ∀ (s : State) (p : Side) (i e v : Nat), s.reach p (.page i) = .ok → i < 64 → e < 16384 → v < 65536 → s.rings.doors = [] →
    s.tableBusy i = false →
  (∀ n, s.doorReason { inst := i, op := 0, entry := e, value := v } = n + 1 →
    exec (.ringDoorbell p i e v) s = .next (s.rejectDoor { inst := i, op := 0, entry := e, value := v } (n + 1))) ∧
  (∀ n, s.doorReason { inst := i, op := 1, entry := e, value := v } = n + 1 →
    exec (.openEntry p i e v) s = .next (s.rejectDoor { inst := i, op := 1, entry := e, value := v } (n + 1))) ∧
  (∀ n, s.doorReason { inst := i, op := 2, entry := e, value := v } = n + 1 →
    exec (.closeEntry p i e v) s = .next (s.rejectDoor { inst := i, op := 2, entry := e, value := v } (n + 1))) ∧
  (∀ n, s.doorReason { inst := i, op := 3, entry := e, value := v } = n + 1 →
    exec (.ackRing p i e v) s = .next (s.rejectDoor { inst := i, op := 3, entry := e, value := v } (n + 1))) ∧
  (∀ (op n : Nat), n < 256 → op < 4 → let t := s.rejectDoor { inst := i, op := op, entry := e, value := v } n
    t.get (Fd.INS_DB_ERR_OP i) = op ∧ t.get (Fd.INS_DB_ERR_ENTRY i) = e ∧ t.get (Fd.INS_DB_ERR_REASON i) = n ∧
    t.get (Fd.INS_DB_ERR_COUNT i) = min (s.get (Fd.INS_DB_ERR_COUNT i) + 1) 255 ∧ t.rings = s.rings ∧ t.pager = s.pager ∧
    t.host = s.host) ∧
  (∀ op, s.entryCount i ≤ e → s.doorReason { inst := i, op := op, entry := e, value := v } = 1) ∧
  (∀ x, s.doorReason { inst := i, op := 0, entry := e, value := v } = 0 → s.entry i e = some x → ∃ t : State,
    exec (.ringDoorbell p i e v) s = .next t ∧ (t.entry i e).map (·.enq) = some v ∧ t.regs = s.regs ∧
    (t.ctx (seaKey x.sea)).map (·.enq) = (s.ctx (seaKey x.sea)).map (fun _ => v)) ∧
  (s.doorReason { inst := i, op := 1, entry := e, value := v } = 0 → s.isoKind i (pasidOf (s.instOf i).tablePasid) = 0 → ∃ t : State,
    exec (.openEntry p i e v) s = .next t ∧ t.regs = s.regs ∧ t.pager = s.pager ∧
    t.host.reads = s.host.reads ++ [{ tag := s.host.nextTag, port := (s.instOf i).port, pasid := pasidOf (s.instOf i).tablePasid
                                      addr := (s.instOf i).table + e * 32, len := 32, use := .table, inst := i, gen := (s.instOf i).gen
                                      key := e, frame := s.frame, off := 0, dead := false
                                      ecrc := s.host.ecrcGen.contains (s.instOf i).port }]) ∧
  (s.doorReason { inst := i, op := 2, entry := e, value := v } = 0 → 16 ≤ e →
    exec (.closeEntry p i e v) s = .next (s.beginClose i e 7 7 0)) ∧
  (∀ x, s.doorReason { inst := i, op := 2, entry := e, value := v } = 0 → e < 16 → s.entry i e = some x → ∃ t : State,
    exec (.closeEntry p i e v) s = .next t ∧ t.crOpened i e = false ∧ (t.entry i e).map (·.closing) = some (some (0, 0))) ∧
  (∀ x, s.doorReason { inst := i, op := 3, entry := e, value := v } = 0 → s.entry i e = some x → ∃ t : State,
    exec (.ackRing p i e v) s = .next t ∧ (t.entry i e).map (·.cons) = some v ∧ t.regs = s.regs ∧ t.pager = s.pager)

/-- R174, R176, R182 and R230: what a read of the instance table opens or refuses; the start of the next descriptor reserves its record's
place and reads it; one that times out or cannot be read ends with its code. R183: a completion record is written as two posted writes,
the second with its PHASE. R186: an IN slot is written by four posted writes, WSEQ odd, the payload, the header, WSEQ even, and WCOUNT
goes up by one. R187: an OUT slot is read whole and its WSEQ a second time, and its result word written after the service. -/
def Obligations.RingsAndRecords : Prop :=
  ((∀ (s : State) (tag : Nat) (r : HostRead) (b : List Byte), s.findRead tag = some r → r.use = .table → r.dead = false →
    s.rings.doors = [] → 16 ≤ r.key → r.key < 16384 → s.crOpened r.inst (entryOf b (s.instOf r.inst).gen).cring = true →
    (s.openDetail r.inst r.key (entryOf b (s.instOf r.inst).gen) = 0 → ∃ t : State,
      exec (.hostReadCompletion tag true b) s = .next t ∧ t.entry r.inst r.key = some (entryOf b (s.instOf r.inst).gen) ∧
      t.findRead tag = none ∧ t.rings.recs = s.rings.recs) ∧
    (∀ n, s.openDetail r.inst r.key (entryOf b (s.instOf r.inst).gen) = n + 1 → n < 255 → ∃ t : State,
      exec (.hostReadCompletion tag true b) s = .next t ∧ t.entry r.inst r.key = s.entry r.inst r.key ∧ t.findRead tag = none ∧
      (t.rings.recs.getLast?).map (fun x => (x.inst, x.entry, leAt x.bytes 1 1, leAt x.bytes 0 1, x.notify)) =
        some (r.inst, r.key, 17, n + 1, true) ∧ t.pager = s.pager)) ∧
  (∀ (s : State) (tag : Nat), s.findRead tag = none → ∀ ok b, exec (.hostReadCompletion tag ok b) s = .next s) ∧
  (∀ (s : State) (i e : Nat) (x cr : Entry), s.entry i e = some x → s.entry i x.cring = some cr → x.cring ≠ e → x.cring < 16 → e < 16384 →
    x.kind = 1 → x.live = true → x.desc = none → x.fetch = false → s.pfiStops = false → x.deq ≠ x.eligible s.frame → cr.live = true →
    0 < cr.room → (s.ctx (seaKey x.sea)).map (·.state) = some 2 → s.isoKind i (pasidOf x.pasid) = 0 → ∃ t : State,
    exec (.descriptorStart i e) s = .next t ∧ t.entry i e = some { x with fetch := true } ∧
    t.entry i x.cring = some { cr with resv := cr.resv + 1 } ∧ t.regs = s.regs ∧
    (t.host.reads.getLast?).map (fun r => (r.addr, r.len, r.use, r.key, r.off)) =
      some (x.base + (x.deq % x.size) * 32, 32, .desc, e, x.deq)) ∧
  (∀ (s : State) (i e f : Nat) (x : Entry) (d : Desc), s.entry i e = some x → x.desc = some d → d.started = some f → d.timeout ≠ 0 →
    d.timeout ≤ since32 s.frame f → s.entryBusy i e = false → ∃ t : State, exec (.descriptorTimeout i e) s = .next t ∧
      (t.rings.recs.getLast?).map (fun r => (r.entry, leAt r.bytes 1 1, leAt r.bytes 0 1)) = some (e, 6, 0) ∧
      t.rings.recs.length = s.rings.recs.length + 1 ∧
      (t.entry i e).map (fun y => (y.desc, y.deq)) = some (none, (d.index + 1) % 65536)) ∧
  (∀ (s : State) (i e : Nat) (x : Entry) (d : Desc), s.entry i e = some x → x.desc = some d → d.timeout = 0 →
    exec (.descriptorTimeout i e) s = .next s) ∧
  (∀ (s : State) (tag : Nat) (r : HostRead) (x : Entry), s.findRead tag = some r → r.use = .desc → r.dead = false →
    s.entry r.inst r.key = some x → x.fetch = true → x.closing = none → ∃ t : State,
    exec (.hostReadTimeout tag) s = .next t ∧ t.findRead tag = none ∧
    (t.rings.recs.getLast?).map (fun y => (y.entry, leAt y.bytes 1 1, leAt y.bytes 0 1)) = some (r.key, 9, 1) ∧
    (t.entry r.inst r.key).map (fun y => (y.desc, y.fetch, y.deq)) = some (none, false, (x.deq + 1) % 65536))) ∧
  ((∀ (s : State) (r : CRec) (x : Entry), s.nextRec s.rings.recs [] = some r →
    r.gen = (s.instOf r.inst).gen → r.resv = false → s.entry r.inst r.cring = some x → s.isoKind r.inst (pasidOf x.pasid) = 0 →
    s.portUp (s.instOf r.inst).port = true → ∃ t : State, exec (.completionRecordWrite true) s = .next t ∧
    t.rings.recs = s.rings.recs.erase r ∧ (t.entry r.inst r.cring).map (·.prod) = some ((x.prod + 1) % 65536) ∧ t.regs = s.regs ∧
    (t.host.writes.drop s.host.writes.length).map (fun w => (w.addr, w.data, w.relaxed)) =
      [(x.base + (x.prod % x.size) * 32, r.bytes, false),
       (x.base + (x.prod % x.size) * 32 + 28, leBytes 4 ((1 - (x.prod / x.size) % 2) * 2 ^ 31), false)]) ∧
  (∀ (s : State) (w : SlotW) (x : Entry) (c : Ctx), (s.xfer.slots.find? fun y => since32 s.frame y.bank == 1) = some w →
    s.mayDrain (s.instOf w.inst).port = true → w.gen = (s.instOf w.inst).gen → s.entry w.inst w.entry = some x → s.ctx w.key = some c →
    x.kind = 2 → x.wrote = false → s.isoKind w.inst (pasidOf x.pasid) = 0 → s.portUp (s.instOf w.inst).port = true →
    w.result = 0 → w.words ≠ [] → ∃ (t : State) (hdr : List Byte), exec (.inSlotWrite true 0 0) s = .next t ∧ t.regs = s.regs ∧
    t.xfer.slots = s.xfer.slots.erase w ∧ (t.ctx w.key).map (·.wcount) = some ((c.wcount + 1) % 2 ^ 31) ∧
    (t.ctx w.key).map (·.newest) = some (svcIndex w.sframe c.k) ∧ t.xfer.coll = s.xfer.coll ∧
    (w.words.length < 1024 → leAt hdr 4 4 / 2 ^ 29 = 0 ∧ leAt hdr 4 4 / 2 ^ 16 % 1024 = w.words.length) ∧ hdr.length = 12 ∧ leAt hdr 0 4 = (w.sframe + 2 ^ 32 - 1) % 2 ^ 32 ∧ leAt hdr 8 4 = crc32c (packWords (x.format == 1) w.words) % 2 ^ 32 ∧
    (t.host.writes.drop s.host.writes.length).map (fun y => (y.addr, y.data, y.relaxed)) =
      let a := x.base + x.slotOf (svcIndex w.sframe c.k) * slotStride x c.maxWords
      [(a + 12, leBytes 4 (c.wcount * 2 + 1), false), (a + 16, packWords (x.format == 1) w.words, true), (a, hdr, false),
       (a + 12, leBytes 4 (c.wcount * 2), false)]) ∧
  (∀ (s : State) (w : SlotW) (x : Entry) (c : Ctx) (e n : Nat), (s.xfer.slots.find? fun y => since32 s.frame y.bank == 1) = some w →
    s.mayDrain (s.instOf w.inst).port = true → w.gen = (s.instOf w.inst).gen → s.entry w.inst w.entry = some x → s.ctx w.key = some c →
    x.kind = 2 → x.wrote = true → x.size ≤ belowNewest c.newest (svcIndex w.sframe c.k) c.k → ∃ t : State,
    exec (.inSlotWrite true e n) s = .next t ∧ (t.ctx w.key).map (·.stale) = some (min (c.stale + 1) 0xFFFF) ∧
    (w.hist = false → ∀ y ∈ t.xfer.coll, y.key ≠ w.key ∨ y.frame ≠ w.sframe) ∧
    t.host = s.host ∧ t.regs = s.regs) ∧
  (∀ (s : State) (k i e : Nat) (c : Ctx) (x : Entry), let f := (s.frame + 1) % 2 ^ 32
    s.boundEntry k = some (i, e) → s.ctx k = some c → s.entry i e = some x → x.kind = 2 → x.live = true → seaDir x.sea = false →
    (s.alloc.grants.any fun g => g.key == k && s.serviceIn g f) = true → s.omitted (k / 16) = false →
    (s.xfer.outs.any fun o => o.key == k && o.frame == f) = false → s.mayDrain (s.instOf i).port = true →
    s.isoKind i (pasidOf x.pasid) = 0 → ∃ t : State, exec (.outSlotFetch k) s = .next t ∧ t.regs = s.regs ∧
    (t.host.reads.drop s.host.reads.length).map (fun r => (r.addr, r.len, r.use)) =
      [(x.base + x.slotOf (svcIndex f c.k) * slotStride x c.maxWords, slotStride x c.maxWords, .slot)]) ∧
  (∀ (s : State) (tag : Nat) (b : List Byte) (r : HostRead) (o : OutSvc) (c : Ctx) (x : Entry), s.findRead tag = some r → r.use = .slot →
    r.dead = false → (s.xfer.outs.find? fun o => o.key == r.key && o.frame == r.frame) = some o → s.ctx r.key = some c →
    s.entry o.inst o.entry = some x → s.isoKind o.inst (pasidOf x.pasid) = 0 → ∃ t : State,
    exec (.hostReadCompletion tag true b) s = .next t ∧ t.regs = s.regs ∧ t.host.reads.length ≤ s.host.reads.length ∧
    (t.host.reads.getLast?).map (fun r => (r.addr, r.len, r.use)) =
      some (x.base + x.slotOf (svcIndex r.frame c.k) * slotStride x c.maxWords + 12, 4, .slotSeq)) ∧
  (∀ (s : State) (r : OutRes) (rest : List OutRes) (x : Entry) (c : Ctx), s.xfer.results = r :: rest →
    s.mayDrain (s.instOf r.inst).port = true → r.gen = (s.instOf r.inst).gen → s.entry r.inst r.entry = some x → s.ctx r.key = some c →
    s.isoKind r.inst (pasidOf x.pasid) = 0 → s.portUp (s.instOf r.inst).port = true → ∃ t : State,
    exec (.outSlotResultWrite true) s = .next t ∧ t.xfer.results = rest ∧ t.regs = s.regs ∧
    (t.host.writes.drop s.host.writes.length).map (fun w => (w.addr, w.data)) =
      [(x.base + x.slotOf (svcIndex r.frame c.k) * slotStride x c.maxWords + 4,
        leBytes 4 (r.result * 2 ^ 29 + r.words * 2 ^ 16 + s.ctrlNo * 2 ^ 8))]))

/-- R190: what each service of an endpoint costs, in each direction, on every link map between the root port and the device, and in the
frame buffers and the contexts; an assured one with the retry reserve. TYPE 1 is periodic-sampled, 2 periodic-assured. -/
def Obligations.ServiceCosts : Prop :=
  (∀ w r : Nat, svcCost 1 true w r = (3, w + 5) ∧ svcCost 1 false w r = (w + 7, 0) ∧
    svcCost 2 true w r = (4 * (1 + r), (w + 5) * (1 + r)) ∧ svcCost 2 false w r = ((w + 7) * (1 + r), 2 * (1 + r))) ∧
  (∀ (s : State) (q : Ask) (m : MapRef), s.askCost q = svcCost q.typ q.dirIn q.words s.retryReserve ∧
    mapCost bufMap (s.askCost q) q.words = q.words + 2 ∧ mapCost ctxMap (s.askCost q) q.words = 1 ∧
    (m ∈ s.linkMaps q.addr → mapCost m (s.askCost q) q.words = (if m.up then (s.askCost q).2 else (s.askCost q).1))) ∧
  (∀ (s : State) (a : Nat) (d : Device) (up : Bool), s.dev a = some d →
    ({ kind := 1, up := up, num := d.link.port } : MapRef) ∈ s.linkMaps a ∧
    (∀ (h : Nat) (x : Device), h ∈ s.pathOf d.link → s.dev h = some x → 2 ≤ x.tier → ({ kind := 2, up := up, num := h } : MapRef) ∈ s.linkMaps a) ∧
    (d.isHub = false → 2 ≤ d.tier → ({ kind := 3, up := up, num := a } : MapRef) ∈ s.linkMaps a))

/-- R195 and R191: a phase is chosen only where every entry that it charges stays within its budget, in every link map of the path and in
the frame-buffer and contexts maps, and where the instance's share holds; no admissible phase has a lighter heaviest load. A request that
is granted was judged so. -/
def Obligations.PlacementsFit : Prop :=
  (∀ (s : State) (q : Ask) (g : Nat), s.bestPhase q = some g →
    s.shareHolds q = true ∧ s.fitsAt q g = true ∧ g < 2 ^ min q.k 6 ∧
    (∀ h, h < 2 ^ min q.k 6 → s.fitsAt q h = true → (s.peakTotal q g).1 ≤ (s.peakTotal q h).1) ∧
    (∀ m ∈ s.linkMaps q.addr ++ [bufMap, ctxMap], ∀ e, e < 64 → chargesAt q.k g e = true →
      s.loadOf q.gs s.retryReserve m e + mapCost m (s.askCost q) q.words ≤ s.budget m)) ∧
  (∀ (s : State) (q : Ask), s.bestPhase q = none → s.shareHolds q = true → ∀ h, h < 2 ^ min q.k 6 → s.fitsAt q h = false) ∧
  (∀ (s : State) (sea k w kmax : Nat) (longer : Bool) (gs : List Grant), (s.judgeGrant sea k w kmax longer false gs).result = 0 →
    s.on Fd.SCH_CTRL_ALLOC_EN = true ∧ k ≤ 12 ∧ 1 ≤ w ∧ s.grantFor (seaKey sea) = none ∧
    ∃ d e, s.seaEp? sea = some (d, e) ∧ e.minK ≤ k ∧ w ≤ e.words ∧
      s.bestPhase (askOf d e (seaAddr sea) k w false gs) = some (s.judgeGrant sea k w kmax longer false gs).phase)

/-- R198 to R200, R204 and R206: handles, and what the requests of the manager do: BUSY until the response is posted, a request in between
discarded and counted; the grant in the maps and the context at once, a released handle gone two frames later. R215: the allocation-policy
commands. -/
def Obligations.HandlesAndPolicy : Prop :=
  ((∀ (s : State) (p : Side), s.reach p .manager = .ok → s.on Fd.SCH_ALLOC_RESP_BUSY = true →
    exec (.grantHandle p) s = .next (s.bump Fd.SCH_STATUS_REQ_DROPPED) ∧ exec (.releaseHandle p) s = .next (s.bump Fd.SCH_STATUS_REQ_DROPPED) ∧
    exec (.modifyHandle p) s = .next (s.bump Fd.SCH_STATUS_REQ_DROPPED) ∧ exec (.queryHandle p) s = .next (s.bump Fd.SCH_STATUS_REQ_DROPPED)) ∧
  (∀ (s : State) (p : Side), s.reach p .manager = .ok → s.on Fd.SCH_ALLOC_RESP_BUSY = false → s.paired = false →
    let asked (q : AllocReq) : State := ({ s with alloc := { s.alloc with req := some q } }).put Fd.SCH_ALLOC_RESP_BUSY 1
    exec (.grantHandle p) s = .next (asked (s.judgeGrant (s.get Fd.SCH_ALLOC_SEA_SEA) s.reqK s.reqWords s.reqKmax s.reqLonger false
      (s.alloc.grants ++ s.pair.intents))) ∧
    exec (.releaseHandle p) s = .next (asked (s.judgeRelease (s.get Fd.SCH_ALLOC_HANDLE_HANDLE))) ∧
    exec (.modifyHandle p) s = .next (asked (s.judgeModify (s.get Fd.SCH_ALLOC_HANDLE_HANDLE) s.reqK s.reqWords s.reqKmax s.reqLonger)) ∧
    exec (.queryHandle p) s = .next (asked (s.judgeQuery (s.get Fd.SCH_ALLOC_SEA_SEA)))) ∧
  (∀ (s : State) (q : AllocReq), s.alloc.req = some q → s.paired = false → q.op = 1 → q.result = 0 → q.k ≤ 6 → q.refusal = 0 → q.bwhat = 0 →
    q.blink = 0 → q.bport = 0 → q.baddr = 0 → q.sea < 2 ^ 24 → (s.dev (seaAddr q.sea)).isSome = true →
    (s.ctxEnt (seaKey q.sea)).isSome = true → ∃ t : State, exec (.allocResponsePost none) s = .next t ∧
      (t.alloc.grants.getLast?).map (fun g => (g.key, g.k, g.phase, g.words, g.handle, g.first, g.leave)) =
        some (seaKey q.sea, q.k, q.phase, q.words, (s.alloc.serial % 255 + 1) * 2 ^ 24 + q.sea, firstService s.frame q.k q.phase, none) ∧
      t.alloc.serial = s.alloc.serial % 255 + 1 ∧ t.alloc.req = none ∧ t.get Fd.SCH_ALLOC_RESP_DONE = 1 ∧
      t.get Fd.SCH_ALLOC_RESP_BUSY = 0 ∧ t.get Fd.SCH_ALLOC_RESP_RESULT = 0 ∧ t.get Fd.SCH_EVENT_ALLOC_DONE = 1 ∧
      t.get Fd.SCH_ALLOC_GRANT_HANDLE = (s.alloc.serial % 255 + 1) * 2 ^ 24 + q.sea ∧
      (t.ctx (seaKey q.sea)).map (fun c => (c.k, c.phase, c.intent, c.handle)) =
        some (q.k, q.phase, q.words, (s.alloc.serial % 255 + 1) * 2 ^ 24 + q.sea)) ∧
  (∀ (s : State) (q : AllocReq) (g : Grant), s.alloc.req = some q → s.paired = false → q.op = 2 → q.result = 3 → g ∈ s.alloc.grants →
    g.handle = q.old → ∃ t : State, exec (.allocResponsePost none) s = .next t ∧
      { g with leave := some ((s.frame + 2) % 2 ^ 32), close := true } ∈ t.alloc.grants ∧ t.alloc.req = none ∧
      t.alloc.grants.length = s.alloc.grants.length) ∧
  (∀ (s : State) (g : Grant) (f : Nat), g ∈ s.alloc.grants → g.leave = some f → since32 s.frame f < 2 ^ 31 → ∃ t : State,
    exec .handleReleaseEffect s = .next t ∧ g ∉ t.alloc.grants ∧
    (∀ x ∈ s.alloc.grants, x.leave = none → x ∈ t.alloc.grants)) ∧
  (∀ s : State, ∃ t : State, exec .addressHoldbackExpiry s = .next t ∧ t.regs = s.regs ∧
    ∀ x, x ∈ t.alloc.held ↔ x ∈ s.alloc.held ∧ since32 s.frame x.2 < 64) ∧
  (∀ (s : State) (key k w : Nat) (m : Bool), s.partnerLinked = false → exec (.partnerAllocRequest key k w m) s = .next s) ∧
  (∀ (s : State) (key k w : Nat) (m : Bool), s.partnerLinked = true → ((s.dev (key / 16)).map (·.covered)).getD false = false →
    exec (.partnerAllocRequest key k w m) s = .next (s.tellPartner (.verdict key 0 0 0 0 0 0 0xF 0) false)) ∧
  (∀ (s : State) (key k w : Nat) (d : Device) (e : EpDesc), s.partnerLinked = true → s.dev (key / 16) = some d → d.covered = true →
    s.epDesc (key / 16) (key % 16) = some e →
    let q := s.admitAsk { AllocReq.empty 1 (seaOf e.dirIn s.ctrlNo (key / 16) e.num) with k := k } (askOf d e (key / 16) k w false (s.alloc.grants ++ s.pair.intents)) e.words 0 false
    q.result = 0 → ∃ t : State, exec (.partnerAllocRequest key k w false) s = .next t ∧
      (t.pair.intents.getLast?).map (fun g => (g.key, g.k, g.phase, g.words)) = some (key, q.k, q.phase, w))) ∧
  (∀ (s : State) (id : Nat) (c : Cmd),
  (s.Ready id 0x0200 c → s.badPolicy c.req = true → exec (.allocSetPolicy id) s = .next (s.finish c ST.invalid 0 [])) ∧
  (s.Ready id 0x0200 c → s.badPolicy c.req = false → s.policyOver c.req = true → exec (.allocSetPolicy id) s = .next (s.finish c ST.denied 1 [])) ∧
  (s.Ready id 0x0200 c → s.badPolicy c.req = false → s.policyOver c.req = false → s.explPins ≤ c.u 8 2 → ∃ u : State,
    exec (.allocSetPolicy id) s = .next (u.okay c []) ∧ u.get Fd.SCH_POLICY0_PERIODIC_PCT = c.u 0 1 ∧
    u.get Fd.SCH_POLICY0_ASSURED_RETRY = c.u 1 1 ∧ u.get Fd.SCH_POLICY0_TAIL_WT = c.u 2 2 ∧ u.alloc.policy = some c.req ∧
    u.alloc.grants = s.alloc.grants) ∧
  (s.Ready id 0x0201 c → exec (.allocGetPolicy id) s = .next (s.okay c s.policyBytes)) ∧
  (s.Ready id 0x0202 c → s.maskKeys (c.u 0 2) (c.u 2 2) = none → exec (.allocPinContexts id) s = .next (s.finish c ST.invalid 0 [])) ∧
  (∀ k x, s.Ready id 0x0202 c → s.maskKeys (c.u 0 2) (c.u 2 2) = some [k] → s.ctxEnt k = some x → s.pinnedCount < s.get Fd.SCH_POLICY1_PIN_LIMIT →
    ∃ t : State, exec (.allocPinContexts id) s = .next t ∧ t.ctxEnt k = some { x with explPin := true } ∧
      t.findCmd id = some { c with begun := true } ∧ (t.alloc.pinCmds.getLast?).map (·.1) = some id ∧
      (x.st = .free → t.pager.issue = s.pager.issue ++ [k])) ∧
  (∀ k x, s.Ready id 0x0203 c → s.maskKeys (c.u 0 2) (c.u 2 2) = some [k] → s.ctxEnt k = some x → ∃ u : State,
    exec (.allocUnpinContexts id) s = .next (u.okay c u.pinBytes) ∧ u.ctxEnt k = some { x with explPin := false }) ∧
  (s.Ready id 0x0204 c → s.askedMap c = none → exec (.allocGetLoad id) s = .next (s.finish c ST.invalid 0 [])) ∧
  (∀ m, s.Ready id 0x0204 c → s.askedMap c = some m → exec (.allocGetLoad id) s = .next (s.okay c
    (leBytes 4 (s.budget m) ++ leBytes 4 (((List.range 64).map (s.load m)).foldl max 0) ++
      ((List.range 64).map (s.load m)).flatMap (leBytes 3)))))

/-- R208 to R213: the pager's reads, what a context's read brings, failed page-ins and write-backs. -/
def Obligations.ContextPager : Prop :=
  (∀ (s : State) (k : Nat) (rest : List Nat) (x : CtxEnt), s.pageQueue = k :: rest → s.pagerReads < s.get Fd.SCH_POLICY0_PAGER_READS →
    s.cachedCount < 32768 → s.ctxEnt k = some x → x.st = .free → s.pager.dirs = [] → s.pager.dirWait = [] → s.host.reads = [] → ∃ t : State,
    exec .pageInIssue s = .next t ∧ (t.ctxEnt k).map (·.st) = some .fetching ∧ t.pager.issue = rest ∧
    t.host.reads.map (fun r => (r.port, r.addr, r.len, r.use)) = [(s.boot.barPort, s.dirBase + k / 64 * 8, 8, .directory)]) ∧
  (∀ s : State, s.pageQueue = [] → s.pager.dirWait = [] → exec .pageInIssue s = .next s) ∧
  (∀ s : State, s.get Fd.SCH_POLICY0_PAGER_READS ≤ s.pagerReads → exec .pageInIssue s = .next s) ∧
  (∀ (s : State) (tag : Nat) (r : HostRead) (b : List Byte) (x : CtxEnt), s.findRead tag = some r → r.use = .page → r.dead = false →
    s.ctxEnt r.key = some x → x.st = .fetching → (ctxOf b).valid = true → ctxGood b = true → x.held = false → x.defer = 0 →
    s.scree.injs = [] → ∃ t : State, exec (.pageInComplete tag true b) s = .next t ∧ (t.ctxEnt r.key).map (·.st) = some .clean ∧
      (t.ctx r.key).map (·.sea) = some (ctxOf b).sea ∧ t.findRead tag = none ∧
      t.get Fd.SCH_PAGE_COUNT_PAGE_INS = min (s.get Fd.SCH_PAGE_COUNT_PAGE_INS + 1) Fd.SCH_PAGE_COUNT_PAGE_INS.max) ∧
  (∀ (s : State) (tag : Nat) (r : HostRead) (b : List Byte) (x : CtxEnt), s.findRead tag = some r → r.use = .page → r.dead = false →
    s.ctxEnt r.key = some x → x.st = .fetching → x.fails < 2 → ∃ t : State, exec (.pageInComplete tag false b) s = .next t ∧
      (t.ctxEnt r.key).map (fun y => (y.st, y.fails)) = some (.free, x.fails + 1) ∧ t.pager.retry = s.pager.retry ++ [(r.key, s.frame)] ∧
      t.get Fd.SCH_EVENT_PAGE_ERR = 1) ∧
  (∀ (s : State) (tag : Nat) (r : HostRead) (b : List Byte) (x : CtxEnt), s.findRead tag = some r → r.use = .page → r.dead = false →
    s.ctxEnt r.key = some x → x.st = .fetching → 2 ≤ x.fails → s.boundEntry r.key = none → ∃ t : State,
    exec (.pageInComplete tag false b) s = .next t ∧ (t.ctx r.key).map (·.state) = some 4) ∧
  (∀ s : State, ∃ t : State, exec .pageInRetry s = .next t ∧ t.regs = s.regs ∧
    t.pager.issue = (s.pager.retry.filter fun x => x.2 != s.frame).map (·.1) ++ s.pager.issue ∧
    (t.pager.retry.all fun x => x.2 == s.frame) = true) ∧
  (∀ (s : State) (k f : Nat) (x : CtxEnt), s.pager.wbRetry = [(k, f)] → f ≠ s.frame → s.ctxEnt k = some x →
    (s.portUp s.boot.barPort = true → x.gone = false → ∃ t : State, exec (.writeBackRetry true) s = .next t ∧ t.pager.wbRetry = [] ∧
      (t.ctxEnt k).map (·.st) = some .free ∧ (t.host.writes.drop s.host.writes.length).map (fun w => (w.port, w.addr, w.data.length)) =
        [(s.boot.barPort, x.page + k % 64 * 64, 64)]) ∧
    (∃ t : State, exec (.writeBackRetry false) s = .next t ∧ t.pager.wbRetry = [(k, s.frame)] ∧
      (t.ctxEnt k).map (fun y => (y.st, y.wbPin)) = some (.dirty, true) ∧ t.get Fd.SCH_EVENT_WB_ERR = 1)) ∧
  (∀ (s : State) (tag : Nat) (r : HostRead) (b : List Byte) (k : Nat) (x : CtxEnt), s.findRead tag = some r → r.use = .directory →
    r.dead = false → (s.dropRead tag).dirWaiters r.key = [k] → 0 < (s.dropRead tag).readsLeft →
    s.ctxEnt k = some x → s.tree.enums = [] → bitAt (leAt b 0 8) 0 = true → ∃ t : State,
    exec (.pageDirectoryComplete tag true b) s = .next t ∧
    (t.host.reads.getLast?).map (fun y => (y.addr, y.len, y.use, y.key)) = some (leAt b 0 8 / 4096 * 4096 + k % 64 * 64, 64, .page, k) ∧
    (t.ctxEnt k).map (·.page) = some (leAt b 0 8 / 4096 * 4096))

/-- R235 to R243: the DMA channels: the doorbell and its rejection, ACK, EN and STOP, the start of a descriptor, the reads and writes of a
COPY, the bytes of a FILL, the CRC, and the record of each descriptor. -/
def Obligations.DmaChannels : Prop :=
  (∀ (s : State) (p : Side) (via : Via) (c n v : Nat), s.reach p via = .ok → s.chVia via c = some n → n < 32 → v < 65536 →
    (since16 v (s.dmaDeq n) ≤ s.dmaSize n → ∃ t : State, exec (.dmaDoorbell p via c v) s = .next t ∧ t.regs = s.regs ∧
      t.ch n = { s.ch n with enq := v }) ∧
    (s.dmaSize n < since16 v (s.dmaDeq n) → ∃ t : State, exec (.dmaDoorbell p via c v) s = .next t ∧ t.ch n = s.ch n ∧
      t.get Fd.DMA_ERR_DB_REJECT = min (s.get Fd.DMA_ERR_DB_REJECT + 1) Fd.DMA_ERR_DB_REJECT.max) ∧
    (since16 v (s.ch n).cons ≤ since16 (s.ch n).prod (s.ch n).cons →
      exec (.dmaCqAck p via c v) s = .next (s.putCh n { s.ch n with cons := v })) ∧
    (since16 (s.ch n).prod (s.ch n).cons < since16 v (s.ch n).cons → exec (.dmaCqAck p via c v) s = .next s) ∧
    (s.on (Fd.DMA_CH_CTRL_EN n) = false → ∃ t : State, exec (.dmaEnable p via c) s = .next t ∧ t.on (Fd.DMA_CH_CTRL_EN n) = true ∧
      t.dmaDeq n = 0 ∧ t.ch n = { s.ch n with enq := 0, prod := 0, cons := 0, resv := 0 }) ∧
    (∀ j, (s.ch n).job = some j → j.loaded = true → j.outcome = none → ∃ t : State, exec (.dmaStop p via c) s = .next t ∧
      t.on (Fd.DMA_CH_CTRL_STOP n) = true ∧ t.on (Fd.DMA_CH_CTRL_EN n) = s.on (Fd.DMA_CH_CTRL_EN n) ∧ t.get (Fd.DMA_CH_STATUS_STATE n) = 3 ∧
      (t.ch n).job = some { j with outcome := some (4, 0) }) ∧
    ((s.ch n).job = none → (s.ch n).enq = s.dmaDeq n → (s.ch n).recs = [] → ∃ t : State,
      exec (.dmaStop p via c) s = .next t ∧ t.on (Fd.DMA_CH_CTRL_EN n) = false ∧ t.on (Fd.DMA_CH_CTRL_STOP n) = false)) ∧
  (∀ (s : State) (n i : Nat), n < 32 → (s.ch n).inst = some i → s.on (Fd.DMA_CH_CTRL_EN n) = true → s.on (Fd.DMA_CH_CTRL_STOP n) = false →
    s.on Fd.DMA_CTRL_EN = true → s.scree.bist = none → (s.ch n).job = none → (s.ch n).enq ≠ s.dmaDeq n →
    since16 (s.ch n).prod (s.ch n).cons + (s.ch n).resv < s.dmaCqSize n → s.mayDma (s.instOf i).port = true → s.isoKind i (s.dmaPasid n) = 0 →
    ((List.range 32).all fun m => (s.ch m).job.isNone) = true → ∃ t : State, exec (.dmaDescriptorStart n) s = .next t ∧
    (t.ch n).job.map (fun j => (j.index, j.loaded)) = some (s.dmaDeq n, false) ∧ (t.ch n).resv = (s.ch n).resv + 1 ∧
    (t.host.reads.getLast?).map (fun r => (r.addr, r.len, r.use, r.key)) = some
      (s.get (Fd.DMA_CH_RING_LO_BASE_LO n) * 64 + s.get (Fd.DMA_CH_RING_HI_BASE_HI n) * 2 ^ 32 + (s.dmaDeq n % s.dmaSize n) * 32, 32, .dmaDesc, n) ∧
    t.get (Fd.DMA_CH_STATUS_STATE n) = 2) ∧
  (∀ (s : State) (tag : Nat) (r : HostRead) (j : DmaJob) (b : List Byte) (wok : Bool) (mem w : Nat), s.findRead tag = some r → r.use = .dmaSrc →
    r.dead = false → (s.ch r.key).job = some j → j.outcome = none → j.index = r.frame →
    s.mayDma .h0 = false → s.mayDma .h1 = false → ∃ t : State, exec (.dmaReadCompletion tag true b wok mem w 0) s = .next t ∧
    t.findRead tag = none ∧ t.host.writes = s.host.writes ∧ (t.ch r.key).job = some { j with
      got := j.got ++ [{ off := r.off, data := b.drop ((j.src + r.off) % 4), ok := true, wok := wok, bad := false }] }) ∧
  (∀ (s : State) (tag : Nat) (r : HostRead) (j : DmaJob) (b : List Byte) (wok : Bool) (mem w : Nat), s.findRead tag = some r → r.use = .dmaSrc →
    r.dead = false → (s.ch r.key).job = some j → j.outcome = none → j.index = r.frame → j.dir ≠ 1 → j.loaded = true → r.key < 32 →
    (s.ch r.key).inst = some r.inst → ((List.range 32).all fun m => m == r.key || (s.ch m).job.isNone) = true → s.host.reads = [r] → j.got = [] → j.rlo = j.rhi →
    r.off = j.lo → s.mayDma (s.instOf r.inst).port = true →
    let k := j.block.2
    (j.op ≠ 1 → ∃ t : State, exec (.dmaReadCompletion tag false b wok mem w 0) s = .next t ∧ t.findRead tag = none ∧
      (t.ch r.key).job = some { j with outcome := some (2, 0) } ∧ t.host.writes = s.host.writes) ∧
    (j.op = 0 → s.isoKind r.inst j.dstPasid = 0 → j.lo + k = j.hi → ∃ t : State,
      exec (.dmaReadCompletion tag true b true mem w 0) s = .next t ∧
      (t.ch r.key).job = some { j with lo := j.lo + k, moved := j.moved + k, outcome := some (0, 0) } ∧
      t.host.writes.map (fun x => (x.addr, x.data, x.relaxed)) =
        s.host.writes.map (fun x => (x.addr, x.data, x.relaxed)) ++ [(j.dst + j.lo, slice b ((j.src + j.lo) % 4) k, true)]) ∧
    (j.op = 2 → j.lo + k = j.hi → ∃ t : State, exec (.dmaReadCompletion tag true b wok mem w 0) s = .next t ∧
      t.host.writes = s.host.writes ∧ (t.ch r.key).job = some { j with
        lo := j.lo + k, moved := j.moved + k, crc := crc32cFrom j.crc (slice b ((j.src + j.lo) % 4) k), outcome := some (0, 0) })) ∧
  (∀ (s : State) (n i code detail : Nat) (ok : Bool) (j : DmaJob), n < 32 → (s.ch n).inst = some i → (s.ch n).job = some j →
    j.outcome = some (code, detail) → ∃ t : State, exec (.dmaDescriptorEnd n ok) s = .next t ∧
    t.dmaDeq n = (j.index + 1) % 65536 ∧ (t.ch n).job = none ∧
    (t.ch n).recs.map (fun r => (r.bytes, r.code)) = (s.ch n).recs.map (fun r => (r.bytes, r.code)) ++
      [(leBytes 4 (j.tag * 2 ^ 16 + code * 2 ^ 8 + detail) ++ leBytes 4 (j.index * 2 ^ 16 + b2n j.overlap * 4 + j.dir) ++
        leBytes 4 (j.value code), code)]) ∧
  (∀ (s : State) (n i : Nat) (j : DmaJob), n < 32 → (s.ch n).inst = some i → (s.ch n).job = some j → j.outcome = none → j.loaded = true →
    j.op = 1 → s.mayDma (s.instOf i).port = true → s.isoKind i j.dstPasid = 0 → j.dir = 0 → j.lo = 0 →
    j.hi = j.len → 0 < j.len → j.dst % 128 + j.len ≤ 128 → ((List.range 32).all fun m => m == n || (s.ch m).job.isNone) = true → ∃ t : State,
    exec (.dmaDescriptorEnd n true) s = .next t ∧ (t.ch n).job = none ∧
    (if s.canIssue (s.instOf i).port then t.host.writes.map (fun x => (x.addr, x.data)) = s.host.writes.map (fun x => (x.addr, x.data)) ++
      [(j.dst, (List.range j.len).map fun k => BitVec.ofNat 8 (j.src / 256 ^ ((j.dst + k) % 4)))]
     else t.host.writes = s.host.writes ∧ (t.ch n).recs.map (·.code) = (s.ch n).recs.map (·.code) ++ [3])) ∧
  (∀ (s : State) (n : Nat) (r : DmaRec) (rest : List DmaRec), n < 32 → (s.ch n).recs = r :: rest → s.mayRecord (s.instOf r.inst).port = true →
    r.gen = (s.instOf r.inst).gen → s.isoKind r.inst (s.dmaPasid n) = 0 → s.portUp (s.instOf r.inst).port = true → ∃ t : State,
    exec (.dmaRecordWrite n true) s = .next t ∧ (t.ch n).recs = rest ∧ (t.ch n).prod = ((s.ch n).prod + 1) % 65536 ∧
    (t.ch n).resv = (s.ch n).resv - 1 ∧
    (t.host.writes.drop s.host.writes.length).map (fun x => (x.addr, x.data, x.relaxed)) =
      let a := s.get (Fd.DMA_CH_CQ_LO_BASE_LO n) * 64 + s.get (Fd.DMA_CH_CQ_HI_BASE_HI n) * 2 ^ 32 + ((s.ch n).prod % s.dmaCqSize n) * 16
      [(a, r.bytes, false),
       (a + 12, leBytes 4 ((1 - ((s.ch n).prod / s.dmaCqSize n) % 2) * 2 ^ 31 + r.frame % 2 ^ 24), false)])

/-- R247 and R248: `narrow` shifts, rounds half to even and clamps to 24 bits, counting its saturation; the accumulator is clamped to 48
bits; an element of an elementwise operation is valid exactly where the inputs' elements are, and an invalid one is 0; a reduction works
over the valid elements and is invalid below MINV. -/
def Obligations.ClusterArithmetic : Prop :=
  (∀ (c : Sat) (x : Int) (sh : Nat), -8388608 ≤ (narrow c x sh).1 ∧ (narrow c x sh).1 ≤ 8388607) ∧
  (∀ (c : Sat) (x : Int) (sh : Nat), -8388608 ≤ shiftEven x sh → shiftEven x sh ≤ 8388607 → narrow c x sh = (shiftEven x sh, c)) ∧
  (∀ (c : Sat) (x : Int) (sh : Nat), shiftEven x sh < -8388608 ∨ 8388607 < shiftEven x sh →
    (narrow c x sh).2 = { c with nar := c.nar + 1 }) ∧
  (∀ (x : Int) (sh : Nat), 2 * (x - shiftEven x sh * 2 ^ sh).natAbs ≤ 2 ^ sh ∧
    (2 * (x - shiftEven x sh * 2 ^ sh).natAbs = 2 ^ sh → shiftEven x sh % 2 = 0)) ∧
  (∀ (c : Sat) (x : Int), (acc48 c x).1 = max (-2 ^ 47) (min (2 ^ 47 - 1) x) ∧
    (acc48 c x).2 = if -2 ^ 47 ≤ x ∧ x ≤ 2 ^ 47 - 1 then c else { c with acc := c.acc + 1 }) ∧
  (∀ (pool : List Nat) (x : GNode) (a b : RVal) (c : Sat) (k : Nat), k < max a.length b.length →
    let o := (elemwise pool x a (some b) c).1
    o.length = max a.length b.length ∧ (o.getD k (0, false)).2 = ((a.at_ k).2 && (b.at_ k).2) ∧
    ((o.getD k (0, false)).2 = false → (o.getD k (0, false)).1 = 0)) ∧
  (∀ (x : GNode) (a : RVal) (c : Sat), x.op ≠ 0x34 → (validFrom 0 a).length < x.minv →
    reduce x a c = (List.replicate x.outLen (0, false), c)) ∧
  (∀ (x : GNode) (a b : RVal) (c : Sat), x.op ≠ 0x34 → validFrom 0 a = validFrom 0 b → reduce x a c = reduce x b c)

/-- R252 to R258, R263, R267 and R268: runs, nodes, result slots, swaps and trace records. R271: the graph commands. -/
def Obligations.ClusterRunsAndGraphs : Prop :=
  ((∀ (s : State) (x : GRun), s.red.live = [x] → 3 ≤ since32 s.redNext.1 x.n → since32 s.redNext.1 x.n < 2 ^ 31 → ∃ t : State,
    exec .runDeadline s = .next t ∧ t.red.live = [] ∧ t.get Fd.RED_EVENT_OVERRUN = 1 ∧ t.get Fd.RED_RUN_LAST_FRAME = x.n % 2 ^ 32 ∧
    t.get Fd.RED_RUN_COUNT_OVERRUN = min (s.get Fd.RED_RUN_COUNT_OVERRUN + 1) Fd.RED_RUN_COUNT_OVERRUN.max ∧
    t.get Fd.RED_STATUS_LIVE_RUNS = 0) ∧
  (∀ (s : State) (x : GRun) (i : Nat) (g : GNode), s.red.nextGather = some (x, i, g) → s.cluOn = true → s.red.run x.n = some x →
    s.isBad x.bank i = false → g.op = 1 → 1 < s.red.left x → ∃ t : State, exec (.gatherComplete []) s = .next t ∧
    (t.red.run x.n).map (fun y => (y.ended, SMap.get (fun _ => []) y.out i)) = some (i :: x.ended, s.gatherVal x g [])) ∧
  (∀ (s : State) (k d : Nat) (e : GReady) (l : List GReady) (x : GRun), k < 16 → s.cluOn = true → bitAt s.red.enEff k = true →
    (s.red.core k).busy = none → s.red.source k = some d → (s.red.core d).list = e :: l → s.red.run e.run = some x →
    d = k ∨ s.outrun k d e = false → ∃ t : State,
    exec (.nodeStart k) s = .next t ∧ (t.red.core k).busy.map (fun y => (y.run, y.node)) = some (e.run, e.node) ∧
    (t.red.core d).list = l ∧ t.red.live = s.red.live) ∧
  (∀ (s : State) (k d : Nat) (e : GReady) (l : List GReady), s.red.source k = some d → (s.red.core d).list = e :: l → d ≠ k →
    s.outrun k d e = true → exec (.nodeStart k) s = .next s) ∧
  (∀ (s : State) (k : Nat) (y : GBusy) (x : GRun) (g : GNode), (s.red.core k).busy = some y → s.red.run y.run = some x →
    s.red.node x.bank y.node = some g → s.cluOn = true → 1 < s.red.left x → ∃ t : State, exec (.nodeComplete k []) s = .next t ∧
    (t.red.core k).busy = none ∧ (t.red.run y.run).map (·.ended) = some (y.node :: x.ended)) ∧
  (∀ (s : State) (w : GSlot) (rest : List GSlot), s.red.slots = w :: rest → s.mayDrain (s.instOf w.list.inst).port = true →
    w.list.gen = (s.instOf w.list.inst).gen → (s.instOf w.list.inst).exist = true → s.isoKind w.list.inst (pasidOf w.list.pasid) = 0 →
    s.portUp (s.instOf w.list.inst).port = true → w.result = 0 → slotPayload w.list w.value ≠ [] → ∃ t : State,
    exec (.emitSlotWrite true) s = .next t ∧ t.red.slots = rest ∧ t.regs = s.regs ∧
    (t.host.writes.drop s.host.writes.length).map (fun y => (y.addr, y.data, y.relaxed)) =
      let a := w.list.base + (((w.n + 2 ^ 32 - 1) % 2 ^ 32) % 2 ^ w.list.log2) * w.list.stride
      let pay := slotPayload w.list w.value
      [(a + 12, leBytes 4 (2 * s.listCount w + 1), false), (a + 16, pay, true), (a, slotHeader w pay, false),
       (a + 12, leBytes 4 (2 * s.listCount w), false)]) ∧
  (∀ (s : State) (r : GTraceRec) (l : List GTraceRec), s.red.recs = r :: l → s.traceLate r = false → s.traceFree = true → s.portUp s.boot.barPort = true →
    ∃ t : State, exec (.traceRecordWrite true) s = .next t ∧ t.red.recs = l ∧ t.regs = s.regs ∧
    (t.host.writes.drop s.host.writes.length).map (fun y => (y.port, y.addr, y.data)) =
      [(s.boot.barPort, r.addr + 0, (r.words.take 3).flatMap (leBytes 4)), (s.boot.barPort, r.addr + 12, (r.words.drop 3).flatMap (leBytes 4))]) ∧
  (∀ s : State, ∃ t : State, exec .traceRecordDrop s = .next t ∧ (∀ r, r ∈ t.red.recs ↔ r ∈ s.red.recs ∧ s.traceLate r = false) ∧
    t.get Fd.RED_TRACE_LOST = min (s.get Fd.RED_TRACE_LOST + (s.red.recs.filter s.traceLate).length) Fd.RED_TRACE_LOST.max) ∧
  (∀ (s : State) (id target : Nat) (g : GBank), s.red.swap = some (id, target) → since32 s.redNext.1 target < 2 ^ 31 →
    s.red.bank s.red.idleBank = some g → s.red.idleBank ≤ 1 → s.findCmd id = none → ∃ t : State, exec .graphSwapEffect s = .next t ∧
    t.red.active = some s.red.idleBank ∧ t.red.swap = none ∧ t.red.delay = [] ∧ t.get Fd.RED_EVENT_SWAPPED = 1 ∧
    t.get Fd.RED_STATUS_ACTIVE = 1 ∧ t.get Fd.RED_STATUS_ACTIVE_BANK = s.red.idleBank)) ∧
  (∀ (s : State) (id : Nat) (c : Cmd),
  (s.Ready id 0x0700 c → c.u 0 8 % 4 = 0 → c.u 20 1 ≤ 16 → c.u 21 1 ≤ 1 → c.u 24 4 < 2 ^ 20 → ∃ u : State,
    exec (.graphLoad id) s = .next (u.goPending c s.frame) ∧ u.mbx = s.mbx ∧ u.red = s.red ∧ u.regs = s.regs ∧
    let p := if c.u 21 1 = 1 then some (c.u 24 4) else none
    (u.host.reads.filter fun r => r.use == .fw && r.key == c.id).map (fun r => (r.port, r.pasid, r.addr, r.len)) =
      (s.boot.barPort, p, c.u 0 8, c.u 8 4) ::
        (if c.u 20 1 = 0 then [] else [(s.boot.barPort, p, c.u 12 8, 32 * c.u 20 1)])) ∧
  (s.Ready id 0x0700 c → c.u 0 8 % 4 ≠ 0 ∨ 16 < c.u 20 1 ∨ 1 < c.u 21 1 → exec (.graphLoad id) s = .next (s.finish c ST.invalid 0 [])) ∧
  (∀ g, s.ReadyNow id 0x0701 c → s.red.bank s.red.idleBank = some g → g.dying = false → s.red.swap = none → ∃ t : State,
    exec (.graphSwap id) s = .next t ∧ t.red.swap = some (c.id, c.target.getD ((c.takeFrame + 2) % 2 ^ 32)) ∧
    t.get Fd.RED_STATUS_SWAP_PENDING = 1 ∧ t.findCmd id = some { c with begun := true } ∧ t.red.active = s.red.active) ∧
  (s.ReadyNow id 0x0701 c → s.red.bank s.red.idleBank = none → exec (.graphSwap id) s = .next (s.finish c ST.denied 1 [])) ∧
  (s.Ready id 0x0702 c → 1 < c.u 0 1 → exec (.graphUnload id) s = .next (s.finish c ST.invalid 0 [])) ∧
  (s.Ready id 0x0702 c → c.u 0 1 ≤ 1 → s.red.swap.isSome = true → exec (.graphUnload id) s = .next (s.finish c ST.denied 1 [])) ∧
  (s.Ready id 0x0702 c → c.u 0 1 = 0 → s.red.swap = none → (s.red.live.any fun x => x.bank == s.red.idleBank) = false → ∃ u : State,
    exec (.graphUnload id) s = .next (u.okay c []) ∧ u.red.bank s.red.idleBank = none ∧ u.red.active = s.red.active) ∧
  (∀ b, s.Ready id 0x0702 c → c.u 0 1 = 1 → s.red.swap = none → s.red.active = some b → s.red.live = [] → ∃ u : State,
    exec (.graphUnload id) s = .next (u.okay c []) ∧ u.red.active = none ∧ u.get Fd.RED_STATUS_ACTIVE = 0 ∧ (b ≤ 1 → u.red.bank b = none)) ∧
  (s.Ready id 0x0703 c → c.u 0 1 = 0 → exec (.graphGetStats id) s = .next (s.okay c
    (leBytes 4 s.red.window.frames ++ leBytes 4 s.red.window.done ++ leBytes 2 s.red.window.declined ++ leBytes 2 s.red.window.stopped ++
      leBytes 3 ((s.red.active.bind fun b => (s.red.bank b).map (·.id)).getD 0) ++ leBytes 1 (s.get Fd.PDM_DVFS_POINT) ++
      (List.range 16).flatMap s.red.window.coreBytes))) ∧
  (s.Ready id 0x0703 c → c.u 0 1 = 1 → ∃ (u : State) (resp : List Byte), exec (.graphGetStats id) s = .next (u.okay c resp) ∧
    u.red.window = GWindow.reset ∧ u.regs = s.regs) ∧
  (s.Ready id 0x0704 c → c.u 0 8 % 64 = 0 → c.u 9 1 ≤ 3 → c.u 12 4 < 2 ^ 20 →
    (c.u 8 1 = 0 → ∃ u : State, exec (.graphTraceConfig id) s = .next (u.okay c []) ∧ u.red.trace = none ∧ u.red.tseq = 0) ∧
    (8 ≤ c.u 8 1 → c.u 8 1 ≤ 16 → ∃ u : State, exec (.graphTraceConfig id) s = .next (u.okay c []) ∧ u.red.tseq = 0 ∧
      u.red.trace.map (fun t => (t.base, t.log2, t.mask)) = some (c.u 0 8, c.u 8 1, c.u 10 2))))

/-- R312, R314 to R316, R318 to R323: a port on SNS: attachment and detachment, the termination, the messages of a contract,
acknowledgement, retries and collision, and the waits. What a message with a bad CHECK does is the model's reading (log entry 254). -/
def Obligations.PowerContracts : Prop :=
  (∀ (s : State) (p vp sns : Nat), p < 8 → p < s.ports →
    (s.pState p = 1 → ∃ t : State, exec (.snsWindowEnter p) s = .next t ∧ t.pState p = 2 ∧ t.get (Fd.PPW_P_STATUS_SNS p) = 1 ∧ t.power = s.power) ∧
    (s.pState p = 2 → sns < 4 → ∃ t : State, exec (.snsWindowLeave p sns) s = .next t ∧ t.pState p = 1 ∧ t.get (Fd.PPW_P_STATUS_SNS p) = sns ∧
      (t.pp p).term = capTerm (s.roleCap p)) ∧
    (s.pState p = 2 → (s.pp p).term = .rp → ∃ t : State, exec (.snsAttach p vp) s = .next t ∧ t.pState p = 3 ∧
      t.isSource p = true ∧ (t.pp p).attached = true ∧ (t.pp p).gates = true ∧ (t.pp p).vsel = 0 ∧ t.get (Fd.PPW_P_STATUS_CONTRACT p) = 50 ∧
      (s.dieRuns = true → t.bitOf (Reg.PPW_P_EVENT p) 0 = true) ∧ (s.dieRuns = false → bitAt (t.pp p).held 0 = true)) ∧
    (s.pState p = 2 → (s.pp p).term = .rd → vp < 1080 → exec (.snsAttach p vp) s = .next s) ∧
    (s.pState p = 2 → (s.pp p).term = .rd → 1080 ≤ vp → ∃ t : State, exec (.snsAttach p vp) s = .next t ∧ t.pState p = 7 ∧
      t.isSource p = false ∧ (t.pp p).attached = true ∧ (t.pp p).gates = true ∧ t.get (Fd.PPW_P_STATUS_CONTRACT p) = 50) ∧
    ((s.pp p).attached = true → (s.pp p).frsSig = false → sns ≠ 1 → sns < 4 → (s.pp p).cmds = [] → s.pState p < 14 → s.linkState p = 0 →
      ∃ t : State, exec (.snsDetach p sns) s = .next t ∧ t.pState p = 1 ∧ (t.pp p).attached = false ∧ (t.pp p).gates = false ∧
      (t.pp p).dis = true ∧ t.get (Fd.PPW_P_STATUS_CONTRACT p) = 0) ∧
    ((s.pp p).frsSig = true → ∃ t : State, exec (.snsDetach p sns) s = .next t ∧ t.power = s.power ∧ t.get (Fd.PPW_P_STATUS_STATE p) = s.get (Fd.PPW_P_STATUS_STATE p)) ∧
    (s.pState p = 1 → s.roleCap p = 2 → exec (.drpToggle p) s =
      .next (s.editPp p fun x => { x with term := if x.term = .rp then .rd else .rp })) ∧
    (s.roleCap p ≠ 2 → exec (.drpToggle p) s = .next s)) ∧
  (∀ s : State, s.pState 0 = 0 → s.power.begun = false → ∃ t : State, exec .deadBatteryStart s = .next t ∧ t.pState 0 = 7 ∧
    t.isSource 0 = false ∧ t.on (Fd.PPW_P_STATUS_DB 0) = true ∧ t.on Fd.PPW_STATUS_DB = true ∧ (t.pp 0).attached = true ∧
    t.get (Fd.PPW_P_STATUS_CONTRACT 0) = 50) ∧
  (∀ (s : State) (p : Nat), p < 8 → p < s.ports → s.dieRuns = true → s.isSource p = true → s.pState p = 3 →
    ((s.pp p).capsSent = 0 → (s.pp p).tx = none → (s.pp p).cut = false → exec (.capsSend p) s = .next (s.sendCaps p) ∧ ((s.sendCaps p).pp p).capsSent = 1 ∧
      ((s.sendCaps p).pp p).tx.map (fun m => (m.typ, m.objs)) = some (10, (s.pp p).srcPdos.map (s.pdoOut p))) ∧
    (∀ m, (s.pp p).tx = some m → m.typ = 10 → (s.pp p).capsOpen < 30 → ∃ t : State, exec (.capsRepeat p) s = .next t ∧ t.regs = s.regs ∧
      t.pp p = { s.pp p with sent := (s.pp p).sent ++ [m], backoff := false, capsSent := (s.pp p).capsSent + 1, capsOpen := (s.pp p).capsOpen + 1 }) ∧
    (∀ m, (s.pp p).tx = some m → m.typ = 10 → 30 ≤ (s.pp p).capsOpen → (s.pp p).waiting = [] → exec (.capsRepeat p) s =
      .next (s.editPp p fun x => { x with tx := none, tries := 0, backoff := false }))) ∧
  (∀ (s : State) (p : Nat) (m : SnsMsg), p < 8 → p < s.ports → (s.pp p).tx = some m →
    (∀ h, snsGood h [] = true → snsType h = 0 → snsId h = m.id → m.typ ≠ 8 → (s.pp p).waiting = [] → exec (.goodRx p h) s =
      .next (s.editPp p fun x => { x with tx := none, tries := 0, backoff := false, txId := (x.txId + 1) % 8,
                                          capsOpen := if m.typ = 10 then 0 else x.capsOpen })) ∧
    (∀ h, snsGood h [] = false ∨ snsType h ≠ 0 ∨ snsId h ≠ m.id → exec (.goodRx p h) s = .next s) ∧
    (s.maySend m.typ = false → exec (.messageRetry p) s = .next s ∧ exec (.backoffExpiry p) s = .next s) ∧
    (m.typ ≠ 10 → s.maySend m.typ = true → (s.pp p).backoff = false → (s.pp p).tries < 2 → ∃ t : State, exec (.messageRetry p) s = .next t ∧ t.regs = s.regs ∧
      t.pp p = { s.pp p with sent := (s.pp p).sent ++ [m], backoff := false, tries := (s.pp p).tries + 1 }) ∧
    (m.typ ≠ 10 → m.typ ≠ 8 → (s.pp p).backoff = false → (s.pp p).tries = 2 → s.dieRuns = true → (s.pp p).cut = false → ∃ t : State,
      exec (.messageRetry p) s = .next t ∧ (t.pp p).tx.map (fun n => (n.typ, n.id)) = some (8, 0) ∧ (t.pp p).waiting = [] ∧
      t.get (Fd.PPW_P_COUNT_MSG_FAIL p) = min (s.get (Fd.PPW_P_COUNT_MSG_FAIL p) + 1) 255) ∧
    (m.typ = 8 → (s.pp p).backoff = false → (s.pp p).tries = 2 → s.dieRuns = true → (s.pp p).attached = true → s.pState p < 11 →
      (s.pp p).cmds = [] → ∃ t : State, exec (.messageRetry p) s = .next t ∧ t.pState p = 13 ∧ (t.pp p).tx = none) ∧
    (exec (.snsCollision p) s = .next (s.editPp p fun x => { x with backoff := true })) ∧
    ((s.pp p).backoff = true → s.maySend m.typ = true → exec (.backoffExpiry p) s =
      .next (s.editPp p fun x => { x with sent := x.sent ++ [m], backoff := false }))) ∧
  (∀ (s : State) (p : Nat) (h : SnsHead) (objs : List Nat), p < 8 → (s.pp p).tx = none → (s.pp p).cmds = [] →
    (s.Hears p 10 h objs → s.isSource p = false → s.pState p = 7 ∨ s.pState p = 10 → 1 ≤ objs.length → objs.length ≤ 4 → (s.pp p).cut = false → ∃ t : State,
      exec (.srcCaps p h objs) s = .next t ∧ t.pState p = 8 ∧ (t.pp p).caps = objs ∧ (t.pp p).prior = s.pState p ∧
      (t.pp p).partnerDrp = (objs.any fun o => bitAt o 19) ∧ (t.pp p).rxId = some (snsId h) ∧
      (t.pp p).tx.map (fun m => (m.typ, m.objs)) = some (12, [(t.pp p).request])) ∧
    (s.Hears p 11 h objs → 1 ≤ objs.length → objs.length ≤ 4 → ∃ t : State, exec (.snkCaps p h objs) s = .next t ∧ (t.pp p).caps = objs ∧ t.regs = s.regs) ∧
    (∀ o, s.Hears p 12 h [o] → s.isSource p = true → s.pState p = 3 ∨ s.pState p = 6 → (s.pp p).waiting = [] → (s.pp p).cut = false →
      (s.acceptable p o = true → ∃ t : State, exec (.snsRequest p h [o]) s = .next t ∧ t.pState p = 5 ∧ (t.pp p).request = o ∧
        (t.pp p).vsel = pdoVolt ((s.pp p).srcPdos.getD (reqPos o - 1) 0) ∧ (t.pp p).tx.map (·.typ) = some 1) ∧
      (s.acceptable p o = false → ∃ t : State, exec (.snsRequest p h [o]) s = .next t ∧ t.pState p = s.pState p ∧
        (s.pState p = 6 → t.bitOf (Reg.PPW_P_EVENT p) 2 = true) ∧ (t.pp p).vsel = (s.pp p).vsel ∧ (t.pp p).tx.map (·.typ) = some 2)) ∧
    (∀ o, s.Hears p 12 h [o] → s.isSource p = true → s.busyNeg p = true → (s.pp p).cut = false → ∃ t : State, exec (.snsRequest p h [o]) s = .next t ∧ t.regs = s.regs ∧
      (t.pp p).tx.map (·.typ) = some 3) ∧
    (∀ o n, s.acceptable n o = true ↔ 1 ≤ reqPos o ∧ reqPos o ≤ (s.pp n).srcPdos.length ∧
      reqMax o ≤ pdoCurrent ((s.pp n).srcPdos.getD (reqPos o - 1) 0)) ∧
    (s.Hears p 1 h [] → s.pState p = 8 → ∃ t : State, exec (.snsAccept p h []) s = .next t ∧ t.pState p = 9) ∧
    (s.Hears p 2 h [] → s.pState p = 8 → (s.pp p).prior < 16 → ∃ t : State, exec (.snsReject p h []) s = .next t ∧ t.pState p = (s.pp p).prior ∧ (t.pp p).again = (s.pp p).again) ∧
    (s.Hears p 9 h [] → s.pState p = 8 → (s.pp p).prior < 16 → ∃ t : State, exec (.notSupported p h []) s = .next t ∧ t.pState p = (s.pp p).prior) ∧
    (s.Hears p 15 h objs ∨ (s.Hears p 9 h objs ∧ objs ≠ []) → (s.pp p).cut = false → ∃ t : State, exec (.notSupported p h objs) s = .next t ∧ t.regs = s.regs ∧
      (t.pp p).tx.map (·.typ) = some 9) ∧
    (s.Hears p 3 h [] → s.pState p = 8 → (s.pp p).prior < 16 → ∃ t : State, exec (.snsWait p h []) s = .next t ∧ t.pState p = (s.pp p).prior ∧
      (t.pp p).again = some (12, [(s.pp p).request])) ∧
    (s.Hears p 4 h [] → s.pState p = 9 → s.isSource p = false → ∃ t : State, exec (.psReady p h []) s = .next t ∧ t.pState p = 10 ∧
      t.get (Fd.PPW_P_STATUS_CONTRACT p) = reqMax (s.pp p).request ∧ t.get (Fd.PPW_P_STATUS_FRS_ARMED p) = b2n (decide (reqFrs (s.pp p).request ≠ 0)) ∧
      t.bitOf (Reg.PPW_P_EVENT p) 2 = true) ∧
    (s.Hears p 5 h [] → (s.pp p).srcPdos ≠ [] → (s.pp p).cut = false → ∃ t : State, exec (.getSrcCaps p h []) s = .next t ∧ t.regs = s.regs ∧
      (t.pp p).tx.map (fun m => (m.typ, m.objs)) = some (10, (s.pp p).srcPdos.map (s.pdoOut p))) ∧
    (s.Hears p 6 h [] → (s.pp p).snkPdos ≠ [] → (s.pp p).cut = false → ∃ t : State, exec (.getSnkCaps p h []) s = .next t ∧ t.regs = s.regs ∧
      (t.pp p).tx.map (fun m => (m.typ, m.objs)) = some (11, (s.pp p).snkPdos.map (s.pdoOut p))) ∧
    (s.Hears p 8 h [] → s.busyNeg p = false → s.isSource p = true → (s.pp p).cut = false → ∃ t : State, exec (.softReset p h []) s = .next t ∧ t.regs = s.regs ∧
      (t.pp p).rxId = some (snsId h) ∧
      (t.pp p).tx.map (fun m => (m.typ, m.id)) = some (10, 0)) ∧
    (∀ o, s.Hears p 13 h [o] → ∃ t : State, exec (.snsAlert p h [o]) s = .next t ∧ t.bitOf (Reg.PPW_P_EVENT p) 8 = true ∧ t.pState p = s.pState p)) ∧
  (∀ (s : State) (p : Nat) (h : SnsHead) (objs : List Nat), p < s.ports → (s.pp p).attached = true → (s.pp p).rxId = some (snsId h) →
    snsGood h objs = true →
    (snsType h = 10 → exec (.srcCaps p h objs) s = .next (s.goodRx p (snsId h))) ∧
    (snsType h = 12 → exec (.snsRequest p h objs) s = .next (s.goodRx p (snsId h))) ∧
    (snsType h = 4 → exec (.psReady p h objs) s = .next (s.goodRx p (snsId h))) ∧
    (snsType h = 7 → exec (.prSwap p h objs) s = .next (s.goodRx p (snsId h))) ∧
    (snsType h = 8 → exec (.softReset p h objs) s = .next (s.goodRx p (snsId h)))) ∧
  (∀ (s : State) (p : Nat) (h : SnsHead) (objs : List Nat), snsGood h objs = false →
    exec (.srcCaps p h objs) s = .next s ∧ exec (.snsRequest p h objs) s = .next s ∧ exec (.psReady p h objs) s = .next s ∧
    exec (.prSwap p h objs) s = .next s ∧ exec (.softReset p h objs) s = .next s) ∧
  (∀ (s : State) (p : Nat), p < 8 → p < s.ports → s.dieRuns = true → (s.pp p).cmds = [] → (s.pp p).tx = none →
    (s.pState p = 5 → s.isSource p = true → (s.pp p).lowAt = none → (s.pp p).cut = false → ∃ t : State, exec (.vpInWindow p) s = .next t ∧ t.pState p = 6 ∧
      t.get (Fd.PPW_P_STATUS_CONTRACT p) = reqMax (s.pp p).request ∧ t.get (Fd.PPW_P_STATUS_FRS_RELY p) = b2n (decide (reqFrs (s.pp p).request ≠ 0)) ∧
      (t.pp p).tx.map (·.typ) = some 4) ∧
    (∀ o, (s.pp p).again = some (12, [o]) → s.pState p = 7 ∨ s.pState p = 10 → (s.pp p).cut = false → ∃ t : State, exec (.waitAgainExpiry p) s = .next t ∧
      t.pState p = 8 ∧ (t.pp p).again = none ∧ (t.pp p).tx.map (fun m => (m.typ, m.objs)) = some (12, [o])) ∧
    (s.pState p = 9 → (s.pp p).attached = true → ∃ t : State, exec (.snkPsrExpiry p) s = .next t ∧ t.pState p = 13 ∧
      t.get (Fd.PPW_P_COUNT_HARD_RESETS p) = min (s.get (Fd.PPW_P_COUNT_HARD_RESETS p) + 1) 255) ∧
    (s.pState p = 6 → (s.pp p).dropped = true → (s.pp p).attached = true → ∃ t : State, exec (.trequestExpiry p) s = .next t ∧ t.pState p = 13)) ∧
  (∀ (s : State) (p : Nat) (h : SnsHead), p < 8 → (s.pp p).cut = true → (s.Hears p 5 h [] → ∃ t : State,
      exec (.getSrcCaps p h []) s = .next t ∧ t.regs = s.regs ∧ (t.pp p).tx = (s.pp p).tx ∧ (t.pp p).sent = (s.pp p).sent) ∧
    (s.Hears p 6 h [] → ∃ t : State,
      exec (.getSnkCaps p h []) s = .next t ∧ t.regs = s.regs ∧ (t.pp p).tx = (s.pp p).tx ∧ (t.pp p).sent = (s.pp p).sent))

/-- R325 to R330 and R324: role swaps and fast role swaps step by step, protection, and hard reset. -/
def Obligations.PowerSwapsAndFaults : Prop :=
  (∀ (s : State) (p : Nat) (h : SnsHead), p < 8 → (s.pp p).tx = none → (s.pp p).cmds = [] →
    (s.Hears p 7 h [] → s.on (Fd.PPW_P_CFG_ACCEPT_SWAP p) = false → (s.pp p).cut = false → ∃ t : State, exec (.prSwap p h []) s = .next t ∧ t.regs = s.regs ∧ (t.pp p).tx.map (·.typ) = some 2) ∧
    (s.Hears p 7 h [] → s.on (Fd.PPW_P_CFG_ACCEPT_SWAP p) = true → s.busyNeg p = true → (s.pp p).cut = false → ∃ t : State, exec (.prSwap p h []) s = .next t ∧ t.regs = s.regs ∧
      (t.pp p).tx.map (·.typ) = some 3) ∧
    (s.Hears p 7 h [] → s.on (Fd.PPW_P_CFG_ACCEPT_SWAP p) = true → s.maySwap p = true → (s.pp p).swap = .none → s.isSource p = true → (s.pp p).cut = false →
      ∃ t : State, exec (.prSwap p h []) s = .next t ∧ t.pState p = 11 ∧ (t.pp p).swap = .oldSource ∧ (t.pp p).gates = false ∧ (t.pp p).vsel = 3 ∧
      (t.pp p).term = .rd ∧ (t.pp p).tx.map (·.typ) = some 1 ∧ (t.pp p).waiting.map (·.1) = (s.pp p).waiting.map (·.1) ++ [4]) ∧
    (s.Hears p 7 h [] → s.on (Fd.PPW_P_CFG_ACCEPT_SWAP p) = true → s.maySwap p = true → (s.pp p).swap = .none → s.isSource p = false →
      ∃ t : State, exec (.prSwap p h []) s = .next t ∧ t.pState p = 11 ∧ (t.pp p).swap = .waitOld ∧ (t.pp p).gates = (s.pp p).gates) ∧
    (s.Hears p 4 h [] → s.pState p = 11 → (s.pp p).swap = .waitOld → ∃ t : State, exec (.psReady p h []) s = .next t ∧ t.isSource p = true ∧
      (t.pp p).gates = true ∧ (t.pp p).term = .rp ∧ (t.pp p).vsel = s.get (Fd.PPW_P_STATUS_VOLT p) ∧ (t.pp p).swap = .turnOn) ∧
    (s.Hears p 4 h [] → s.pState p = 11 → (s.pp p).swap = .oldSource → (s.pp p).fast = false → ∃ t : State, exec (.psReady p h []) s = .next t ∧ t.pState p = 10 ∧
      t.isSource p = false ∧ t.get (Fd.PPW_P_COUNT_SWAPS p) = min (s.get (Fd.PPW_P_COUNT_SWAPS p) + 1) 255) ∧
    (s.Hears p 14 h [] → s.pState p = 12 → (s.pp p).swap = .turnOn → (s.pp p).frsVp = true → (s.pp p).cut = false → ∃ t : State, exec (.frSwap p h []) s = .next t ∧
      (t.pp p).tx.map (·.typ) = some 1 ∧ (t.pp p).swap = .newContract) ∧
    (s.Hears p 14 h [] → s.pState p = 12 → (s.pp p).swap = .waitOld → (s.pp p).cut = false → ∃ t : State, exec (.frSwap p h []) s = .next t ∧
      (t.pp p).tx.map (·.typ) = some 1 ∧ (t.pp p).frsAck = true ∧ t.pState p = 12)) ∧
  (∀ (s : State) (p : Nat), p < 8 → p < s.ports → (s.pp p).cmds = [] → (s.pp p).attached = true →
    (s.pState p = 11 → (s.pp p).swap = .turnOn → (s.pp p).fast = false → (s.pp p).tx = none → s.dieRuns = true → (s.pp p).lowAt = none → (s.pp p).cut = false → ∃ t : State, exec (.vpInWindow p) s = .next t ∧
      t.pState p = 6 ∧ (t.pp p).swap = .newContract ∧ (t.pp p).tx.map (·.typ) = some 4 ∧
      t.get (Fd.PPW_P_COUNT_SWAPS p) = min (s.get (Fd.PPW_P_COUNT_SWAPS p) + 1) 255) ∧
    (s.pState p = 11 → (s.pp p).swap = .oldSource → s.dieRuns = true → ∃ t : State, exec (.swapPsReadyTimeout p) s = .next t ∧ t.pState p = 13 ∧
      (t.pp p).swap = .none ∧ t.isSource p = (s.pp p).wasSource) ∧
    ((s.pp p).swap = .newContract → (s.pp p).fast = false → s.isSource p = true → s.pState p < 13 → ∃ t : State, exec (.swapContractTimeout p) s = .next t ∧ t.pState p = 3 ∧
      t.get (Fd.PPW_P_STATUS_CONTRACT p) = 50 ∧ (t.pp p).swap = .none) ∧
    (∀ vs pfi, s.on (Fd.PPW_P_STATUS_FRS_RELY p) = true → s.pState p < 11 →
      10 * vs < 9 * (1200 * 2 ^ s.get (Fd.PPW_P_STATUS_VOLT p)) ∨ (pfi = true ∧ s.on (Fd.PPW_P_CFG_FRS_ON_PFI p) = true) → ∃ t : State,
      exec (.frsTrigger p vs pfi) s = .next t ∧ t.pState p = 12 ∧ (t.pp p).frsSig = true ∧ (t.pp p).vsel = 3 ∧ (t.pp p).term = .rd ∧
      (t.pp p).gates = (s.pp p).gates ∧ (t.pp p).swap = .oldSource ∧ (t.pp p).fast = true) ∧
    (∀ vs pfi, s.on (Fd.PPW_P_STATUS_FRS_RELY p) = false → exec (.frsTrigger p vs pfi) s = .next s) ∧
    ((s.pp p).frsSig = true → s.dieRuns = true → (s.pp p).tx = none → (s.pp p).cut = false → ∃ t : State, exec (.frsSignalEnd p) s = .next t ∧
      (t.pp p).frsSig = false ∧ (t.pp p).tx.map (·.typ) = some 14) ∧
    (s.on (Fd.PPW_P_STATUS_FRS_ARMED p) = true → s.pState p < 12 → ∃ t : State, exec (.frsRecognition p) s = .next t ∧ t.pState p = 12 ∧
      (t.pp p).gates = false ∧ (t.pp p).swap = .waitOld ∧ (t.pp p).fast = true) ∧
    (s.pState p = 12 → (s.pp p).swap = .waitOld → ((s.pp p).frs < 512 → ∃ t : State, exec (.frsTurnOn p) s = .next t ∧
        t.get (Fd.PPW_P_STATUS_CONTRACT p) = (s.pp p).frs * 2 ∧ t.isSource p = true ∧ (t.pp p).gates = true ∧ (t.pp p).swap = .turnOn ∧
        t.on (Fd.PPW_P_STATUS_FRS_ARMED p) = false) ∧
      ∃ t : State, exec (.frsCancel p) s = .next t ∧ t.pState p = 10 ∧ (t.pp p).gates = true ∧ (t.pp p).swap = .none ∧
        t.get (Fd.PPW_P_STATUS_FRS_ARMED p) = s.get (Fd.PPW_P_STATUS_FRS_ARMED p)) ∧
    ((s.pp p).fast = true → (s.pp p).swap = .newContract → s.dieRuns = true → s.pState p = 3 → ∃ t : State,
      exec (.frsContractExpiry p) s = .next t ∧ t.pState p = 13 ∧ (t.pp p).swap = .none) ∧
    (s.pState p < 11 → ∃ t : State, exec (.hardReset p) s = .next t ∧ t.pState p = 13 ∧ (t.pp p).tx = none ∧ (t.pp p).rxId = none ∧
      (t.pp p).gates = false ∧ t.isSource p = s.isSource p ∧
      t.get (Fd.PPW_P_COUNT_HARD_RESETS p) = min (s.get (Fd.PPW_P_COUNT_HARD_RESETS p) + 1) 255) ∧
    (s.pState p = 13 → exec (.hardReset p) s = .next s ∧ ∃ t : State, exec (.hardResetDischarged p) s = .next t ∧ (t.pp p).dis = false ∧
      t.pState p = (if s.isSource p then 3 else 7) ∧ (t.pp p).gates = true ∧ t.get (Fd.PPW_P_STATUS_CONTRACT p) = 50)) ∧
  (∀ (s : State) (p cause : Nat), p < 8 → p < s.ports → (s.pp p).cmds = [] →
    (1 ≤ cause → cause ≤ 7 → s.pState p ≠ 0 → s.pState p < 11 → (cause = 3 → s.isSource p = true ∧ s.pState p ≠ 5 ∧ (s.pp p).ramp = false) →
      (∀ c, (s.pp p).calm = some c → cause = 3 → c + 8000000 ≤ s.time.cyc) →
      (∀ c, (s.pp p).swapAt = some c → cause = 6 → c + 2000000 ≤ s.time.cyc) → ∃ t : State,
      exec (.protectionTrip p cause) s = .next t ∧ (t.pp p).gates = false ∧ t.get (Fd.PPW_P_FAULT_CAUSE p) = cause ∧
      t.get (Fd.PPW_P_FAULT_FRAME_FRAME p) = s.frame % 2 ^ 32 ∧ (t.pState p = 14 ∨ t.pState p = 15) ∧
      ((s.pp p).faultAt = none → 0 < s.get (Fd.PPW_P_LIMITS_FAULT_RETRIES p) → t.pState p = 14) ∧
      (∀ f, (s.pp p).faultAt = some f → s.time.cyc < f + 24000000000 → s.get (Fd.PPW_P_LIMITS_FAULT_RETRIES p) ≤ (s.pp p).faultRun →
        t.pState p = 15) ∧
      t.get (Fd.PPW_P_COUNT_FAULTS p) = min (s.get (Fd.PPW_P_COUNT_FAULTS p) + 1) 255 ∧ (s.dieRuns = true → t.bitOf (Reg.PPW_P_EVENT p) 6 = true)) ∧
    (cause = 3 → s.isSource p = false ∨ (s.pp p).ramp = true ∨ s.pState p = 5 ∨ s.pState p = 11 ∨ s.pState p = 12 → exec (.protectionTrip p cause) s = .next s) ∧
    (cause = 6 → s.pState p = 11 ∨ s.pState p = 12 → exec (.protectionTrip p cause) s = .next s) ∧
    (∀ c, (s.pp p).calm = some c → cause = 3 → s.time.cyc < c + 8000000 → exec (.protectionTrip p cause) s = .next s) ∧
    (∀ c, (s.pp p).swapAt = some c → cause = 6 → s.time.cyc < c + 2000000 → exec (.protectionTrip p cause) s = .next s) ∧
    (s.pState p = 14 → s.linkState p = 0 → ∃ t : State, exec (.retryDelayExpiry p) s = .next t ∧ t.pState p = 1 ∧ (t.pp p).attached = false ∧
      (t.pp p).term = capTerm (s.roleCap p)) ∧
    (s.pState p = 15 → exec (.retryDelayExpiry p) s = .next s))

/-- R333: the port-power commands: what each makes of the port it names, and the refusals. -/
def Obligations.PowerCommands : Prop :=
  ∀ (s : State) (id : Nat) (c : Cmd), let p := c.u 0 1; p < 8 →
  (s.Ready id 0x0500 c → p < s.ports → ∃ r : List Byte, exec (.pwrGetPort id) s = .next (s.okay c r) ∧ r.length = 36 ∧
    r.take 1 = leBytes 1 (s.pState p) ∧ slice r 4 2 = leBytes 2 (s.get (Fd.PPW_P_STATUS_CONTRACT p)) ∧
    slice r 8 2 = leBytes 2 (s.get (Fd.PPW_P_VOLT_VP p)) ∧ slice r 32 4 = leBytes 4 (s.get (Fd.PPW_P_FAULT_FRAME_FRAME p))) ∧
  (s.Ready id 0x0500 c → s.ports ≤ p → exec (.pwrGetPort id) s = .next (s.finish c ST.invalid 0 [])) ∧
  (s.Ready id 0x0501 c → p < s.ports → c.u 1 1 = 0 → c.u 2 1 = 1 → c.u 3 1 = 1 → c.u 4 1 = 0 → c.u 6 2 ≤ 511 →
    badPdo (c.u 8 4) = false → pdoVolt (c.u 8 4) = 0 → s.pState p = 0 → s.on (Fd.PPW_P_CFG_EN p) = false → s.on (Fd.PPW_P_STATUS_DB p) = false →
    (s.pp p).attached = false → ∃ t : State, exec (.pwrSetPolicy id) s = .next (t.okay c []) ∧ t.pState p = 1 ∧ t.roleCap p = 0 ∧
    t.on (Fd.PPW_P_CFG_EN p) = true ∧ (t.pp p).term = .rp ∧ (t.pp p).srcPdos = [c.u 8 4] ∧ (t.pp p).frsOffer = c.u 6 2) ∧
  (s.Ready id 0x0501 c → p < s.ports → c.u 1 1 = 2 → c.u 3 1 = 1 → c.u 4 1 = 0 → c.u 6 2 ≤ 511 → badPdo (c.u 8 4) = false →
    pdoVolt (c.u 8 4) = 0 → exec (.pwrSetPolicy id) s = .next (s.finish c ST.invalid 3 [])) ∧
  (s.Ready id 0x0502 c → p < s.ports → c.pend = false → c.u 1 1 ≠ 0 → c.u 1 1 ≤ 4 → c.u 2 2 ≠ 0 → c.u 2 2 ≤ 500 → (s.pp p).attached = true →
    s.isSource p = false → s.pState p = 10 → (s.pp p).tx = none → (s.pp p).cut = false → s.dieRuns = true → c.mbx < 64 → ∃ t : State, exec (.pwrRequestContract id) s = .next t ∧
    t.pState p = 8 ∧ c.id ∈ (t.pp p).cmds ∧ (t.pp p).tx.map (fun m => (m.typ, m.objs)) = some (12, [s.requestObj p (c.u 1 1) (c.u 2 2)])) ∧
  (s.Ready id 0x0503 c → p < s.ports → c.pend = false → s.roleCap p = 2 → (s.pp p).partnerDrp = true → s.pState p = 6 ∨ s.pState p = 10 → (s.pp p).tx = none → (s.pp p).cut = false → s.dieRuns = true → c.mbx < 64 → ∃ t : State,
    exec (.pwrRoleSwap id) s = .next t ∧ (t.pp p).swap = .asked ∧ c.id ∈ (t.pp p).cmds ∧ (t.pp p).tx.map (·.typ) = some 7) ∧
  (s.Ready id 0x0504 c → p < s.ports → s.pState p = 15 → (∃ t : State, exec (.pwrHardReset id) s = .next t ∧ t.pState p = 1 ∧
    (t.pp p).attached = false)) ∧
  (s.Ready id 0x0504 c → p < s.ports → s.pState p < 11 → (s.pp p).attached = true → (s.pp p).cmds = [] → (∃ t : State,
    exec (.pwrHardReset id) s = .next t ∧ t.pState p = 13 ∧ (t.pp p).cmds = [c.id])) ∧
  (s.Ready id 0x0505 c → p < s.ports → 105 ≤ c.u 1 1 → c.u 1 1 ≤ 150 → 5 ≤ c.u 2 1 → c.u 2 1 ≤ 100 → c.u 3 1 ≤ 7 → 10 ≤ c.u 6 2 → c.u 6 2 ≤ 200 →
    1 ≤ c.u 8 1 → c.u 8 1 ≤ 100 →
    (200 ≤ c.u 4 2 → c.u 4 2 ≤ 1000 → s.pState p ≤ 1 → ∃ t : State, exec (.pwrSetLimits id) s = .next (t.okay c []) ∧
      t.get (Fd.PPW_P_LIMITS_FAULT_RETRIES p) = c.u 3 1 ∧ t.get (Fd.PPW_P_LIMITS_RETRY_DELAY p) = c.u 8 1 ∧
      t.get (Fd.PPW_P_LIMITS_RC_MA p) = c.u 6 2 ∧ t.get (Fd.PPW_P_LIMITS_OC_BLANK p) = c.u 2 1 ∧
      t.get (Fd.PPW_P_LIMITS_OC_PCT_ADD p) = c.u 1 1 - 100 ∧ t.get (Fd.PPW_P_SENSE_SENSE p) = c.u 4 2) ∧
    (c.u 4 2 < 200 → exec (.pwrSetLimits id) s = .next (s.finish c ST.invalid 0 [])) ∧
    (200 ≤ c.u 4 2 → c.u 4 2 ≤ 1000 → c.u 4 2 ≠ s.get (Fd.PPW_P_SENSE_SENSE p) → 1 < s.pState p →
      exec (.pwrSetLimits id) s = .next (s.finish c ST.denied 1 []))) ∧
  (s.Ready id 0x0506 c → p < s.ports → c.u 1 1 = 0 → (s.pp p).cmds = [] → s.linkState p = 0 → ∃ t : State, exec (.pwrPortOff id) s = .next t ∧
    t.pState p = 0 ∧ (t.pp p).gates = false ∧ (t.pp p).term = .openLine ∧ (t.pp p).cmds = [c.id] ∧
    (t.pp p).dis = !(decide (s.get (Fd.PPW_P_VOLT_VP p) < 500) && !(s.pp p).gates)) ∧
  (s.Ready id 0x0506 c → p < s.ports → c.u 1 1 = 1 → s.pState p = 0 → ∃ t : State, exec (.pwrPortOff id) s = .next (t.okay c []) ∧ t.pState p = 1)

/-- R334 to R343: the mains observer: samples, the half-cycle windows and the events they begin and end, cycles and lock, the intervals,
the calibration, the latched reads and the commands. -/
def Obligations.MainsObserver : Prop :=
  (∀ (s0 : State) (dt : Nat) (v0 v1 v2 v3 : Int), let s := s0.advance dt
    (s.mnsLocked = false → ∃ t : State, exec (.mainsSample dt v0 v1 v2 v3) s0 = .next t ∧
      t.mains.samples = ((s.nowNsAll / 62500 * 62500, [v0, v1, v2, v3]) :: s.mains.samples).take 1024 ∧
      (t.mains.ch 0).overRng = ((s.mains.ch 0).overRng || decide (980000 ≤ v0.natAbs)) ∧
      (t.mains.ch 3).overRng = ((s.mains.ch 3).overRng || decide (980000 ≤ v3.natAbs)) ∧
      t.bitOf Reg.MNS_EVENT Fd.MNS_EVENT_OVER_RANGE.lo =
        (s.bitOf Reg.MNS_EVENT Fd.MNS_EVENT_OVER_RANGE.lo || [v0, v1, v2, v3].any fun v => decide (980000 ≤ v.natAbs)))) ∧
  (∀ (s0 : State) (dt : Nat), let s := s0.advance dt
    (s.mnsLocked = false → exec (.urmsWindowEnd dt) s0 = .next s) ∧
    (∀ a, s.mnsLocked = true → s.mains.wiring = 0 → s.mnsEn 0 = true → s.mains.marks[1]? = some a →
      let q := s.mains.squares 0 a s.nowNsAll
      let u := (s.mains.ch 0).mag q.1 q.2
      ∃ t : State, exec (.urmsWindowEnd dt) s0 = .next t ∧ (t.mains.ch 0).half = u ∧ t.mains.marks = (s.nowNsAll :: s.mains.marks).take 2 ∧
      (s.mains.dip = none → (u < s.mains.dipAt → t.mains.dip = some { start := s.nowNsAll, chans := 1, ext := min 0xFFFFFF u } ∧
          t.on Fd.MNS_EVENT_DIP_START = true ∧ t.get Fd.MNS_COUNT_DIPS = min (s.get Fd.MNS_COUNT_DIPS + 1) 255) ∧
        (s.mains.dipAt ≤ u → t.mains.dip = none ∧ t.get Fd.MNS_COUNT_DIPS = s.get Fd.MNS_COUNT_DIPS)) ∧
      (∀ e, s.mains.dip = some e → (s.mains.dipAt + s.mains.hyst ≤ u → t.mains.dip = none ∧ t.on Fd.MNS_EVENT_DIP_END = true) ∧
        (u < s.mains.dipAt + s.mains.hyst → t.mains.dip.map (fun x => (x.start, x.ext)) = some (e.start, min e.ext (min 0xFFFFFF u)))) ∧
      (s.mains.swell = none → s.mains.swellAt < u → t.mains.swell = some { start := s.nowNsAll, chans := 1, ext := u } ∧
        t.on Fd.MNS_EVENT_SWELL_START = true) ∧
      (∀ e, s.mains.swell = some e → u + s.mains.hyst ≤ s.mains.swellAt → t.mains.swell = none ∧ t.on Fd.MNS_EVENT_SWELL_END = true) ∧
      (s.mains.int = none → u < s.mains.intAt → t.mains.int = some { start := s.nowNsAll, chans := 1, ext := min 0xFFFFFF u } ∧
        t.on Fd.MNS_EVENT_INT_START = true) ∧
      (∀ e, s.mains.int = some e → s.mains.intAt + s.mains.hyst ≤ u → t.mains.int = none ∧ t.on Fd.MNS_EVENT_INT_END = true)) ∧
    (s.mains.rise = none → ∃ t : State, exec (.zeroCrossing dt) s0 = .next t ∧ t.mains.rise = some s.nowNsAll ∧ t.regs = s.regs) ∧
    (∀ a, s.mains.rise = some a → s.mnsLocked = false →
      (cycleGood s.mnsNom (s.nowNsAll - a) = true → s.mains.good = 3 → ∃ t : State, exec (.zeroCrossing dt) s0 = .next t ∧
        t.mnsLocked = true ∧ t.mains.freq = quotFree 1000000000000 (s.nowNsAll - a)) ∧
      (cycleGood s.mnsNom (s.nowNsAll - a) = true → s.mains.good < 3 → ∃ t : State, exec (.zeroCrossing dt) s0 = .next t ∧
        t.mnsLocked = false ∧ t.mains.good = s.mains.good + 1) ∧
      (cycleGood s.mnsNom (s.nowNsAll - a) = false → ∃ t : State, exec (.zeroCrossing dt) s0 = .next t ∧ t.mnsLocked = false ∧
        t.mains.good = 0)) ∧
    (∀ a, s.mains.rise = some a → s.mnsLocked = true → cycleGood s.mnsNom (s.nowNsAll - a) = false → ∃ t : State,
      exec (.zeroCrossing dt) s0 = .next t ∧ t.mnsLocked = false ∧ t.mains.freq = 0 ∧ t.mains.marks = [] ∧ t.mains.dip = none ∧
      t.mains.swell = none ∧ t.mains.int = none) ∧
    (∀ a, s.mains.rise = some a → s.mnsLocked = true → cycleGood s.mnsNom (s.nowNsAll - a) = true → ∃ t : State,
      exec (.zeroCrossing dt) s0 = .next t ∧ t.mnsLocked = true ∧ t.mains.freq = quotFree 1000000000000 (s.nowNsAll - a) ∧
      (s.mains.exc = none → s.mains.excRun = 2 → s.inBand t.mains.freq = false → t.mains.exc.isSome = true ∧
        t.mains.excs = min (s.mains.excs + 1) 0xFFFF) ∧
      (∀ e, s.mains.exc = some e → s.mains.excRun = 2 → s.inBand t.mains.freq = true → t.mains.exc = none))) ∧
  (∀ s : State,
    (s.mains.tenCyc < (if s.mnsNom = 60 then 12 else 10) → exec .tenCycleEnd s = .next s) ∧
    ((if s.mnsNom = 60 then 12 else 10) ≤ s.mains.tenCyc → ∃ t : State, exec .tenCycleEnd s = .next t ∧ t.regs = s.regs ∧ t.mains.tenCyc = 0 ∧
      t.mains.tenLast = (s.mains.tenFlag || s.mains.busy) ∧ ∀ n < 4, t.mains.ch n = { s.mains.ch n with
        ten := if s.mnsEn n then (s.mains.ch n).mag (s.mains.ch n).sumSq (s.mains.ch n).count else 0, sumSq := 0, count := 0 }) ∧
    (∀ a, s.mains.secA = some a → s.mains.secN ≠ 0 → s.mains.secJump = s.time.jumps → exec .tenSecondEnd s = .next (s.setMains { s.mains with
      freq10 := min (quotFree (s.mains.secN * 1000000000000) (s.mains.secB - a)) 0xFFFFFF, secA := none, secB := 0, secN := 0 })) ∧
    (s.mains.secJump ≠ s.time.jumps → ∃ t : State, exec .tenSecondEnd s = .next t ∧ t.mains.freq10 = s.mains.freq10 ∧ t.mains.secA = none) ∧
    (∀ p, s.reach p .manager = .ok → ∃ t : State, exec (.mnsWordLatchRead p) s = .next t ∧ t.host.readData = s.mains.word.getD 0 0 ∧
      t.mains = s.mains ∧ ∀ e, 1 ≤ e → e ≤ 15 → t.get (Fd.MNS_WORD_ELEMENT e) = s.mains.word.getD e 0 % 2 ^ 24) ∧
    (∀ p, s.reach p .manager = .ok → ∃ t : State, exec (.mnsEvtLatchRead p) s = .next t ∧ t.host.readData = s.mains.last.info ∧
      t.get Fd.MNS_EVT_SEC_SEC = s.mains.last.sec % 2 ^ 32 ∧ t.get Fd.MNS_EVT_NS_NS = s.mains.last.ns % 2 ^ 30 ∧
      t.get Fd.MNS_EVT_DUR_DUR = s.mains.last.dur % 2 ^ 32) ∧
    (∀ k, s.mains.cal = some k → k.cycles < 50 → exec .calibrationComplete s = .next s) ∧
    (∀ k c, s.mains.cal = some k → k.cycles = 50 → s.findCmd k.cmd = some c →
      (k.groups.foldl (fun r g => (r.1 + g.1, r.2 + g.2)) (0, 0)).1 = 0 → ∃ t : State,
      exec .calibrationComplete s = .next (t.finish c ST.fault 1 []) ∧ t.mains.cal = none ∧ t.mains.chs = s.mains.chs) ∧
    (∀ k c v, s.mains.cal = some k → k.cycles = 50 → s.findCmd k.cmd = some c → 0 < (s.mains.ch k.ch).fsv →
      (let all := k.groups.foldl (fun r g => (r.1 + g.1, r.2 + g.2)) (0, 0)
       0 < all.1 ∧ all.1 * ((s.mains.ch k.ch).fsv * (s.mains.ch k.ch).fsv) = k.vref * k.vref * 10 ^ 12 * all.2) →
      (∀ g, g ∈ k.groups → ({ s.mains.ch k.ch with ppm := 0 } : MainsCh).mag g.1 g.2 = v) → ∃ t : State,
      exec .calibrationComplete s = .next (t.finish c ST.ok 0 (leBytes 4 0)) ∧ (t.mains.ch k.ch).nextPpm = some 0 ∧ t.mains.cal = none)) ∧
  (∀ (s : State) (id : Nat) (c : Cmd),
    (s.Ready id 0x0600 c → c.u 0 1 = 0 → c.u 1 1 ≤ 1 → c.u 2 1 = 0 → c.u 3 1 = 1 → 100 ≤ c.udin 0 → c.udin 0 ≤ 10000 →
      (8 * (c.udin 0 * c.udin 0) ≤ c.fsv 0 * c.fsv 0 → s.mains.cal = none → ∃ t : State, exec (.mainsConfigure id) s = .next (t.okay c []) ∧
        t.mains.wiring = 0 ∧ t.get Fd.MNS_CTRL_EN = 1 ∧ t.get Fd.MNS_CTRL_F_NOM = c.u 1 1 ∧ t.mnsLocked = false ∧ t.mains.dip = none ∧
        t.mains.swell = none ∧ t.mains.int = none ∧ t.mains.exc = none ∧ (t.mains.ch 0).udin = c.udin 0 ∧ (t.mains.ch 0).fsv = c.fsv 0 ∧
        (t.mains.ch 0).ppm = (s.mains.ch 0).ppm) ∧
      (c.fsv 0 * c.fsv 0 < 8 * (c.udin 0 * c.udin 0) → exec (.mainsConfigure id) s = .next (s.finish c ST.invalid 1 []))) ∧
    (s.Ready id 0x0601 c → exec (.mainsGetStatus id) s = .next (s.okay c (s.mains.word.flatMap (leBytes 3) ++ leBytes 4 s.mains.last.info ++
      leBytes 4 s.mains.last.sec ++ leBytes 4 s.mains.last.ns ++ leBytes 4 s.mains.last.dur ++ zeros 4 ++ leBytes 2 s.mains.dips ++
      leBytes 2 s.mains.swells ++ leBytes 2 s.mains.ints ++ leBytes 2 s.mains.excs))) ∧
    (s.Ready id 0x0602 c → 5000 ≤ c.u 0 2 → c.u 0 2 ≤ 9900 → 10100 ≤ c.u 2 2 → c.u 2 2 ≤ 20000 → 100 ≤ c.u 4 2 → c.u 4 2 ≤ 1000 →
      10 ≤ c.u 6 2 → c.u 6 2 ≤ 500 → 100 ≤ c.u 8 2 → c.u 8 2 ≤ 5000 → 100 ≤ c.u 10 2 → c.u 10 2 ≤ 5000 →
      (c.u 4 2 + c.u 6 2 < c.u 0 2 → c.u 0 2 + 2 * c.u 6 2 < c.u 2 2 → ∃ t : State, exec (.mainsSetThresholds id) s = .next (t.okay c []) ∧
        t.regs = s.regs ∧ t.mains = { s.mains with
          dipAt := c.u 0 2, swellAt := c.u 2 2, intAt := c.u 4 2, hyst := c.u 6 2, fLow := c.u 8 2, fHigh := c.u 10 2 }) ∧
      (c.u 2 2 ≤ c.u 0 2 + 2 * c.u 6 2 → exec (.mainsSetThresholds id) s = .next (s.finish c ST.invalid 1 []))) ∧
    (s.Ready id 0x0603 c → c.u 0 1 ≤ 3 → s.mnsEn (c.u 0 1) = true → s.mnsLocked = true → s.mains.busy = false → s.mains.exc = none →
      (s.mains.ch (c.u 0 1)).udin ≤ 2 * c.u 2 2 → 5 * c.u 2 2 ≤ 6 * (s.mains.ch (c.u 0 1)).udin → c.mbx < 64 → ∃ t : State,
      exec (.mainsCalibrate id) s = .next t ∧ t.on Fd.MNS_STATUS_CAL = true ∧
      t.mains.cal = some { cmd := c.id, ch := c.u 0 1, vref := c.u 2 2, cycles := 0, groups := [] }) ∧
    (s.Ready id 0x0603 c → c.u 0 1 ≤ 3 → s.mnsEn (c.u 0 1) = false → exec (.mainsCalibrate id) s = .next (s.finish c ST.denied 1 [])))

/-- R345 to R349, R351, R355 to R359, R363, R364: what the ring's messages, links and losses do: heartbeats and their count, the time
source, the mirror and its way round the ring (relayed by the model's choice, log entry 272), handover, lost spurs and the replacement's
STOP. -/
def Obligations.PairRing : Prop :=
  (∀ (s : State) (link n f pt d : Nat) (pf : Bool), link ≤ 1 → s.parMode ≠ 0 → s.sadState link = 2 → n < s.parCount → n ≠ s.ctrlNo →
    (n = s.partnerNo → s.paired = true → s.partner = 0 → pf = false → f = s.frame → f < 2 ^ 32 → ∃ t : State,
      exec (.saddleHeartbeat link n f pt d pf) s = .next t ∧ t.partner = 1 ∧ t.on Fd.PAR_STATUS_JOINED = true ∧
      t.get Fd.PAR_PARTNER_FRAME_FRAME = f ∧ t.get Fd.PAR_PARTNER_D_D = d % 2 ^ 32 ∧ t.on Fd.PAR_EVENT_PARTNER_UP = true ∧
      t.pair.heard = s.pair.heard ++ [(link, n)]) ∧
    (s.paired = false → f % 2 ^ 32 ≠ s.frame → ∃ t : State, exec (.saddleHeartbeat link n f pt d pf) s = .next t ∧
      t.on Fd.PAR_STATUS_JOINED = false ∧ t.on Fd.PAR_EVENT_JOIN_FAIL = true ∧ (∀ p, p < s.ports → p < 8 → t.on (Fd.LNK_CTRL_DISABLE p) = true) ∧
      t.pair.out = s.pair.out ++ (if s.neighbour (1 - link) ≠ n ∧ s.sadState (1 - link) = 2 then [(1 - link, .heartbeat n f pt d pf)] else []))) ∧
  (∀ (s : State) (link f pt d : Nat) (pf : Bool), exec (.saddleHeartbeat link s.ctrlNo f pt d pf) s = .next s) ∧
  (∀ s : State, s.paired = true → (s.pair.heard.any fun x => x.2 == s.partnerNo) = false → s.partner ≤ 1 →
    (s.on Fd.PAR_CTRL_AUTO_TAKEOVER = false → s.comingHubs = [] → ∃ t : State, exec .heartbeatMiss s = .next t ∧ t.partner = 2 ∧
      t.pair = s.pair ∧ t.on Fd.PAR_EVENT_PARTNER_DOWN = true ∧ t.get Fd.PAR_COUNT_HB_MISSED = min (s.get Fd.PAR_COUNT_HB_MISSED + 1) 255) ∧
    (s.on Fd.PAR_CTRL_AUTO_TAKEOVER = false → s.on Fd.PAR_STATUS_JOINED = true → s.comingHubs ≠ [] → s.takingHubs = [] →
      (s.comingHubs.all fun h => (s.dualHubs true).contains h) = true → ∃ t : State, exec .heartbeatMiss s = .next t ∧ t.partner = 2 ∧
      t.pair.takes = s.pair.takes ++
        [{ hubs := s.comingHubs, why := .command, g := s.frame, lo := (s.get Fd.PAR_PARTNER_D_D + 1) % 2 ^ 32, sel := [], live := false }]) ∧
    (s.on Fd.PAR_CTRL_AUTO_TAKEOVER = true → s.on Fd.PAR_STATUS_JOINED = true → s.dualHubs true ≠ [] → s.takingHubs = [] → ∃ t : State,
      exec .heartbeatMiss s = .next t ∧ t.partner = 2 ∧ t.pair.takes = s.pair.takes ++
        [{ hubs := s.dualHubs true, why := .down, g := s.frame, lo := (s.get Fd.PAR_PARTNER_D_D + 1) % 2 ^ 32, sel := [], live := false }])) ∧
  (∀ s : State, s.paired = false → exec .heartbeatMiss s = .next s) ∧
  (∀ (s : State) (link src sec ns unc st delay hops stamp : Nat) (est : Bool), link ≤ 1 → s.parMode ≠ 0 → s.sadState link = 2 → src ≠ s.ctrlNo →
    src = s.activeSrc → s.isSource' = false → s.pair.usedTime = false → s.discState = 4 → s.pair.holds = false → 2 * hops ≤ s.parCount →
    (ns ≠ 0 → ∃ t : State, exec (.saddleTime link src sec ns unc st est delay hops stamp) s = .next t ∧ t.time = s.time ∧
      t.pair.usedTime = true ∧ t.pair.base = min (unc + 10 + hopNs hops) 0xFFFFFFFF ∧ t.pair.srcEst = est ∧ t.pair.lastMsg = s.time.cyc ∧
      t.get Fd.PAR_TIME_SOURCE = src ∧ t.get Fd.PAR_TIME_HOPS = hops % 64) ∧
    (let e := followErr stamp sec 0 delay
     (s.pair.fresh = true → 1000 < e.natAbs → ∃ t : State, exec (.saddleTime link src sec 0 unc st est delay hops stamp) s = .next t ∧
        t.time.corrReq = some (false, -e) ∧ t.pair.fresh = false ∧ t.get Fd.PAR_TIME_ERR = ofSigned 20 (clampInt e (-524288) 524287) % 2 ^ 20) ∧
     (s.pair.fresh = false → e.natAbs ≤ 100 → s.on Fd.PAR_CTRL_JOIN = true → s.pair.joinRun = 15 → ∃ t : State,
        exec (.saddleTime link src sec 0 unc st est delay hops stamp) s = .next t ∧ t.on Fd.PAR_STATUS_JOIN_READY = true ∧ t.pair.joinRun = 16))) ∧
  (∀ (s : State) (link src sec ns unc st delay hops stamp : Nat) (est : Bool), link ≤ 1 → s.parMode ≠ 0 → s.sadState link = 2 → src ≠ s.ctrlNo →
    src = s.activeSrc → s.isSource' = false → s.pair.usedTime = false → s.discState = 4 → s.parCount < 2 * hops → ∃ t : State,
    exec (.saddleTime link src sec ns unc st est delay hops stamp) s = .next t ∧ t.regs = s.regs ∧ t.time = s.time ∧
    t.pair.usedTime = false ∧ t.pair.longTime = some
      { source := src, ns := ns, uncert := unc, state := st, est := est, hops := hops, err := followErr stamp sec ns delay }) ∧
  (∀ (s : State) (src sec ns unc st delay hops stamp link : Nat) (est : Bool), s.sadState link ≠ 2 →
    exec (.saddleTime link src sec ns unc st est delay hops stamp) s = .next s) ∧
  (∀ (s0 : State) (dt : Nat), let s := s0.advance dt
    (s.discState = 4 → s.pair.lastMsg + 440000000 ≤ s.time.cyc → ∃ t : State, exec (.timeLoss dt) s0 = .next t ∧ t.discState = 3 ∧
      t.pair.holds = true ∧ t.get Fd.TIM_RATE_RATE = ofSigned 32 (rateUnits (-s.disc.integ)) % 2 ^ 32) ∧
    (s.time.cyc < s.pair.lastMsg + 440000000 → exec (.timeLoss dt) s0 = .next s)) ∧
  (∀ s : State, let a := s.get Fd.PAR_CTRL_TIME_SRC0
    (s.parMode ≠ 0 → s.activeSrc ≠ a → s.hears a = true → s.time.boundary % 1000000000 = 0 → ∃ t : State,
      exec .timeSourceReturn s = .next t ∧ t.activeSrc = a ∧ t.on Fd.PAR_EVENT_SRC_CHANGE = true ∧ t.isSource' = (s.ctrlNo == a)) ∧
    (s.time.boundary % 1000000000 ≠ 0 → exec .timeSourceReturn s = .next s)) ∧
  (∀ s : State, s.paired = true → s.partnerLinkUp = true →
    (∀ (m : MirrorDev) (d : Device), s.dev m.addr = some d → d.covered = false → ∃ u : State, exec (.saddleMirror [.device m]) s = .next u.sysDone ∧
      u.dev m.addr = some { d with covered := true } ∧ SMap.get (fun _ => 0) u.pair.ups m.addr = m.up) ∧
    (∀ (key k ph w : Nat) (sys : Bool) (d : Device) (e : EpDesc), s.dev (key / 16) = some d → s.epDesc (key / 16) (key % 16) = some e →
      d.covered = true → s.mirrorFits key k ph w = true → ∃ (u : State) (g : Grant), exec (.saddleMirror [.grant key k ph w sys]) s = .next u.sysDone ∧
      u.alloc.grants = (s.alloc.grants.filter fun x => x.key != key) ++ [g] ∧ g.key = key ∧ g.k = k ∧ g.phase = ph ∧ g.words = w ∧
      g.handle = g.sea + (s.alloc.serial % 255 + 1) * 2 ^ 24 ∧ g.sea = seaOf e.dirIn s.ctrlNo (key / 16) e.num) ∧
    (∀ (key : Nat) (d : Device) (c : Ctx), s.dev (key / 16) = some d → d.covered = true → s.ctx key = some c → c.state = 2 → ∃ (u : State),
      exec (.saddleMirror [.state key 3]) s = .next u.sysDone ∧ u.ctx key = some { c with state := 3 })) ∧
  (∀ (s : State) (link n : Nat) (l : List MirrorItem), link ≤ 1 → s.parMode ≠ 0 → s.sadState link = 2 → n ≠ s.ctrlNo →
    s.paired = false ∨ n ≠ s.partnerNo →
    exec (.saddleMirror (.via link n :: l)) s = .next (s.forward link n (.mirror (.via (1 - link) n :: l)))) ∧
  (∀ (s : State) (link n : Nat) (l : List MirrorItem), s.sadState link ≠ 2 ∨ n = s.ctrlNo →
    exec (.saddleMirror (.via link n :: l)) s = .next s) ∧
  (∀ (s : State) (hubs : List Nat) (f : Nat), (s.partnerLinked = true → (hubs.filter fun h => (s.dualHubs true).contains h) = [] →
      ∃ t : State, exec (.saddleHandover hubs f) s = .next t ∧ t.regs = s.regs ∧
      t.pair.leaving = s.pair.leaving ++ (hubs.filter fun h => (s.dualHubs false).contains h).map fun h => (h, f)) ∧
    (s.partnerLinked = true → (hubs.all fun h => (s.dualHubs true).contains h) = true → s.pair.moves = [] → 1 ≤ since32 f s.frame →
      since32 f s.frame < 2 ^ 31 → ∃ t : State, exec (.saddleHandover hubs f) s = .next t ∧
      t.pair.moves = hubs.map fun h => { hub := h, target := f, tries := 0, sel := false, told := false }) ∧
    (s.partnerLinked = false → exec (.saddleHandover hubs f) s = .next s)) ∧
  (∀ (s : State) (h : Nat), s.partnerLinked = true → h ∈ s.dualHubs true → s.takingHubs = [] → s.on Fd.PAR_STATUS_JOINED = true →
    (∃ t : State, exec (.spurLost h false) s = .next t ∧ t.pair.takes = s.pair.takes ++
      [{ hubs := [h], why := .spurLost, g := s.frame, lo := (s.frame + 2 ^ 32 - 1) % 2 ^ 32, sel := [], live := false }]) ∧
    (∃ t : State, exec (.spurLost h true) s = .next t ∧ (t.pair.takes.drop s.pair.takes.length).map (fun k => (k.hubs, k.g)) =
      [([h], (s.frame + 1) % 2 ^ 32)])) ∧
  (∀ (s : State) (h : Nat) (late : Bool), s.partnerLinked = false →
    exec (.spurLost h late) s = .next s ∧ exec .saddleStop s = .next s) ∧
  (∀ s : State, s.partnerLinked = true → ∃ u : State, exec .saddleStop s = .next u.sysDone ∧ u.pair.stopped = true ∧
    ((∀ p, p < s.ports → s.linkState p = 0 ∧ (s.pp p).cmds = []) → ∀ p, p < s.ports → p < 8 → u.on (Fd.LNK_CTRL_DISABLE p) = true ∧ u.pState p = 0)) ∧
  (∀ (s : State) (link n count mode delay : Nat), s.phyOn = false →
    exec (.saddleLinkUp link n count mode delay) s = .next s) ∧
  (∀ (s : State) (link n count mode delay : Nat), link ≤ 1 → s.parMode ≠ 0 → n < 64 → s.phyOn = true →
    (count ≠ s.parCount ∨ mode ≠ s.parMode ∨ n ≠ s.wantNeighbour link → ∃ t : State, exec (.saddleLinkUp link n count mode delay) s = .next t ∧
      t.sadState link = 3 ∧ t.neighbour link = n ∧ t.on Fd.PAR_EVENT_NUMBER_ERR = true) ∧
    (n = s.wantNeighbour link → ∃ t : State, exec (.saddleLinkUp link n s.parCount s.parMode delay) s =
        .next (if s.paired = true ∧ link = s.partnerLink ∧ s.partnerLinkUp = false then t.rejudge else t) ∧ t.sadState link = 2 ∧
      t.neighbour link = n ∧ t.get (if link = 0 then Fd.PAR_LINK0_DELAY else Fd.PAR_LINK1_DELAY) = delay % 2 ^ 16) ∧
    (s.sadState link = 2 → ∃ t : State, exec (.saddleLinkDown link) s = .next t ∧ t.sadState link = 4 ∧ t.on Fd.PAR_STATUS_RING_CLOSED = false ∧
      t.on Fd.PAR_EVENT_LINK_CHANGE = true ∧ t.get Fd.PAR_COUNT_LINK_DOWNS = min (s.get Fd.PAR_COUNT_LINK_DOWNS + 1) 255) ∧
    (s.sadState link = 0 → exec (.saddleLinkDown link) s = .next s))

/-- R344, R352, R357, R363, R369: the pairing commands. -/
def Obligations.PairCommands : Prop :=
  ∀ (s : State) (id : Nat) (c : Cmd),
  (s.Ready id 0x0800 c → c.u 4 1 ≤ 1 → s.get Fd.TRE_STATUS_DEVICES = 0 → s.ctrlNo < c.u 1 1 → c.u 2 1 < c.u 1 1 → c.u 3 1 < c.u 1 1 → c.u 1 1 ≤ 64 →
    (c.u 6 2 = 0 ∨ (c.u 6 2 ≤ c.u 8 2 ∧ c.u 8 2 ≤ s.topAddr)) →
    (c.u 0 1 = 2 → c.u 1 1 % 2 = 0 → ∃ t : State, exec (.pairConfigure id) s = .next (t.okay c []) ∧ t.parMode = 2 ∧ t.parCount = c.u 1 1 ∧
      t.get Fd.PAR_CTRL_TIME_SRC0 = c.u 2 1 ∧ t.get Fd.PAR_CTRL_TIME_SRC1 = c.u 3 1 ∧ t.get Fd.PAR_CTRL_AUTO_TAKEOVER = c.u 4 1 ∧
      t.get Fd.SCH_ADDR_WINDOW_LO = (c.window s).1 ∧ t.get Fd.SCH_ADDR_WINDOW_HI = (c.window s).2 ∧ t.pair.saved = some c.req) ∧
    (c.u 0 1 = 0 → c.u 1 1 = 1 → ∃ t : State, exec (.pairConfigure id) s = .next (t.okay c []) ∧ t.parMode = 0 ∧ t.partner = 0 ∧
      t.isSource' = false ∧ t.on Fd.PAR_STATUS_JOINED = false ∧ (s.parMode ≠ 0 → t.sadState 0 = 0 ∧ t.sadState 1 = 0)) ∧
    (c.u 0 1 = 2 → c.u 1 1 % 2 = 1 → exec (.pairConfigure id) s = .next (s.finish c ST.invalid 1 []))) ∧
  (s.Ready id 0x0801 c → exec (.pairGetStatus id) s = .next (s.okay c s.pairBytes) ∧
    s.pairBytes.take 5 = leBytes 1 s.parMode ++ leBytes 1 s.ctrlNo ++ leBytes 1 s.parCount ++ leBytes 1 s.partner ++ leBytes 1 s.activeSrc ∧
    s.pairBytes.length = 24) ∧
  (s.Ready id 0x0802 c → c.u 0 1 ≤ 63 → s.sadState 0 ≠ 2 → s.sadState 1 ≠ 2 → ∃ t : State, exec (.pairSetNumber id) s = .next (t.okay c []) ∧
    t.ctrlNo = c.u 0 1 ∧ t.pair.savedNo = some (c.u 0 1) ∧ t.alloc.grants.map (·.sea) =
      s.alloc.grants.map fun g => seaOf (seaDir g.sea) (c.u 0 1) (seaAddr g.sea) (seaEp g.sea)) ∧
  (s.Ready id 0x0802 c → c.u 0 1 ≤ 63 → s.sadState 0 = 2 → exec (.pairSetNumber id) s = .next (s.finish c ST.denied 1 [])) ∧
  (s.ReadyNow id 0x0803 c → c.mbx < 64 → c.u 0 1 = 0 → s.paired = true →
    (s.partner = 2 → s.dualHubs true ≠ [] → s.takingHubs = [] → s.on Fd.PAR_STATUS_JOINED = true → ∃ t : State, exec (.pairTakeover id) s = .next t ∧ t.pair.takes = s.pair.takes ++
        [{ hubs := s.dualHubs true, why := .command, g := s.frame, lo := (s.get Fd.PAR_PARTNER_D_D + 1) % 2 ^ 32, sel := [], live := false }] ∧
      t.pair.cmds = s.pair.cmds ++ [{ cmd := c.id, op := 0x0803, hubs := s.dualHubs true, moved := 0, left := 0,
                                      ends := (c.moveFrame + 9) % 2 ^ 32, asked := false }]) ∧
    (s.partner = 2 → s.on Fd.PAR_STATUS_JOINED = false → ∃ t : State, exec (.pairTakeover id) s = .next t ∧ t.pair.takes = s.pair.takes) ∧
    (s.partner = 1 → s.partnerLinkUp = true → since32 c.moveFrame s.frame = 1 → ∃ t : State, exec (.pairTakeover id) s = .next t ∧
      t.pair.takes = s.pair.takes ∧ t.pair.moves = s.pair.moves ++
        (s.dualHubs true).map fun h => { hub := h, target := c.moveFrame, tries := 0, sel := false, told := false })) ∧
  (s.ReadyNow id 0x0803 c → c.u 0 1 = 0 → s.paired = false → s.partner = 0 → exec (.pairTakeover id) s = .next (s.finish c ST.denied 1 [])) ∧
  (s.ReadyNow id 0x0804 c → c.mbx < 64 → c.u 0 1 = 0 → s.paired = true → s.partner = 1 → s.partnerLinkUp = true → s.on Fd.PAR_STATUS_JOINED = true →
    since32 c.moveFrame s.frame = 1 → ∃ t : State, exec (.pairRelease id) s = .next t ∧ t.pair.out = s.pair.out ++
      [(s.partnerLink, .release ((s.dualHubs false).filter fun h => !s.homeHere h) c.moveFrame)]) ∧
  (s.ReadyNow id 0x0804 c → since32 c.moveFrame s.frame ≠ 1 → exec (.pairRelease id) s = .next s) ∧
  (s.ReadyNow id 0x0805 c → c.mbx < 64 → s.paired = true → s.partner = 2 → s.dualHubs true ≠ [] → s.takingHubs = [] →
    s.on Fd.PAR_STATUS_JOINED = true → ∃ t : State, exec (.pairPrepareReplace id) s = .next t ∧ t.pair.takes = s.pair.takes ++
      [{ hubs := s.dualHubs true, why := .command, g := s.frame, lo := (s.get Fd.PAR_PARTNER_D_D + 1) % 2 ^ 32, sel := [], live := false }]) ∧
  (s.ReadyNow id 0x0805 c → s.paired = false → s.partner = 0 → exec (.pairPrepareReplace id) s = .next (s.finish c ST.denied 1 []))

/-- R20, R323, R381, R382, R378, R413, R414 and R365: the losses of a supply and of a rail, PFI_N, and a DVFS change: a lower clock before
its code and a higher one after it, complete with DVS_PG, undone without it. -/
def Obligations.SuppliesAndDvfs : Prop :=
  (∀ s : State, ∃ t : State, exec .vaoLoss s = .next t ∧ (∀ a, t.rd a = regReset s.part a) ∧ t.boot.vaoOk = false ∧ t.boot.stage = .held ∧
    t.flash = s.flash ∧ t.pdm.saved = Config.tarnSaved s.fw.fresh ∧ t.pdm.capture = Config.tarnCapture s.fw.fresh ∧
    t.journal = Config.tarnJournal s.fw.fresh ∧ t.cairn.hold = ((Config.tarnHold s.fw.fresh).take 32).map (fun x => ({ x.1 with ord := 0 }, x.2)) ∧
    t.cairn.shadow = (Config.tarnShadow s.fw.fresh).take 16 ∧ t.cairn.mram = s.cairn.mram ∧ (∀ p, (t.pp p).gates = false) ∧
    ∀ a, SMap.get zeroByte t.tarn a = if a < 0x10000 then Config.tarnUndefined s.fw.fresh a else 0) ∧
  (∀ s : State, ∃ t : State, exec .vinPdLoss s = .next t ∧ t.boot.vinOk = false ∧ t.power = PortPower.reset ∧
    ∀ a, a / 0x10000 = 0xB → t.rd a = regReset s.part a) ∧
  (∀ (s : State) (rail : Nat), 1 ≤ rail → bitAt s.pdm.en (rail - 1) = true → ∃ t : State, exec (.railLoss rail) s = .next t ∧
    t.boot.stage = .stopped ∧ t.pdm.en = 0 ∧ t.pdm.lost = true ∧ t.flash = s.flash ∧ t.tarn = s.tarn) ∧
  (∀ (s : State) (rail : Nat), 1 ≤ rail → bitAt s.pdm.en (rail - 1) = false → exec (.railLoss rail) s = .next s) ∧
  (∀ s : State, s.pdm.lost = true → s.t0 = true → ∃ t : State, exec .railLossReboot s = .next t ∧ t.boot.stage = .regulators ∧
    t.pdm.lost = false ∧ t.pdm.en = 15) ∧
  (∀ s : State, s.pdm.lost = false → exec .railLossReboot s = .next s) ∧
  (∀ (s : State) (d : DvsChange), s.pdm.dvs = some d → d.begun = false →
    (d.target < d.old → ∃ t : State, exec .dvfsChange s = .next t ∧ t.get Fd.PDM_DVFS_POINT = s.get Fd.PDM_DVFS_POINT ∧ t.pdm.dvsSel = d.target ∧
      t.on Fd.PDM_DVFS_PG = false ∧ t.pdm.dvs = some { d with begun := true }) ∧
    (d.old < d.target → d.target ≤ 2 → ∃ t : State, exec .dvfsChange s = .next t ∧ t.get Fd.PDM_DVFS_POINT = d.target ∧
      t.pdm.dvsSel = d.target ∧ t.on Fd.PDM_DVFS_PG = false) ∧
    (d.target = d.old → d.cmd = none → ∃ t : State, exec .dvfsChange s = .next t ∧ t.pdm.dvs = none ∧ t.on Fd.PDM_DVFS_PENDING = false ∧
      t.on Fd.PDM_EVENT_DVFS_DONE = true ∧ t.pdm.dvsSel = s.pdm.dvsSel)) ∧
  (∀ (s0 : State) (dt : Nat) (d : DvsChange), let s := s0.advance dt; s.pdm.dvs = some d → d.begun = true → d.pg = none →
    (d.old < d.target → d.cmd = none → ∃ t : State, exec (.dvsPgAssert dt) s0 = .next t ∧ t.on Fd.PDM_DVFS_PG = true ∧ t.pdm.dvs = none ∧
      t.on Fd.PDM_EVENT_DVFS_DONE = true) ∧
    (d.target ≤ d.old → ∃ t : State, exec (.dvsPgAssert dt) s0 = .next t ∧ t.on Fd.PDM_DVFS_PG = true ∧
      t.pdm.dvs = some { d with pg := some s.time.cyc } ∧ t.get Fd.PDM_DVFS_POINT = s.get Fd.PDM_DVFS_POINT) ∧
    (d.cmd = none → ∃ t : State, exec (.dvsPgTimeout dt) s0 = .next t ∧ t.pdm.dvs = none ∧ t.pdm.dvsSel = d.code ∧
      t.on Fd.PDM_DVFS_PENDING = false ∧ t.get Fd.PDM_FAIL_STAGE = 3 ∧ t.on Fd.PDM_EVENT_DVFS_FAIL = true ∧
      t.get Fd.PDM_DVFS_POINT = s.get Fd.PDM_DVFS_POINT)) ∧
  (∀ (s0 : State) (dt : Nat), let s := s0.advance dt; (s.pdm.dvs = none → exec (.dvsPgTimeout dt) s0 = .next s) ∧
    (s.pair.pfi.isSome = true → exec (.pfiNAssert dt) s0 = .next s) ∧
    (s.pair.pfi = none → s.dieRuns = false → s.pdm.waking = false → exec (.pfiNAssert dt) s0 =
      .next (s.editPair fun x => { x with pfi := some s.frame }).pfiSwaps) ∧
    (s.pair.pfi = none → s.dieRuns = true → ∃ t : State, exec (.pfiNAssert dt) s0 = .next t ∧ t.pair.pfi = some s.frame ∧
      t.cairn.reads = []) ∧
    (s.pair.pfi = none → s.dieRuns = false → s.pdm.waking = true → s.boot.stage = .pll → ∃ t : State, exec (.pfiNAssert dt) s0 = .next t ∧
      t.boot.stage = .asleep ∧ t.pdm.pfiStop = true ∧ t.pdm.en = 0)) ∧
  (∀ s : State, (s.pair.pfi = none → exec .pfiNDeassert s = .next s) ∧
    (s.pair.pfi ≠ none → s.pdm.pfiStop = false → ∃ t : State, exec .pfiNDeassert s = .next t ∧ t.pair.pfi = none ∧ t.pair.pfiHubs = [] ∧ t.pfiStops = true ∧
      t.boot = s.boot) ∧
    (s.pair.pfi ≠ none → s.pdm.pfiStop = true → ∃ t : State, exec .pfiNDeassert s = .next t ∧ t.pair.pfi = none ∧
      t.boot.stage = .regulators ∧ t.pdm.pfiStop = false ∧ t.pdm.seq = s.on Fd.PDM_WAKE_CFG_ORDER))

/-- R371 to R379 and R384: bus-keep and its end, sleep, the wake sources, and the power-domain commands. -/
def Obligations.DomainsAndSleep : Prop :=
  (∀ s : State, s.sleepDue 0 = none → exec .busKeepEntry s = .next s) ∧
  (∀ (s : State) (d : SleepDue), s.sleepDue 0 = some d → s.pdm.keep = none → s.get Fd.PDM_DVFS_POINT = 2 → s.fw.switch = none →
    d.cluOff = false → s.on Fd.SCR_STATUS_UNLOCKED = false → (∀ p, p < s.ports → s.linkState p ≠ 7) → ∃ t : State, exec .busKeepEntry s = .next t ∧
    t.get Fd.PDM_STATE_DEVICE = 2 ∧ t.get s.activeDomain = 2 ∧ t.get s.standbyDomain = 1 ∧ t.get Fd.PDM_STATE_CLU = 1 ∧ t.pdm.due = none ∧
      t.pdm.keep.map (fun k => (k.standby, k.clu, k.point, k.links, k.seen, k.door)) =
        some (s.get s.standbyDomain, s.get Fd.PDM_STATE_CLU, 2, [], s.wakeLevels, false)) ∧
  (∀ (s : State) (d : SleepDue), s.sleepDue 0 = some d → s.pdm.keep = none → (∀ p, p < s.ports → s.linkState p ≠ 7) → s.fw.switch = none →
    d.cluOff = false → s.get Fd.PDM_DVFS_POINT = 0 → ∃ t : State, exec .busKeepEntry s = .next t ∧
    t.get Fd.PDM_STATE_DEVICE = 2 ∧ t.get s.standbyDomain = 1 ∧ t.on Fd.GLB_STATUS_STANDBY_READY = false ∧ t.get Fd.PDM_DVFS_POINT = 2) ∧
  (∀ (s : State) (d : SleepDue), s.sleepDue 0 = some d → s.pdm.keep = none → s.on Fd.SCR_STATUS_UNLOCKED = true → ∃ t : State,
    exec .busKeepEntry s = .next t ∧ t.on Fd.SCR_STATUS_UNLOCKED = false ∧ t.get Fd.PDM_STATE_DEVICE = 2) ∧
  (∀ (s : State) (k : Keep), s.pdm.keep = some k → s.get Fd.PDM_STATE_DEVICE = 1 → k.door = true → k.standby ≠ 3 → k.clu = 3 →
    s.get Fd.PDM_DVFS_POINT = k.point → (∀ p, p ∈ k.links → s.linkState p ≠ 9) → ∃ t : State, exec .busKeepExit s = .next t ∧
    t.get Fd.PDM_STATE_DEVICE = 3 ∧ t.pdm.keep = none ∧ t.get s.activeDomain = 3 ∧ t.get Fd.PDM_STATE_CLU = 3 ∧
    t.pdm.leave.map (fun v => (v.frame, v.door)) = some ((s.frame + 2) % 2 ^ 32, true)) ∧
  (∀ s : State, s.pdm.keep = none → exec .busKeepExit s = .next s) ∧
  (∀ s : State, s.sleepDue 1 = none → exec .sleepEntry s = .next s) ∧
  (∀ (s : State) (d : SleepDue), s.sleepDue 1 = some d → ∃ t : State, exec .sleepEntry s = .next t ∧ t.boot.stage = .asleep ∧
    t.rd Reg.PDM_STATE = 0 ∧ t.on Fd.GLB_STATUS_FW_RUNNING = false ∧
    t.boot.barOpen = false ∧ t.pdm.en = s.pdm.en ∧ t.pdm.saved.isSome = true ∧ t.devices = [] ∧ t.alloc.grants = [] ∧ t.time.sleepSnap = true ∧
    t.flash = s.flash) ∧
  (∀ (s0 : State) (dt rtc : Nat), let s := (s0.advance dt).setTime { (s0.advance dt).time with rtc := rtc % 2 ^ 48 }
    s.time.sleepSnap = true → s.snapshotFree = true → s.boot.stage = .asleep → ∃ t : State, exec (.sleepSnapshot dt rtc) s0 = .next t ∧
    t.on Fd.GLB_STATUS_H0_UP = false ∧ t.on Fd.GLB_STATUS_H1_UP = false ∧ t.pdm.en = 0 ∧ t.time.ticking = false ∧
    t.pdm.alarmFrom = some (rtc % 2 ^ 48)) ∧
  (∀ (s : State) (rtc : Nat), s.wakeFired ≠ 0 → s.boot.vaoOk = true → s.boot.stage = .asleep → s.time.sleepSnap = false → s.pdm.pfiStop = false →
    (s.pair.pfi = none → ∃ t : State, exec (.wakeTrigger rtc) s = .next t ∧ t.boot.stage = .regulators ∧ t.pdm.waking = true ∧
      t.time.rtc = rtc % 2 ^ 48 ∧ t.pdm.seq = s.on Fd.PDM_WAKE_CFG_ORDER ∧ t.pdm.fired = s.pdm.fired ||| s.wakeFired) ∧
    (s.pair.pfi ≠ none → ∃ t : State, exec (.wakeTrigger rtc) s = .next t ∧ t.boot.stage = .asleep ∧ t.pdm.pfiStop = true)) ∧
  (∀ (s : State) (rtc : Nat), s.wakeFired = 0 → exec (.wakeTrigger rtc) s = .next s) ∧
  (∀ (s : State) (rtc a : Nat), s.pdm.alarmFrom = some a → s.get Fd.PDM_RTC_ALARM_ALARM_S ≠ 0 →
    let gone := (rtc % 2 ^ 48 + 2 ^ 48 - a) % 2 ^ 48 * s.get Fd.TIM_RTC_PERIOD_PERIOD / 65536
    (s.get Fd.PDM_RTC_ALARM_ALARM_S * 1000000000 ≤ gone → ∃ t : State, exec (.rtcAlarm rtc) s = .next t ∧ t.pdm.alarmHit = true ∧
      t.time.rtc = rtc % 2 ^ 48 ∧ t.regs = s.regs) ∧
    (gone < s.get Fd.PDM_RTC_ALARM_ALARM_S * 1000000000 → exec (.rtcAlarm rtc) s = .next s)) ∧
  (∀ (s : State) (id : Nat) (c : Cmd),
    (s.Ready id 0x0900 c → exec (.pdGetState id) s = .next (s.okay c (leBytes 4 (s.rd Reg.PDM_STATE).toNat ++
      leBytes 4 (s.rd Reg.PDM_DVFS).toNat ++ leBytes 4 (s.rd Reg.PDM_WAKE_CAUSE).toNat ++ leBytes 4 (s.rd Reg.PDM_FAIL).toNat))) ∧
    (s.Ready id 0x0901 c → c.u 0 1 = 6 → c.u 1 1 = 0 ∨ c.u 1 1 = 1 → s.on Fd.RED_STATUS_ACTIVE = false → ∃ t : State,
      exec (.pdSetState id) s = .next (t.okay c []) ∧ t.get Fd.PDM_STATE_CLU = c.u 1 1) ∧
    (s.Ready id 0x0901 c → c.u 0 1 = 6 → c.u 1 1 = 0 → s.on Fd.RED_STATUS_ACTIVE = true → exec (.pdSetState id) s = .next (s.finish c ST.denied 3 [])) ∧
    (s.Ready id 0x0901 c → c.u 0 1 = 4 ∨ c.u 0 1 = 5 → domainFld (c.u 0 1) = s.activeDomain → exec (.pdSetState id) s =
      .next (s.finish c ST.invalid 0 [])) ∧
    (s.Ready id 0x0901 c → c.u 0 1 = 4 ∨ c.u 0 1 = 5 → domainFld (c.u 0 1) = s.standbyDomain → c.u 1 1 = 0 ∨ c.u 1 1 = 1 → s.fw.switch = none →
      ∃ t : State, exec (.pdSetState id) s = .next (t.okay c []) ∧ t.get s.standbyDomain = c.u 1 1 ∧ t.on Fd.GLB_STATUS_STANDBY_READY = false) ∧
    (s.Ready id 0x0902 c → c.mbx < 64 → c.u 0 1 ≤ 2 → s.pdm.dvs = none → s.pdm.keep = none → ∃ t : State, exec (.pdSetDvfs id) s = .next t ∧
      t.on Fd.PDM_DVFS_PENDING = true ∧ t.get Fd.PDM_DVFS_TARGET = c.u 0 1 ∧ t.pdm.dvs =
        some { cmd := some id, target := c.u 0 1, old := s.get Fd.PDM_DVFS_POINT, code := s.pdm.dvsSel, begun := false, pg := none }) ∧
    (s.Ready id 0x0902 c → c.u 0 1 ≤ 2 → s.pdm.dvs ≠ none → exec (.pdSetDvfs id) s = .next (s.finish c ST.denied 1 [])) ∧
    (s.ReadyNow id 0x0903 c → c.u 0 1 = 1 → s.pdm.dvs = none → s.get Fd.PDM_WAKE_CFG_EN % 64 ≠ 0 →
      let e := c.target.getD ((c.takeFrame + 2) % 2 ^ 32)
      (since32 e s.frame = 1 → ∃ t : State, exec (.pdSleep id) s = .next (t.finishAt c ST.ok 0 e []) ∧ t.regs = s.regs ∧
        t.pdm.due = some { frame := e, depth := 1, cluOff := bitAt (c.u 1 1) 0 }) ∧
      (since32 e s.frame ≠ 1 → exec (.pdSleep id) s = .next s)) ∧
    (s.ReadyNow id 0x0903 c → c.u 0 1 = 1 → s.pdm.dvs = none → s.get Fd.PDM_WAKE_CFG_EN % 64 = 0 → exec (.pdSleep id) s =
      .next (s.finish c ST.denied 3 [])) ∧
    (s.Ready id 0x0904 c → c.u 0 2 ≤ 0x1FF → c.u 2 1 ≤ 1 → ∃ t : State, exec (.pdSetWake id) s = .next (t.okay c []) ∧
      t.get Fd.PDM_WAKE_CFG_EN = c.u 0 2 ∧ t.get Fd.PDM_WAKE_CFG_ORDER = c.u 2 1 ∧ t.get Fd.PDM_RTC_ALARM_ALARM_S = c.u 4 4 % 2 ^ 32))

/-- R385 to R398: the recorder's writes with their read-backs, the rewrite of a merged record, the header, the freeze, and its commands.
-/
def Obligations.CairnRecorder : Prop :=
  (∀ (s : State) (r1 r2 h1 h2 l1 l2 : Bool),
    (s.cairn.frozenAt ≠ none → exec (.cairnRecordWrite r1 r2 h1 h2 l1 l2) s = .next s) ∧
    (s.cairn.clearing = none → s.cairn.hold = [] → s.cairn.queue = [] → s.cairn.flush = false → exec (.cairnRecordWrite r1 r2 h1 h2 l1 l2) s = .next s) ∧
    (s.cairn.frozenAt = none → s.cairn.clearing = none → s.cairn.media = true → s.cairn.hold ≠ [] ∨ s.cairn.queue ≠ [] →
      exec (.cairnRecordWrite r1 r2 h1 h2 l1 l2) s = .next s.cairnDivert ∧ s.cairnDivert.cairn.mram = s.cairn.mram ∧
      s.cairnDivert.cairn.hold = [] ∧ s.cairnDivert.cairn.queue = []) ∧
    (∀ r f rest, s.cairn.frozenAt = none → s.cairn.clearing = none → s.rewriteDue = false → s.cairn.hold = [] → s.cairn.queue = (r, f) :: rest →
      s.cairn.lostRun = 0 → s.cairn.copy ≤ 1 → s.cairn.media = false →
      (r1 ∨ r2 → h1 ∨ h2 → ∃ t : State, exec (.cairnRecordWrite r1 r2 h1 h2 l1 l2) s = .next t ∧ t.cairn.queue = rest ∧
        t.cairn.lastSeq = (s.cairn.lastSeq + 1) % 2 ^ 32 ∧ t.cairn.next = (s.cairn.next + 1) % 7936 ∧ t.cairn.copy = 1 - s.cairn.copy ∧
        t.cairn.update = (s.cairn.update + 1) % 2 ^ 32 ∧ mramRead t.cairn (ringAddr s.cairn.next) 32 = recBytes ((s.cairn.lastSeq + 1) % 2 ^ 32) r ∧
        (∀ a, (a < ringAddr s.cairn.next ∨ ringAddr s.cairn.next + 32 ≤ a) → (a < hdrAddr (1 - s.cairn.copy) ∨ hdrAddr (1 - s.cairn.copy) + 36 ≤ a) →
          SMap.get zeroByte t.cairn.mram a = SMap.get zeroByte s.cairn.mram a)) ∧
      (r1 = false → r2 = false → l1 = true → ∃ t : State, exec (.cairnRecordWrite r1 r2 h1 h2 l1 l2) s = .next t ∧ t.cairn.media = true ∧
        t.cairn.next = s.cairn.next ∧ t.cairn.queue = [] ∧ t.on Fd.CRN_EVENT_MEDIA_FAULT = true ∧
        t.cairn.logNext = (s.cairn.logNext + 1) % 128)) ∧
    (∀ r f rest, s.cairn.frozenAt = none → s.cairn.clearing = none → s.rewriteDue = false → s.cairn.hold = (r, f) :: rest → s.cairn.holdLost = 0 →
      Cairn.holdFirst s.cairn = true → s.cairn.media = false →
      r1 = true → h1 = true → ∃ t : State, exec (.cairnRecordWrite r1 r2 h1 h2 l1 l2) s = .next t ∧ t.cairn.hold = rest ∧
      t.cairn.queue = s.cairn.queue ∧ mramRead t.cairn (ringAddr s.cairn.next) 32 = recBytes ((s.cairn.lastSeq + 1) % 2 ^ 32) r) ∧
    (∀ l, s.cairn.last = some l → l.dirty = true → 1024 ≤ since32 s.frame l.rewrote → s.cairn.frozenAt = none → s.cairn.clearing = none →
      s.cairn.media = false → r1 = true → ∃ t : State, exec (.mergeRewrite r1 r2 l1 l2) s = .next t ∧
      mramRead t.cairn (ringAddr l.slot) 32 = recBytes l.seq l.record ∧ t.cairn.last = some { l with dirty := false, rewrote := s.frame } ∧
      t.cairn.next = s.cairn.next) ∧
    (∀ l, s.cairn.last = some l → l.dirty = false → exec (.mergeRewrite r1 r2 l1 l2) s = .next s) ∧
    (s.cairn.frozenAt = none → s.cairn.clearing = none → h1 = true → exec (.headerRefresh h1 h2 l1 l2) s =
      .next { s with cairn := { hdrWrite s.cairn with flush := false } }) ∧
    (s.cairn.frozenAt ≠ none ∨ s.cairn.clearing ≠ none → exec (.headerRefresh h1 h2 l1 l2) s = .next s)) ∧
  (∀ (c : Cairn), c.copy ≤ 1 → mramRead (hdrWrite c) (hdrAddr (1 - c.copy)) 36 = hdrBytes c ((c.update + 1) % 2 ^ 32) ∧
    cairnHdrValid (hdrWrite c) (1 - c.copy) = true) ∧
  (∀ (s : State) (f : Nat), s.cairn.frozenAt = some f →
    (65536 ≤ since32 s.frame f → ∃ t : State, exec .freezeExpiry s = .next t ∧ t.cairn.frozenAt = none ∧ t.on Fd.CRN_EVENT_FREEZE_EXPIRED = true) ∧
    (since32 s.frame f < 65536 → exec .freezeExpiry s = .next s)) ∧
  (∀ (s : State) (id : Nat) (k : Cmd),
    (s.Ready id 0x0A00 k → exec (.crnGetInfo id) s = .next (s.okay k (leBytes 4 s.cairn.lastSeq ++ leBytes 4 (cairnOldest s.cairn) ++
      leBytes 4 s.cairn.powerCycles ++ leBytes 4 s.cairn.opSec ++ leBytes 4 s.cairn.clears ++
      leBytes 1 (b2n s.cairn.media + 2 * b2n s.cairn.frozenAt.isSome + 4 * b2n s.cairn.wrapped + 8 * b2n s.cairn.clearing.isSome) ++
      leBytes 1 s.cairn.hold.length ++ leBytes 1 s.cairn.shadow.length ++ zeros 1 ++ leBytes 2 (min s.cairn.lostAll 0xFFFF) ++
      leBytes 2 (min s.cairn.holdAll 0xFFFF) ++ zeros 4))) ∧
    (s.Ready id 0x0A01 k → s.cairn.clearing = none → s.rewriteDue = false → ∃ t : State, exec (.crnFreeze id) s = .next (t.okay k []) ∧
      t.cairn.frozenAt = some s.frame ∧ t.cairn.draining = false ∧ t.cairn.mram = s.cairn.mram ∧
      (s.cairn.frozenAt ≠ none ∨ s.cairn.cycle.1 ≠ s.time.cyc → t = { s with cairn := { s.cairn with frozenAt := some s.frame, draining := false } }) ∧
      (s.cairn.frozenAt = none → s.cairn.cycle.1 = s.time.cyc →
        t.cairn.queue = s.cairn.queue.filter fun x => decide (x.1.ord < s.cairn.cycle.2))) ∧
    (s.Ready id 0x0A01 k → s.cairn.clearing ≠ none → exec (.crnFreeze id) s = .next (s.finish k ST.denied 1 [])) ∧
    (s.Ready id 0x0A02 k → k.u 0 8 % 32 = 0 → k.u 12 2 ≠ 0 → k.u 12 2 ≤ 7936 → k.u 14 1 ≤ 3 → k.u 15 1 ≤ 1 → ∃ t : State,
      exec (.crnRead id) s = .next (t.goPending k s.frame) ∧ t.cairn.reads = s.cairn.reads ++ [(k.id, k.ring.1)] ∧ t.regs = s.regs ∧
      t.cairn.frozenAt = s.cairn.frozenAt.map fun _ => s.frame) ∧
    (s.Ready id 0x0A02 k → k.u 0 8 % 32 ≠ 0 → exec (.crnRead id) s = .next (s.finish k ST.invalid 0 [])) ∧
    (s.Ready id 0x0A03 k → ∃ t : State, exec (.crnUnfreeze id) s = .next (t.okay k []) ∧ t.cairn.frozenAt = none ∧
      (s.cairn.frozenAt = none → t = s) ∧ (s.cairn.frozenAt ≠ none → s.cairn.hold ≠ [] → s.cairn.media = false → t.cairn.draining = true ∧ t.cairn.hold = s.cairn.hold)) ∧
    (s.Ready id 0x0A04 k → let tok := slice k.req 0 92
      bitAt (leAt tok 20 4) 0 = true → leAt tok 20 4 ≤ 3 → s.cairn.frozenAt = none → s.cairn.media = false → s.cairn.clearing = none → ∃ t : State,
      exec (.crnClear id) s = .next (if s.tokenOk tok 1 none then t.goPending k s.frame else s.endNonce.finish k ST.denied 1 []) ∧
      t.cairn.clearing = some { cmd := k.id, scope := leAt tok 20 4, keySlot := leAt tok 2 1, erased := false, failed := false } ∧
      t.regs = s.regs ∧ t.cairn.mram = s.cairn.mram))

/-- R399 to R407: unlocking and locking, the injections and their ends, and the built-in self-test. -/
def Obligations.ScreeAndSelfTest : Prop :=
  (∀ s : State, s.on Fd.SCR_STATUS_UNLOCKED = true →
    (since32 s.frame (s.get Fd.SCR_EXPIRY_FRAME) < 2 ^ 31 → ∃ t : State, exec .unlockExpiry s = .next t ∧ t.on Fd.SCR_STATUS_UNLOCKED = false ∧
      t.get Fd.SCR_STATUS_SCOPE = 0 ∧ t.scree.injs = [] ∧ t.on Fd.SCR_EVENT_LOCKED = true) ∧
    (2 ^ 31 ≤ since32 s.frame (s.get Fd.SCR_EXPIRY_FRAME) → exec .unlockExpiry s = .next s)) ∧
  (∀ s : State, s.on Fd.SCR_STATUS_UNLOCKED = false → exec .unlockExpiry s = .next s) ∧
  (∀ (s : State) (k : Nat) (i : Injection), s.scree.inj k = some i →
    (∀ f, k ≠ 9 → i.ends = some f → since32 s.frame f < 2 ^ 31 → ∃ t : State, exec (.injectionEnd k) s = .next t ∧ t.scree.inj k = none ∧
      t.on Fd.SCR_EVENT_INJECT_END = true ∧ (k < 32 → t.bitOf Reg.SCR_ACTIVE k = false)) ∧
    (∀ f, k ≠ 9 → i.ends = some f → 2 ^ 31 ≤ since32 s.frame f → exec (.injectionEnd k) s = .next s) ∧
    (k = 9 → (s.pp i.port).gates = false → ∃ t : State, exec (.injectionEnd k) s = .next t ∧ t.scree.inj 9 = none ∧ t.power = s.power)) ∧
  (∀ (s : State) (b : BistRun) (failed mems ports saddle word errors damaged : Nat), s.scree.bist = some b → s.findCmd b.cmd = none →
    bitAt b.tests 0 = false → ∃ t : State, exec (.bistComplete failed mems ports saddle word errors damaged) s = .next t ∧ t.scree.bist = none ∧
    t.on Fd.SCR_STATUS_BIST_BUSY = false ∧ t.on Fd.SCR_EVENT_BIST_DONE = true ∧
    t.rd Reg.SCR_BIST = BitVec.ofNat 32 (b.tests + (failed &&& b.tests) * 2 ^ 16) ∧ t.scree.last.failed = failed &&& b.tests ∧
    t.scree.last.run = b.tests ∧ t.scree.last.frame = s.frame ∧ t.pager = s.pager ∧
    (bitAt (failed &&& b.tests) 1 = true → t.scree.last.ports = ports &&& b.ports) ∧
    (bitAt (failed &&& b.tests) 2 = true → t.scree.last.saddle = saddle &&& 3) ∧
    (bitAt (failed &&& b.tests) 4 = true → t.scree.last.damaged = damaged) ∧
    (bitAt (failed &&& b.tests) 3 = true → s.otherPair.mode = .loading → t.otherPair.mode = .halted)) ∧
  (∀ (s : State) (b : BistRun) (c : Cmd) (failed mems ports saddle word errors damaged : Nat), s.scree.bist = some b →
    s.findCmd b.cmd = some c → ∃ t : State, exec (.bistComplete failed mems ports saddle word errors damaged) s =
      .next (if failed &&& b.tests = 0 then t.okay c [] else t.finish c ST.fault 1 []) ∧ t.scree.bist = none ∧
    (bitAt b.tests 0 = true → t.pager.ctxs = [] ∧ t.xfer.slots = [] ∧ t.tree.dm.buf = []) ∧
    (bitAt (failed &&& b.tests) 0 = true → t.scree.last.mems = mems &&& 0x2F ∧ t.scree.last.word = word)) ∧
  (∀ (s : State) (id : Nat) (c : Cmd),
    (s.Ready id 0x0B00 c → let tok := slice c.req 0 92
      leAt tok 20 4 % 2 = 0 → leAt tok 20 4 / 2 ^ 10 % 2 ^ 6 = 0 → 0 < leAt tok 20 4 / 2 ^ 16 → ∃ t : State, exec (.scrUnlock id) s =
        .next (if s.tokenOk tok 2 none
          then t.okay c (leBytes 2 (leAt tok 20 4 % 2 ^ 16) ++ zeros 2 ++ leBytes 4 ((s.frame + leAt tok 20 4 / 2 ^ 16 * 4096) % 2 ^ 32))
          else s.endNonce.finish c ST.denied 1 []) ∧
      t.on Fd.SCR_STATUS_UNLOCKED = true ∧ t.get Fd.SCR_STATUS_SCOPE = leAt tok 20 4 / 2 % 2 ^ 9 ∧
      t.get Fd.SCR_EXPIRY_FRAME = (s.frame + leAt tok 20 4 / 2 ^ 16 * 4096) % 2 ^ 32 ∧ t.on Fd.SCR_EVENT_UNLOCKED = true) ∧
    (s.Ready id 0x0B00 c → leAt (slice c.req 0 92) 20 4 / 2 ^ 16 = 0 → exec (.scrUnlock id) s = .next (s.finish c ST.invalid 0 [])) ∧
    (s.Ready id 0x0B01 c → ∃ t : State, exec (.scrLock id) s = .next (t.okay c []) ∧ t.on Fd.SCR_STATUS_UNLOCKED = false ∧
      (s.on Fd.SCR_STATUS_UNLOCKED = true → t.scree.injs = [] ∧ t.on Fd.SCR_EVENT_LOCKED = true)) ∧
    (s.Ready id 0x0B02 c → let k := c.u 0 1
      1 ≤ k → k ≤ 7 → bitAt (c.u 2 1) 0 = false → s.injBad k (c.u 1 1) (c.u 4 4) (c.u 8 4) (c.u 12 4) = false → s.on Fd.SCR_STATUS_UNLOCKED = true →
      s.bitOf Reg.SCR_STATUS k = true → s.scree.inj k = none → s.injReady k (c.u 1 1) = true → ∃ t : State, exec (.scrInject id) s =
        .next (t.okay c (leBytes 4 ((s.frame + c.u 12 4) % 2 ^ 32))) ∧ t.bitOf Reg.SCR_ACTIVE k = true ∧
      (t.scree.inj k).map (fun i => (i.kind, i.port, i.p0, i.p1, i.ends)) =
        some (k, c.u 1 1, c.u 4 4, c.u 8 4, some ((s.frame + c.u 12 4) % 2 ^ 32))) ∧
    (s.Ready id 0x0B02 c → 1 ≤ c.u 0 1 → c.u 0 1 ≤ 9 → s.injNoPort (c.u 0 1) (c.u 1 1) = true →
      exec (.scrInject id) s = .next (s.finish c ST.invalid 0 [])) ∧
    (s.Ready id 0x0B02 c → 1 ≤ c.u 0 1 → c.u 0 1 ≤ 9 → s.injNoPort (c.u 0 1) (c.u 1 1) = false → bitAt (c.u 2 1) 0 = true → s.on Fd.SCR_STATUS_UNLOCKED = true →
      s.bitOf Reg.SCR_STATUS (c.u 0 1) = true → ∃ t : State, exec (.scrInject id) s = .next (t.okay c (leBytes 4 0)) ∧
      t.scree.inj (c.u 0 1) = none) ∧
    (s.Ready id 0x0B02 c → 1 ≤ c.u 0 1 → c.u 0 1 ≤ 9 → s.injNoPort (c.u 0 1) (c.u 1 1) = false → bitAt (c.u 2 1) 0 = true →
      s.on Fd.SCR_STATUS_UNLOCKED = false →
      exec (.scrInject id) s = .next (s.finish c ST.denied 1 [])) ∧
    (s.ReadyNow id 0x0B03 c → c.mbx < 64 → c.u 0 2 = 4 → c.u 2 1 < 2 ^ s.ports → s.scree.bist = none →
      (s.get Fd.PAR_LINK0_STATE = 0 → s.get Fd.PAR_LINK1_STATE = 0 → ∃ t : State, exec (.bistRun id) s = .next t ∧
        t.on Fd.SCR_STATUS_BIST_BUSY = true ∧ t.scree.bist = some { cmd := c.id, tests := 4, ports := c.u 2 1 }) ∧
      (s.get Fd.PAR_LINK0_STATE ≠ 0 → exec (.bistRun id) s = .next (s.finish c ST.denied 3 []))) ∧
    (s.ReadyNow id 0x0B03 c → c.u 0 2 < 64 → c.u 2 1 < 2 ^ s.ports → s.scree.bist ≠ none →
      (∀ t, t < 6 → bitAt (c.u 0 2) t = true → s.bistPre t (c.u 2 1) = true) → exec (.bistRun id) s =
      .next (s.finish c ST.denied 7 [])) ∧
    (s.Ready id 0x0B04 c → exec (.bistGetResult id) s = .next (s.okay c s.scree.last.bytes)))
end

