-- ==== Sys2Proof/Laws/State.lean ====
section
/-! SUPPORT. One lemma per field of State per update, by rfl: what an update changes it changes in its own field alone. -/

namespace Sys2Proof.Machine

/-! ### wr -/

@[simp] theorem State.wr_part (s : State) (a : Nat) (w : Word) : (s.wr a w).part = s.part := rfl
@[simp] theorem State.wr_staged (s : State) (a : Nat) (w : Word) : (s.wr a w).staged = s.staged := rfl
@[simp] theorem State.wr_host (s : State) (a : Nat) (w : Word) : (s.wr a w).host = s.host := rfl
@[simp] theorem State.wr_boot (s : State) (a : Nat) (w : Word) : (s.wr a w).boot = s.boot := rfl
@[simp] theorem State.wr_fw (s : State) (a : Nat) (w : Word) : (s.wr a w).fw = s.fw := rfl
@[simp] theorem State.wr_mbx (s : State) (a : Nat) (w : Word) : (s.wr a w).mbx = s.mbx := rfl
@[simp] theorem State.wr_time (s : State) (a : Nat) (w : Word) : (s.wr a w).time = s.time := rfl
@[simp] theorem State.wr_evq (s : State) (a : Nat) (w : Word) : (s.wr a w).evq = s.evq := rfl
@[simp] theorem State.wr_inst (s : State) (a : Nat) (w : Word) : (s.wr a w).inst = s.inst := rfl
@[simp] theorem State.wr_cairn (s : State) (a : Nat) (w : Word) : (s.wr a w).cairn = s.cairn := rfl
@[simp] theorem State.wr_links (s : State) (a : Nat) (w : Word) : (s.wr a w).links = s.links := rfl
@[simp] theorem State.wr_tree (s : State) (a : Nat) (w : Word) : (s.wr a w).tree = s.tree := rfl
@[simp] theorem State.wr_rings (s : State) (a : Nat) (w : Word) : (s.wr a w).rings = s.rings := rfl
@[simp] theorem State.wr_alloc (s : State) (a : Nat) (w : Word) : (s.wr a w).alloc = s.alloc := rfl
@[simp] theorem State.wr_pager (s : State) (a : Nat) (w : Word) : (s.wr a w).pager = s.pager := rfl
@[simp] theorem State.wr_xfer (s : State) (a : Nat) (w : Word) : (s.wr a w).xfer = s.xfer := rfl
@[simp] theorem State.wr_dma (s : State) (a : Nat) (w : Word) : (s.wr a w).dma = s.dma := rfl
@[simp] theorem State.wr_scree (s : State) (a : Nat) (w : Word) : (s.wr a w).scree = s.scree := rfl
@[simp] theorem State.wr_power (s : State) (a : Nat) (w : Word) : (s.wr a w).power = s.power := rfl
@[simp] theorem State.wr_mains (s : State) (a : Nat) (w : Word) : (s.wr a w).mains = s.mains := rfl
@[simp] theorem State.wr_red (s : State) (a : Nat) (w : Word) : (s.wr a w).red = s.red := rfl
@[simp] theorem State.wr_pair (s : State) (a : Nat) (w : Word) : (s.wr a w).pair = s.pair := rfl
@[simp] theorem State.wr_pdm (s : State) (a : Nat) (w : Word) : (s.wr a w).pdm = s.pdm := rfl
@[simp] theorem State.wr_tarn (s : State) (a : Nat) (w : Word) : (s.wr a w).tarn = s.tarn := rfl
@[simp] theorem State.wr_flash (s : State) (a : Nat) (w : Word) : (s.wr a w).flash = s.flash := rfl
@[simp] theorem State.wr_journal (s : State) (a : Nat) (w : Word) : (s.wr a w).journal = s.journal := rfl
@[simp] theorem State.wr_pending (s : State) (a : Nat) (w : Word) : (s.wr a w).pending = s.pending := rfl
@[simp] theorem State.wr_regs (s : State) (a : Nat) (w : Word) : (s.wr a w).regs = SMap.put (regReset s.part) a w s.regs := rfl

/-! ### put -/

@[simp] theorem State.put_part (s : State) (f : Fld) (v : Nat) : (s.put f v).part = s.part := rfl
@[simp] theorem State.put_staged (s : State) (f : Fld) (v : Nat) : (s.put f v).staged = s.staged := rfl
@[simp] theorem State.put_host (s : State) (f : Fld) (v : Nat) : (s.put f v).host = s.host := rfl
@[simp] theorem State.put_boot (s : State) (f : Fld) (v : Nat) : (s.put f v).boot = s.boot := rfl
@[simp] theorem State.put_fw (s : State) (f : Fld) (v : Nat) : (s.put f v).fw = s.fw := rfl
@[simp] theorem State.put_mbx (s : State) (f : Fld) (v : Nat) : (s.put f v).mbx = s.mbx := rfl
@[simp] theorem State.put_time (s : State) (f : Fld) (v : Nat) : (s.put f v).time = s.time := rfl
@[simp] theorem State.put_evq (s : State) (f : Fld) (v : Nat) : (s.put f v).evq = s.evq := rfl
@[simp] theorem State.put_inst (s : State) (f : Fld) (v : Nat) : (s.put f v).inst = s.inst := rfl
@[simp] theorem State.put_cairn (s : State) (f : Fld) (v : Nat) : (s.put f v).cairn = s.cairn := rfl
@[simp] theorem State.put_links (s : State) (f : Fld) (v : Nat) : (s.put f v).links = s.links := rfl
@[simp] theorem State.put_tree (s : State) (f : Fld) (v : Nat) : (s.put f v).tree = s.tree := rfl
@[simp] theorem State.put_rings (s : State) (f : Fld) (v : Nat) : (s.put f v).rings = s.rings := rfl
@[simp] theorem State.put_alloc (s : State) (f : Fld) (v : Nat) : (s.put f v).alloc = s.alloc := rfl
@[simp] theorem State.put_pager (s : State) (f : Fld) (v : Nat) : (s.put f v).pager = s.pager := rfl
@[simp] theorem State.put_xfer (s : State) (f : Fld) (v : Nat) : (s.put f v).xfer = s.xfer := rfl
@[simp] theorem State.put_dma (s : State) (f : Fld) (v : Nat) : (s.put f v).dma = s.dma := rfl
@[simp] theorem State.put_scree (s : State) (f : Fld) (v : Nat) : (s.put f v).scree = s.scree := rfl
@[simp] theorem State.put_power (s : State) (f : Fld) (v : Nat) : (s.put f v).power = s.power := rfl
@[simp] theorem State.put_mains (s : State) (f : Fld) (v : Nat) : (s.put f v).mains = s.mains := rfl
@[simp] theorem State.put_red (s : State) (f : Fld) (v : Nat) : (s.put f v).red = s.red := rfl
@[simp] theorem State.put_pair (s : State) (f : Fld) (v : Nat) : (s.put f v).pair = s.pair := rfl
@[simp] theorem State.put_pdm (s : State) (f : Fld) (v : Nat) : (s.put f v).pdm = s.pdm := rfl
@[simp] theorem State.put_tarn (s : State) (f : Fld) (v : Nat) : (s.put f v).tarn = s.tarn := rfl
@[simp] theorem State.put_flash (s : State) (f : Fld) (v : Nat) : (s.put f v).flash = s.flash := rfl
@[simp] theorem State.put_journal (s : State) (f : Fld) (v : Nat) : (s.put f v).journal = s.journal := rfl
@[simp] theorem State.put_pending (s : State) (f : Fld) (v : Nat) : (s.put f v).pending = s.pending := rfl

/-! ### advance -/

@[simp] theorem State.advance_part (s : State) (n : Nat) : (s.advance n).part = s.part := rfl
@[simp] theorem State.advance_regs (s : State) (n : Nat) : (s.advance n).regs = s.regs := rfl
@[simp] theorem State.advance_staged (s : State) (n : Nat) : (s.advance n).staged = s.staged := rfl
@[simp] theorem State.advance_host (s : State) (n : Nat) : (s.advance n).host = s.host := rfl
@[simp] theorem State.advance_boot (s : State) (n : Nat) : (s.advance n).boot = s.boot := rfl
@[simp] theorem State.advance_fw (s : State) (n : Nat) : (s.advance n).fw = s.fw := rfl
@[simp] theorem State.advance_mbx (s : State) (n : Nat) : (s.advance n).mbx = s.mbx := rfl
@[simp] theorem State.advance_evq (s : State) (n : Nat) : (s.advance n).evq = s.evq := rfl
@[simp] theorem State.advance_inst (s : State) (n : Nat) : (s.advance n).inst = s.inst := rfl
@[simp] theorem State.advance_cairn (s : State) (n : Nat) : (s.advance n).cairn = s.cairn := rfl
@[simp] theorem State.advance_links (s : State) (n : Nat) : (s.advance n).links = s.links := rfl
@[simp] theorem State.advance_tree (s : State) (n : Nat) : (s.advance n).tree = s.tree := rfl
@[simp] theorem State.advance_rings (s : State) (n : Nat) : (s.advance n).rings = s.rings := rfl
@[simp] theorem State.advance_alloc (s : State) (n : Nat) : (s.advance n).alloc = s.alloc := rfl
@[simp] theorem State.advance_pager (s : State) (n : Nat) : (s.advance n).pager = s.pager := rfl
@[simp] theorem State.advance_xfer (s : State) (n : Nat) : (s.advance n).xfer = s.xfer := rfl
@[simp] theorem State.advance_dma (s : State) (n : Nat) : (s.advance n).dma = s.dma := rfl
@[simp] theorem State.advance_scree (s : State) (n : Nat) : (s.advance n).scree = s.scree := rfl
@[simp] theorem State.advance_power (s : State) (n : Nat) : (s.advance n).power = s.power := rfl
@[simp] theorem State.advance_mains (s : State) (n : Nat) : (s.advance n).mains = s.mains := rfl
@[simp] theorem State.advance_red (s : State) (n : Nat) : (s.advance n).red = s.red := rfl
@[simp] theorem State.advance_pair (s : State) (n : Nat) : (s.advance n).pair = s.pair := rfl
@[simp] theorem State.advance_pdm (s : State) (n : Nat) : (s.advance n).pdm = s.pdm := rfl
@[simp] theorem State.advance_tarn (s : State) (n : Nat) : (s.advance n).tarn = s.tarn := rfl
@[simp] theorem State.advance_flash (s : State) (n : Nat) : (s.advance n).flash = s.flash := rfl
@[simp] theorem State.advance_journal (s : State) (n : Nat) : (s.advance n).journal = s.journal := rfl
@[simp] theorem State.advance_pending (s : State) (n : Nat) : (s.advance n).pending = s.pending := rfl
@[simp] theorem State.advance_time (s : State) (n : Nat) : (s.advance n).time = { s.time with cyc := s.time.cyc + n, sys := (((s.time.sys + n * s.sysStep : Nat) + s.slewIn n) % (sysWrap : Int)).toNat, slew := s.time.slew - s.slewIn n } := rfl
@[simp] theorem State.advance_rd (s : State) (n : Nat) (z : Nat) : (s.advance n).rd z = s.rd z := rfl
@[simp] theorem State.advance_get (s : State) (n : Nat) (z : Fld) : (s.advance n).get z = s.get z := rfl
@[simp] theorem State.advance_on (s : State) (n : Nat) (z : Fld) : (s.advance n).on z = s.on z := rfl

/-! ### putInst -/

@[simp] theorem State.putInst_part (s : State) (i : Nat) (r : Instance) : (s.putInst i r).part = s.part := rfl
@[simp] theorem State.putInst_regs (s : State) (i : Nat) (r : Instance) : (s.putInst i r).regs = s.regs := rfl
@[simp] theorem State.putInst_staged (s : State) (i : Nat) (r : Instance) : (s.putInst i r).staged = s.staged := rfl
@[simp] theorem State.putInst_host (s : State) (i : Nat) (r : Instance) : (s.putInst i r).host = s.host := rfl
@[simp] theorem State.putInst_boot (s : State) (i : Nat) (r : Instance) : (s.putInst i r).boot = s.boot := rfl
@[simp] theorem State.putInst_fw (s : State) (i : Nat) (r : Instance) : (s.putInst i r).fw = s.fw := rfl
@[simp] theorem State.putInst_mbx (s : State) (i : Nat) (r : Instance) : (s.putInst i r).mbx = s.mbx := rfl
@[simp] theorem State.putInst_time (s : State) (i : Nat) (r : Instance) : (s.putInst i r).time = s.time := rfl
@[simp] theorem State.putInst_evq (s : State) (i : Nat) (r : Instance) : (s.putInst i r).evq = s.evq := rfl
@[simp] theorem State.putInst_cairn (s : State) (i : Nat) (r : Instance) : (s.putInst i r).cairn = s.cairn := rfl
@[simp] theorem State.putInst_links (s : State) (i : Nat) (r : Instance) : (s.putInst i r).links = s.links := rfl
@[simp] theorem State.putInst_tree (s : State) (i : Nat) (r : Instance) : (s.putInst i r).tree = s.tree := rfl
@[simp] theorem State.putInst_rings (s : State) (i : Nat) (r : Instance) : (s.putInst i r).rings = s.rings := rfl
@[simp] theorem State.putInst_alloc (s : State) (i : Nat) (r : Instance) : (s.putInst i r).alloc = s.alloc := rfl
@[simp] theorem State.putInst_pager (s : State) (i : Nat) (r : Instance) : (s.putInst i r).pager = s.pager := rfl
@[simp] theorem State.putInst_xfer (s : State) (i : Nat) (r : Instance) : (s.putInst i r).xfer = s.xfer := rfl
@[simp] theorem State.putInst_dma (s : State) (i : Nat) (r : Instance) : (s.putInst i r).dma = s.dma := rfl
@[simp] theorem State.putInst_scree (s : State) (i : Nat) (r : Instance) : (s.putInst i r).scree = s.scree := rfl
@[simp] theorem State.putInst_power (s : State) (i : Nat) (r : Instance) : (s.putInst i r).power = s.power := rfl
@[simp] theorem State.putInst_mains (s : State) (i : Nat) (r : Instance) : (s.putInst i r).mains = s.mains := rfl
@[simp] theorem State.putInst_red (s : State) (i : Nat) (r : Instance) : (s.putInst i r).red = s.red := rfl
@[simp] theorem State.putInst_pair (s : State) (i : Nat) (r : Instance) : (s.putInst i r).pair = s.pair := rfl
@[simp] theorem State.putInst_pdm (s : State) (i : Nat) (r : Instance) : (s.putInst i r).pdm = s.pdm := rfl
@[simp] theorem State.putInst_tarn (s : State) (i : Nat) (r : Instance) : (s.putInst i r).tarn = s.tarn := rfl
@[simp] theorem State.putInst_flash (s : State) (i : Nat) (r : Instance) : (s.putInst i r).flash = s.flash := rfl
@[simp] theorem State.putInst_journal (s : State) (i : Nat) (r : Instance) : (s.putInst i r).journal = s.journal := rfl
@[simp] theorem State.putInst_pending (s : State) (i : Nat) (r : Instance) : (s.putInst i r).pending = s.pending := rfl
@[simp] theorem State.putInst_inst (s : State) (i : Nat) (r : Instance) : (s.putInst i r).inst = { s.inst with tab := SMap.put Instance.reset i r s.inst.tab } := rfl
@[simp] theorem State.putInst_rd (s : State) (i : Nat) (r : Instance) (z : Nat) : (s.putInst i r).rd z = s.rd z := rfl
@[simp] theorem State.putInst_get (s : State) (i : Nat) (r : Instance) (z : Fld) : (s.putInst i r).get z = s.get z := rfl
@[simp] theorem State.putInst_on (s : State) (i : Nat) (r : Instance) (z : Fld) : (s.putInst i r).on z = s.on z := rfl

/-! ### issue -/

@[simp] theorem State.issue_part (s : State) (w : HostWrite) : (s.issue w).part = s.part := rfl
@[simp] theorem State.issue_regs (s : State) (w : HostWrite) : (s.issue w).regs = s.regs := rfl
@[simp] theorem State.issue_staged (s : State) (w : HostWrite) : (s.issue w).staged = s.staged := rfl
@[simp] theorem State.issue_boot (s : State) (w : HostWrite) : (s.issue w).boot = s.boot := rfl
@[simp] theorem State.issue_fw (s : State) (w : HostWrite) : (s.issue w).fw = s.fw := rfl
@[simp] theorem State.issue_mbx (s : State) (w : HostWrite) : (s.issue w).mbx = s.mbx := rfl
@[simp] theorem State.issue_time (s : State) (w : HostWrite) : (s.issue w).time = s.time := rfl
@[simp] theorem State.issue_evq (s : State) (w : HostWrite) : (s.issue w).evq = s.evq := rfl
@[simp] theorem State.issue_inst (s : State) (w : HostWrite) : (s.issue w).inst = s.inst := rfl
@[simp] theorem State.issue_cairn (s : State) (w : HostWrite) : (s.issue w).cairn = s.cairn := rfl
@[simp] theorem State.issue_links (s : State) (w : HostWrite) : (s.issue w).links = s.links := rfl
@[simp] theorem State.issue_tree (s : State) (w : HostWrite) : (s.issue w).tree = s.tree := rfl
@[simp] theorem State.issue_rings (s : State) (w : HostWrite) : (s.issue w).rings = s.rings := rfl
@[simp] theorem State.issue_alloc (s : State) (w : HostWrite) : (s.issue w).alloc = s.alloc := rfl
@[simp] theorem State.issue_pager (s : State) (w : HostWrite) : (s.issue w).pager = s.pager := rfl
@[simp] theorem State.issue_xfer (s : State) (w : HostWrite) : (s.issue w).xfer = s.xfer := rfl
@[simp] theorem State.issue_dma (s : State) (w : HostWrite) : (s.issue w).dma = s.dma := rfl
@[simp] theorem State.issue_scree (s : State) (w : HostWrite) : (s.issue w).scree = s.scree := rfl
@[simp] theorem State.issue_power (s : State) (w : HostWrite) : (s.issue w).power = s.power := rfl
@[simp] theorem State.issue_mains (s : State) (w : HostWrite) : (s.issue w).mains = s.mains := rfl
@[simp] theorem State.issue_red (s : State) (w : HostWrite) : (s.issue w).red = s.red := rfl
@[simp] theorem State.issue_pair (s : State) (w : HostWrite) : (s.issue w).pair = s.pair := rfl
@[simp] theorem State.issue_pdm (s : State) (w : HostWrite) : (s.issue w).pdm = s.pdm := rfl
@[simp] theorem State.issue_tarn (s : State) (w : HostWrite) : (s.issue w).tarn = s.tarn := rfl
@[simp] theorem State.issue_flash (s : State) (w : HostWrite) : (s.issue w).flash = s.flash := rfl
@[simp] theorem State.issue_journal (s : State) (w : HostWrite) : (s.issue w).journal = s.journal := rfl
@[simp] theorem State.issue_pending (s : State) (w : HostWrite) : (s.issue w).pending = s.pending := rfl
@[simp] theorem State.issue_host (s : State) (w : HostWrite) : (s.issue w).host = { s.host with writes := s.host.writes ++ [{ w with ecrc := s.host.ecrcGen.contains w.port }] } := rfl
@[simp] theorem State.issue_rd (s : State) (w : HostWrite) (z : Nat) : (s.issue w).rd z = s.rd z := rfl
@[simp] theorem State.issue_get (s : State) (w : HostWrite) (z : Fld) : (s.issue w).get z = s.get z := rfl
@[simp] theorem State.issue_on (s : State) (w : HostWrite) (z : Fld) : (s.issue w).on z = s.on z := rfl

/-! ### answer -/

@[simp] theorem State.answer_part (s : State) (v : Nat) : (s.answer v).part = s.part := rfl
@[simp] theorem State.answer_regs (s : State) (v : Nat) : (s.answer v).regs = s.regs := rfl
@[simp] theorem State.answer_staged (s : State) (v : Nat) : (s.answer v).staged = s.staged := rfl
@[simp] theorem State.answer_boot (s : State) (v : Nat) : (s.answer v).boot = s.boot := rfl
@[simp] theorem State.answer_fw (s : State) (v : Nat) : (s.answer v).fw = s.fw := rfl
@[simp] theorem State.answer_mbx (s : State) (v : Nat) : (s.answer v).mbx = s.mbx := rfl
@[simp] theorem State.answer_time (s : State) (v : Nat) : (s.answer v).time = s.time := rfl
@[simp] theorem State.answer_evq (s : State) (v : Nat) : (s.answer v).evq = s.evq := rfl
@[simp] theorem State.answer_inst (s : State) (v : Nat) : (s.answer v).inst = s.inst := rfl
@[simp] theorem State.answer_cairn (s : State) (v : Nat) : (s.answer v).cairn = s.cairn := rfl
@[simp] theorem State.answer_links (s : State) (v : Nat) : (s.answer v).links = s.links := rfl
@[simp] theorem State.answer_tree (s : State) (v : Nat) : (s.answer v).tree = s.tree := rfl
@[simp] theorem State.answer_rings (s : State) (v : Nat) : (s.answer v).rings = s.rings := rfl
@[simp] theorem State.answer_alloc (s : State) (v : Nat) : (s.answer v).alloc = s.alloc := rfl
@[simp] theorem State.answer_pager (s : State) (v : Nat) : (s.answer v).pager = s.pager := rfl
@[simp] theorem State.answer_xfer (s : State) (v : Nat) : (s.answer v).xfer = s.xfer := rfl
@[simp] theorem State.answer_dma (s : State) (v : Nat) : (s.answer v).dma = s.dma := rfl
@[simp] theorem State.answer_scree (s : State) (v : Nat) : (s.answer v).scree = s.scree := rfl
@[simp] theorem State.answer_power (s : State) (v : Nat) : (s.answer v).power = s.power := rfl
@[simp] theorem State.answer_mains (s : State) (v : Nat) : (s.answer v).mains = s.mains := rfl
@[simp] theorem State.answer_red (s : State) (v : Nat) : (s.answer v).red = s.red := rfl
@[simp] theorem State.answer_pair (s : State) (v : Nat) : (s.answer v).pair = s.pair := rfl
@[simp] theorem State.answer_pdm (s : State) (v : Nat) : (s.answer v).pdm = s.pdm := rfl
@[simp] theorem State.answer_tarn (s : State) (v : Nat) : (s.answer v).tarn = s.tarn := rfl
@[simp] theorem State.answer_flash (s : State) (v : Nat) : (s.answer v).flash = s.flash := rfl
@[simp] theorem State.answer_journal (s : State) (v : Nat) : (s.answer v).journal = s.journal := rfl
@[simp] theorem State.answer_pending (s : State) (v : Nat) : (s.answer v).pending = s.pending := rfl
@[simp] theorem State.answer_host (s : State) (v : Nat) : (s.answer v).host = { s.host with readData := v } := rfl
@[simp] theorem State.answer_rd (s : State) (v : Nat) (z : Nat) : (s.answer v).rd z = s.rd z := rfl
@[simp] theorem State.answer_get (s : State) (v : Nat) (z : Fld) : (s.answer v).get z = s.get z := rfl
@[simp] theorem State.answer_on (s : State) (v : Nat) (z : Fld) : (s.answer v).on z = s.on z := rfl

/-! ### reportUR -/

@[simp] theorem State.reportUR_part (s : State) (port : Side) : (s.reportUR port).part = s.part := rfl
@[simp] theorem State.reportUR_regs (s : State) (port : Side) : (s.reportUR port).regs = s.regs := rfl
@[simp] theorem State.reportUR_staged (s : State) (port : Side) : (s.reportUR port).staged = s.staged := rfl
@[simp] theorem State.reportUR_boot (s : State) (port : Side) : (s.reportUR port).boot = s.boot := rfl
@[simp] theorem State.reportUR_fw (s : State) (port : Side) : (s.reportUR port).fw = s.fw := rfl
@[simp] theorem State.reportUR_mbx (s : State) (port : Side) : (s.reportUR port).mbx = s.mbx := rfl
@[simp] theorem State.reportUR_time (s : State) (port : Side) : (s.reportUR port).time = s.time := rfl
@[simp] theorem State.reportUR_evq (s : State) (port : Side) : (s.reportUR port).evq = s.evq := rfl
@[simp] theorem State.reportUR_inst (s : State) (port : Side) : (s.reportUR port).inst = s.inst := rfl
@[simp] theorem State.reportUR_cairn (s : State) (port : Side) : (s.reportUR port).cairn = s.cairn := rfl
@[simp] theorem State.reportUR_links (s : State) (port : Side) : (s.reportUR port).links = s.links := rfl
@[simp] theorem State.reportUR_tree (s : State) (port : Side) : (s.reportUR port).tree = s.tree := rfl
@[simp] theorem State.reportUR_rings (s : State) (port : Side) : (s.reportUR port).rings = s.rings := rfl
@[simp] theorem State.reportUR_alloc (s : State) (port : Side) : (s.reportUR port).alloc = s.alloc := rfl
@[simp] theorem State.reportUR_pager (s : State) (port : Side) : (s.reportUR port).pager = s.pager := rfl
@[simp] theorem State.reportUR_xfer (s : State) (port : Side) : (s.reportUR port).xfer = s.xfer := rfl
@[simp] theorem State.reportUR_dma (s : State) (port : Side) : (s.reportUR port).dma = s.dma := rfl
@[simp] theorem State.reportUR_scree (s : State) (port : Side) : (s.reportUR port).scree = s.scree := rfl
@[simp] theorem State.reportUR_power (s : State) (port : Side) : (s.reportUR port).power = s.power := rfl
@[simp] theorem State.reportUR_mains (s : State) (port : Side) : (s.reportUR port).mains = s.mains := rfl
@[simp] theorem State.reportUR_red (s : State) (port : Side) : (s.reportUR port).red = s.red := rfl
@[simp] theorem State.reportUR_pair (s : State) (port : Side) : (s.reportUR port).pair = s.pair := rfl
@[simp] theorem State.reportUR_pdm (s : State) (port : Side) : (s.reportUR port).pdm = s.pdm := rfl
@[simp] theorem State.reportUR_tarn (s : State) (port : Side) : (s.reportUR port).tarn = s.tarn := rfl
@[simp] theorem State.reportUR_flash (s : State) (port : Side) : (s.reportUR port).flash = s.flash := rfl
@[simp] theorem State.reportUR_journal (s : State) (port : Side) : (s.reportUR port).journal = s.journal := rfl
@[simp] theorem State.reportUR_pending (s : State) (port : Side) : (s.reportUR port).pending = s.pending := rfl
@[simp] theorem State.reportUR_host (s : State) (port : Side) : (s.reportUR port).host = { s.host with ur := s.host.ur ++ [port] } := rfl
@[simp] theorem State.reportUR_rd (s : State) (port : Side) (z : Nat) : (s.reportUR port).rd z = s.rd z := rfl
@[simp] theorem State.reportUR_get (s : State) (port : Side) (z : Fld) : (s.reportUR port).get z = s.get z := rfl
@[simp] theorem State.reportUR_on (s : State) (port : Side) (z : Fld) : (s.reportUR port).on z = s.on z := rfl

/-! ### putSrc -/

@[simp] theorem State.putSrc_part (s : State) (n : Nat) (x : Source) : (s.putSrc n x).part = s.part := rfl
@[simp] theorem State.putSrc_regs (s : State) (n : Nat) (x : Source) : (s.putSrc n x).regs = s.regs := rfl
@[simp] theorem State.putSrc_staged (s : State) (n : Nat) (x : Source) : (s.putSrc n x).staged = s.staged := rfl
@[simp] theorem State.putSrc_host (s : State) (n : Nat) (x : Source) : (s.putSrc n x).host = s.host := rfl
@[simp] theorem State.putSrc_boot (s : State) (n : Nat) (x : Source) : (s.putSrc n x).boot = s.boot := rfl
@[simp] theorem State.putSrc_fw (s : State) (n : Nat) (x : Source) : (s.putSrc n x).fw = s.fw := rfl
@[simp] theorem State.putSrc_mbx (s : State) (n : Nat) (x : Source) : (s.putSrc n x).mbx = s.mbx := rfl
@[simp] theorem State.putSrc_time (s : State) (n : Nat) (x : Source) : (s.putSrc n x).time = s.time := rfl
@[simp] theorem State.putSrc_inst (s : State) (n : Nat) (x : Source) : (s.putSrc n x).inst = s.inst := rfl
@[simp] theorem State.putSrc_cairn (s : State) (n : Nat) (x : Source) : (s.putSrc n x).cairn = s.cairn := rfl
@[simp] theorem State.putSrc_links (s : State) (n : Nat) (x : Source) : (s.putSrc n x).links = s.links := rfl
@[simp] theorem State.putSrc_tree (s : State) (n : Nat) (x : Source) : (s.putSrc n x).tree = s.tree := rfl
@[simp] theorem State.putSrc_rings (s : State) (n : Nat) (x : Source) : (s.putSrc n x).rings = s.rings := rfl
@[simp] theorem State.putSrc_alloc (s : State) (n : Nat) (x : Source) : (s.putSrc n x).alloc = s.alloc := rfl
@[simp] theorem State.putSrc_pager (s : State) (n : Nat) (x : Source) : (s.putSrc n x).pager = s.pager := rfl
@[simp] theorem State.putSrc_xfer (s : State) (n : Nat) (x : Source) : (s.putSrc n x).xfer = s.xfer := rfl
@[simp] theorem State.putSrc_dma (s : State) (n : Nat) (x : Source) : (s.putSrc n x).dma = s.dma := rfl
@[simp] theorem State.putSrc_scree (s : State) (n : Nat) (x : Source) : (s.putSrc n x).scree = s.scree := rfl
@[simp] theorem State.putSrc_power (s : State) (n : Nat) (x : Source) : (s.putSrc n x).power = s.power := rfl
@[simp] theorem State.putSrc_mains (s : State) (n : Nat) (x : Source) : (s.putSrc n x).mains = s.mains := rfl
@[simp] theorem State.putSrc_red (s : State) (n : Nat) (x : Source) : (s.putSrc n x).red = s.red := rfl
@[simp] theorem State.putSrc_pair (s : State) (n : Nat) (x : Source) : (s.putSrc n x).pair = s.pair := rfl
@[simp] theorem State.putSrc_pdm (s : State) (n : Nat) (x : Source) : (s.putSrc n x).pdm = s.pdm := rfl
@[simp] theorem State.putSrc_tarn (s : State) (n : Nat) (x : Source) : (s.putSrc n x).tarn = s.tarn := rfl
@[simp] theorem State.putSrc_flash (s : State) (n : Nat) (x : Source) : (s.putSrc n x).flash = s.flash := rfl
@[simp] theorem State.putSrc_journal (s : State) (n : Nat) (x : Source) : (s.putSrc n x).journal = s.journal := rfl
@[simp] theorem State.putSrc_pending (s : State) (n : Nat) (x : Source) : (s.putSrc n x).pending = s.pending := rfl
@[simp] theorem State.putSrc_evq (s : State) (n : Nat) (x : Source) : (s.putSrc n x).evq = { s.evq with srcs := SMap.put Source.reset n x s.evq.srcs } := rfl
@[simp] theorem State.putSrc_rd (s : State) (n : Nat) (x : Source) (z : Nat) : (s.putSrc n x).rd z = s.rd z := rfl
@[simp] theorem State.putSrc_get (s : State) (n : Nat) (x : Source) (z : Fld) : (s.putSrc n x).get z = s.get z := rfl
@[simp] theorem State.putSrc_on (s : State) (n : Nat) (x : Source) (z : Fld) : (s.putSrc n x).on z = s.on z := rfl

/-! ### slotStore -/

@[simp] theorem State.slotStore_part (s : State) (m sl off : Nat) (bs : List Byte) : (s.slotStore m sl off bs).part = s.part := rfl
@[simp] theorem State.slotStore_regs (s : State) (m sl off : Nat) (bs : List Byte) : (s.slotStore m sl off bs).regs = s.regs := rfl
@[simp] theorem State.slotStore_staged (s : State) (m sl off : Nat) (bs : List Byte) : (s.slotStore m sl off bs).staged = s.staged := rfl
@[simp] theorem State.slotStore_host (s : State) (m sl off : Nat) (bs : List Byte) : (s.slotStore m sl off bs).host = s.host := rfl
@[simp] theorem State.slotStore_boot (s : State) (m sl off : Nat) (bs : List Byte) : (s.slotStore m sl off bs).boot = s.boot := rfl
@[simp] theorem State.slotStore_fw (s : State) (m sl off : Nat) (bs : List Byte) : (s.slotStore m sl off bs).fw = s.fw := rfl
@[simp] theorem State.slotStore_time (s : State) (m sl off : Nat) (bs : List Byte) : (s.slotStore m sl off bs).time = s.time := rfl
@[simp] theorem State.slotStore_evq (s : State) (m sl off : Nat) (bs : List Byte) : (s.slotStore m sl off bs).evq = s.evq := rfl
@[simp] theorem State.slotStore_inst (s : State) (m sl off : Nat) (bs : List Byte) : (s.slotStore m sl off bs).inst = s.inst := rfl
@[simp] theorem State.slotStore_cairn (s : State) (m sl off : Nat) (bs : List Byte) : (s.slotStore m sl off bs).cairn = s.cairn := rfl
@[simp] theorem State.slotStore_links (s : State) (m sl off : Nat) (bs : List Byte) : (s.slotStore m sl off bs).links = s.links := rfl
@[simp] theorem State.slotStore_tree (s : State) (m sl off : Nat) (bs : List Byte) : (s.slotStore m sl off bs).tree = s.tree := rfl
@[simp] theorem State.slotStore_rings (s : State) (m sl off : Nat) (bs : List Byte) : (s.slotStore m sl off bs).rings = s.rings := rfl
@[simp] theorem State.slotStore_alloc (s : State) (m sl off : Nat) (bs : List Byte) : (s.slotStore m sl off bs).alloc = s.alloc := rfl
@[simp] theorem State.slotStore_pager (s : State) (m sl off : Nat) (bs : List Byte) : (s.slotStore m sl off bs).pager = s.pager := rfl
@[simp] theorem State.slotStore_xfer (s : State) (m sl off : Nat) (bs : List Byte) : (s.slotStore m sl off bs).xfer = s.xfer := rfl
@[simp] theorem State.slotStore_dma (s : State) (m sl off : Nat) (bs : List Byte) : (s.slotStore m sl off bs).dma = s.dma := rfl
@[simp] theorem State.slotStore_scree (s : State) (m sl off : Nat) (bs : List Byte) : (s.slotStore m sl off bs).scree = s.scree := rfl
@[simp] theorem State.slotStore_power (s : State) (m sl off : Nat) (bs : List Byte) : (s.slotStore m sl off bs).power = s.power := rfl
@[simp] theorem State.slotStore_mains (s : State) (m sl off : Nat) (bs : List Byte) : (s.slotStore m sl off bs).mains = s.mains := rfl
@[simp] theorem State.slotStore_red (s : State) (m sl off : Nat) (bs : List Byte) : (s.slotStore m sl off bs).red = s.red := rfl
@[simp] theorem State.slotStore_pair (s : State) (m sl off : Nat) (bs : List Byte) : (s.slotStore m sl off bs).pair = s.pair := rfl
@[simp] theorem State.slotStore_pdm (s : State) (m sl off : Nat) (bs : List Byte) : (s.slotStore m sl off bs).pdm = s.pdm := rfl
@[simp] theorem State.slotStore_tarn (s : State) (m sl off : Nat) (bs : List Byte) : (s.slotStore m sl off bs).tarn = s.tarn := rfl
@[simp] theorem State.slotStore_flash (s : State) (m sl off : Nat) (bs : List Byte) : (s.slotStore m sl off bs).flash = s.flash := rfl
@[simp] theorem State.slotStore_journal (s : State) (m sl off : Nat) (bs : List Byte) : (s.slotStore m sl off bs).journal = s.journal := rfl
@[simp] theorem State.slotStore_pending (s : State) (m sl off : Nat) (bs : List Byte) : (s.slotStore m sl off bs).pending = s.pending := rfl
@[simp] theorem State.slotStore_mbx (s : State) (m sl off : Nat) (bs : List Byte) : (s.slotStore m sl off bs).mbx = { s.mbx with slots := Memory.write zeroByte s.mbx.slots (slotAddr m sl + off) bs } := rfl
@[simp] theorem State.slotStore_rd (s : State) (m sl off : Nat) (bs : List Byte) (z : Nat) : (s.slotStore m sl off bs).rd z = s.rd z := rfl
@[simp] theorem State.slotStore_get (s : State) (m sl off : Nat) (bs : List Byte) (z : Fld) : (s.slotStore m sl off bs).get z = s.get z := rfl
@[simp] theorem State.slotStore_on (s : State) (m sl off : Nat) (bs : List Byte) (z : Fld) : (s.slotStore m sl off bs).on z = s.on z := rfl

/-! ### setCmd -/

@[simp] theorem State.setCmd_part (s : State) (c : Cmd) : (s.setCmd c).part = s.part := rfl
@[simp] theorem State.setCmd_regs (s : State) (c : Cmd) : (s.setCmd c).regs = s.regs := rfl
@[simp] theorem State.setCmd_staged (s : State) (c : Cmd) : (s.setCmd c).staged = s.staged := rfl
@[simp] theorem State.setCmd_host (s : State) (c : Cmd) : (s.setCmd c).host = s.host := rfl
@[simp] theorem State.setCmd_boot (s : State) (c : Cmd) : (s.setCmd c).boot = s.boot := rfl
@[simp] theorem State.setCmd_fw (s : State) (c : Cmd) : (s.setCmd c).fw = s.fw := rfl
@[simp] theorem State.setCmd_time (s : State) (c : Cmd) : (s.setCmd c).time = s.time := rfl
@[simp] theorem State.setCmd_evq (s : State) (c : Cmd) : (s.setCmd c).evq = s.evq := rfl
@[simp] theorem State.setCmd_inst (s : State) (c : Cmd) : (s.setCmd c).inst = s.inst := rfl
@[simp] theorem State.setCmd_cairn (s : State) (c : Cmd) : (s.setCmd c).cairn = s.cairn := rfl
@[simp] theorem State.setCmd_links (s : State) (c : Cmd) : (s.setCmd c).links = s.links := rfl
@[simp] theorem State.setCmd_tree (s : State) (c : Cmd) : (s.setCmd c).tree = s.tree := rfl
@[simp] theorem State.setCmd_rings (s : State) (c : Cmd) : (s.setCmd c).rings = s.rings := rfl
@[simp] theorem State.setCmd_alloc (s : State) (c : Cmd) : (s.setCmd c).alloc = s.alloc := rfl
@[simp] theorem State.setCmd_pager (s : State) (c : Cmd) : (s.setCmd c).pager = s.pager := rfl
@[simp] theorem State.setCmd_xfer (s : State) (c : Cmd) : (s.setCmd c).xfer = s.xfer := rfl
@[simp] theorem State.setCmd_dma (s : State) (c : Cmd) : (s.setCmd c).dma = s.dma := rfl
@[simp] theorem State.setCmd_scree (s : State) (c : Cmd) : (s.setCmd c).scree = s.scree := rfl
@[simp] theorem State.setCmd_power (s : State) (c : Cmd) : (s.setCmd c).power = s.power := rfl
@[simp] theorem State.setCmd_mains (s : State) (c : Cmd) : (s.setCmd c).mains = s.mains := rfl
@[simp] theorem State.setCmd_red (s : State) (c : Cmd) : (s.setCmd c).red = s.red := rfl
@[simp] theorem State.setCmd_pair (s : State) (c : Cmd) : (s.setCmd c).pair = s.pair := rfl
@[simp] theorem State.setCmd_pdm (s : State) (c : Cmd) : (s.setCmd c).pdm = s.pdm := rfl
@[simp] theorem State.setCmd_tarn (s : State) (c : Cmd) : (s.setCmd c).tarn = s.tarn := rfl
@[simp] theorem State.setCmd_flash (s : State) (c : Cmd) : (s.setCmd c).flash = s.flash := rfl
@[simp] theorem State.setCmd_journal (s : State) (c : Cmd) : (s.setCmd c).journal = s.journal := rfl
@[simp] theorem State.setCmd_pending (s : State) (c : Cmd) : (s.setCmd c).pending = s.pending := rfl
@[simp] theorem State.setCmd_mbx (s : State) (c : Cmd) : (s.setCmd c).mbx = { s.mbx with taken := s.mbx.taken.map fun x => if x.id = c.id then c else x } := rfl
@[simp] theorem State.setCmd_rd (s : State) (c : Cmd) (z : Nat) : (s.setCmd c).rd z = s.rd z := rfl
@[simp] theorem State.setCmd_get (s : State) (c : Cmd) (z : Fld) : (s.setCmd c).get z = s.get z := rfl
@[simp] theorem State.setCmd_on (s : State) (c : Cmd) (z : Fld) : (s.setCmd c).on z = s.on z := rfl

/-! ### dropCmd -/

@[simp] theorem State.dropCmd_part (s : State) (id : Nat) : (s.dropCmd id).part = s.part := rfl
@[simp] theorem State.dropCmd_regs (s : State) (id : Nat) : (s.dropCmd id).regs = s.regs := rfl
@[simp] theorem State.dropCmd_staged (s : State) (id : Nat) : (s.dropCmd id).staged = s.staged := rfl
@[simp] theorem State.dropCmd_host (s : State) (id : Nat) : (s.dropCmd id).host = s.host := rfl
@[simp] theorem State.dropCmd_boot (s : State) (id : Nat) : (s.dropCmd id).boot = s.boot := rfl
@[simp] theorem State.dropCmd_fw (s : State) (id : Nat) : (s.dropCmd id).fw = s.fw := rfl
@[simp] theorem State.dropCmd_time (s : State) (id : Nat) : (s.dropCmd id).time = s.time := rfl
@[simp] theorem State.dropCmd_evq (s : State) (id : Nat) : (s.dropCmd id).evq = s.evq := rfl
@[simp] theorem State.dropCmd_inst (s : State) (id : Nat) : (s.dropCmd id).inst = s.inst := rfl
@[simp] theorem State.dropCmd_cairn (s : State) (id : Nat) : (s.dropCmd id).cairn = s.cairn := rfl
@[simp] theorem State.dropCmd_links (s : State) (id : Nat) : (s.dropCmd id).links = s.links := rfl
@[simp] theorem State.dropCmd_tree (s : State) (id : Nat) : (s.dropCmd id).tree = s.tree := rfl
@[simp] theorem State.dropCmd_rings (s : State) (id : Nat) : (s.dropCmd id).rings = s.rings := rfl
@[simp] theorem State.dropCmd_alloc (s : State) (id : Nat) : (s.dropCmd id).alloc = s.alloc := rfl
@[simp] theorem State.dropCmd_pager (s : State) (id : Nat) : (s.dropCmd id).pager = s.pager := rfl
@[simp] theorem State.dropCmd_xfer (s : State) (id : Nat) : (s.dropCmd id).xfer = s.xfer := rfl
@[simp] theorem State.dropCmd_dma (s : State) (id : Nat) : (s.dropCmd id).dma = s.dma := rfl
@[simp] theorem State.dropCmd_scree (s : State) (id : Nat) : (s.dropCmd id).scree = s.scree := rfl
@[simp] theorem State.dropCmd_power (s : State) (id : Nat) : (s.dropCmd id).power = s.power := rfl
@[simp] theorem State.dropCmd_mains (s : State) (id : Nat) : (s.dropCmd id).mains = s.mains := rfl
@[simp] theorem State.dropCmd_red (s : State) (id : Nat) : (s.dropCmd id).red = s.red := rfl
@[simp] theorem State.dropCmd_pair (s : State) (id : Nat) : (s.dropCmd id).pair = s.pair := rfl
@[simp] theorem State.dropCmd_pdm (s : State) (id : Nat) : (s.dropCmd id).pdm = s.pdm := rfl
@[simp] theorem State.dropCmd_tarn (s : State) (id : Nat) : (s.dropCmd id).tarn = s.tarn := rfl
@[simp] theorem State.dropCmd_flash (s : State) (id : Nat) : (s.dropCmd id).flash = s.flash := rfl
@[simp] theorem State.dropCmd_journal (s : State) (id : Nat) : (s.dropCmd id).journal = s.journal := rfl
@[simp] theorem State.dropCmd_pending (s : State) (id : Nat) : (s.dropCmd id).pending = s.pending := rfl
@[simp] theorem State.dropCmd_mbx (s : State) (id : Nat) : (s.dropCmd id).mbx = { s.mbx with taken := s.mbx.taken.filter fun x => x.id != id } := rfl
@[simp] theorem State.dropCmd_rd (s : State) (id : Nat) (z : Nat) : (s.dropCmd id).rd z = s.rd z := rfl
@[simp] theorem State.dropCmd_get (s : State) (id : Nat) (z : Fld) : (s.dropCmd id).get z = s.get z := rfl
@[simp] theorem State.dropCmd_on (s : State) (id : Nat) (z : Fld) : (s.dropCmd id).on z = s.on z := rfl

/-! ### journalStatus -/

@[simp] theorem State.journalStatus_part (s : State) (id status : Nat) : (s.journalStatus id status).part = s.part := rfl
@[simp] theorem State.journalStatus_regs (s : State) (id status : Nat) : (s.journalStatus id status).regs = s.regs := rfl
@[simp] theorem State.journalStatus_staged (s : State) (id status : Nat) : (s.journalStatus id status).staged = s.staged := rfl
@[simp] theorem State.journalStatus_host (s : State) (id status : Nat) : (s.journalStatus id status).host = s.host := rfl
@[simp] theorem State.journalStatus_boot (s : State) (id status : Nat) : (s.journalStatus id status).boot = s.boot := rfl
@[simp] theorem State.journalStatus_fw (s : State) (id status : Nat) : (s.journalStatus id status).fw = s.fw := rfl
@[simp] theorem State.journalStatus_mbx (s : State) (id status : Nat) : (s.journalStatus id status).mbx = s.mbx := rfl
@[simp] theorem State.journalStatus_time (s : State) (id status : Nat) : (s.journalStatus id status).time = s.time := rfl
@[simp] theorem State.journalStatus_evq (s : State) (id status : Nat) : (s.journalStatus id status).evq = s.evq := rfl
@[simp] theorem State.journalStatus_inst (s : State) (id status : Nat) : (s.journalStatus id status).inst = s.inst := rfl
@[simp] theorem State.journalStatus_cairn (s : State) (id status : Nat) : (s.journalStatus id status).cairn = s.cairn := rfl
@[simp] theorem State.journalStatus_links (s : State) (id status : Nat) : (s.journalStatus id status).links = s.links := rfl
@[simp] theorem State.journalStatus_tree (s : State) (id status : Nat) : (s.journalStatus id status).tree = s.tree := rfl
@[simp] theorem State.journalStatus_rings (s : State) (id status : Nat) : (s.journalStatus id status).rings = s.rings := rfl
@[simp] theorem State.journalStatus_alloc (s : State) (id status : Nat) : (s.journalStatus id status).alloc = s.alloc := rfl
@[simp] theorem State.journalStatus_pager (s : State) (id status : Nat) : (s.journalStatus id status).pager = s.pager := rfl
@[simp] theorem State.journalStatus_xfer (s : State) (id status : Nat) : (s.journalStatus id status).xfer = s.xfer := rfl
@[simp] theorem State.journalStatus_dma (s : State) (id status : Nat) : (s.journalStatus id status).dma = s.dma := rfl
@[simp] theorem State.journalStatus_scree (s : State) (id status : Nat) : (s.journalStatus id status).scree = s.scree := rfl
@[simp] theorem State.journalStatus_power (s : State) (id status : Nat) : (s.journalStatus id status).power = s.power := rfl
@[simp] theorem State.journalStatus_mains (s : State) (id status : Nat) : (s.journalStatus id status).mains = s.mains := rfl
@[simp] theorem State.journalStatus_red (s : State) (id status : Nat) : (s.journalStatus id status).red = s.red := rfl
@[simp] theorem State.journalStatus_pair (s : State) (id status : Nat) : (s.journalStatus id status).pair = s.pair := rfl
@[simp] theorem State.journalStatus_pdm (s : State) (id status : Nat) : (s.journalStatus id status).pdm = s.pdm := rfl
@[simp] theorem State.journalStatus_tarn (s : State) (id status : Nat) : (s.journalStatus id status).tarn = s.tarn := rfl
@[simp] theorem State.journalStatus_flash (s : State) (id status : Nat) : (s.journalStatus id status).flash = s.flash := rfl
@[simp] theorem State.journalStatus_pending (s : State) (id status : Nat) : (s.journalStatus id status).pending = s.pending := rfl
@[simp] theorem State.journalStatus_journal (s : State) (id status : Nat) : (s.journalStatus id status).journal = s.journal.map fun j => if j.id = id then { j with status := some status } else j := rfl
@[simp] theorem State.journalStatus_rd (s : State) (id status : Nat) (z : Nat) : (s.journalStatus id status).rd z = s.rd z := rfl
@[simp] theorem State.journalStatus_get (s : State) (id status : Nat) (z : Fld) : (s.journalStatus id status).get z = s.get z := rfl
@[simp] theorem State.journalStatus_on (s : State) (id status : Nat) (z : Fld) : (s.journalStatus id status).on z = s.on z := rfl

/-! ### setBoot -/

@[simp] theorem State.setBoot_part (s : State) (b : Boot) : (s.setBoot b).part = s.part := rfl
@[simp] theorem State.setBoot_regs (s : State) (b : Boot) : (s.setBoot b).regs = s.regs := rfl
@[simp] theorem State.setBoot_staged (s : State) (b : Boot) : (s.setBoot b).staged = s.staged := rfl
@[simp] theorem State.setBoot_host (s : State) (b : Boot) : (s.setBoot b).host = s.host := rfl
@[simp] theorem State.setBoot_fw (s : State) (b : Boot) : (s.setBoot b).fw = s.fw := rfl
@[simp] theorem State.setBoot_mbx (s : State) (b : Boot) : (s.setBoot b).mbx = s.mbx := rfl
@[simp] theorem State.setBoot_time (s : State) (b : Boot) : (s.setBoot b).time = s.time := rfl
@[simp] theorem State.setBoot_evq (s : State) (b : Boot) : (s.setBoot b).evq = s.evq := rfl
@[simp] theorem State.setBoot_inst (s : State) (b : Boot) : (s.setBoot b).inst = s.inst := rfl
@[simp] theorem State.setBoot_cairn (s : State) (b : Boot) : (s.setBoot b).cairn = s.cairn := rfl
@[simp] theorem State.setBoot_links (s : State) (b : Boot) : (s.setBoot b).links = s.links := rfl
@[simp] theorem State.setBoot_tree (s : State) (b : Boot) : (s.setBoot b).tree = s.tree := rfl
@[simp] theorem State.setBoot_rings (s : State) (b : Boot) : (s.setBoot b).rings = s.rings := rfl
@[simp] theorem State.setBoot_alloc (s : State) (b : Boot) : (s.setBoot b).alloc = s.alloc := rfl
@[simp] theorem State.setBoot_pager (s : State) (b : Boot) : (s.setBoot b).pager = s.pager := rfl
@[simp] theorem State.setBoot_xfer (s : State) (b : Boot) : (s.setBoot b).xfer = s.xfer := rfl
@[simp] theorem State.setBoot_dma (s : State) (b : Boot) : (s.setBoot b).dma = s.dma := rfl
@[simp] theorem State.setBoot_scree (s : State) (b : Boot) : (s.setBoot b).scree = s.scree := rfl
@[simp] theorem State.setBoot_power (s : State) (b : Boot) : (s.setBoot b).power = s.power := rfl
@[simp] theorem State.setBoot_mains (s : State) (b : Boot) : (s.setBoot b).mains = s.mains := rfl
@[simp] theorem State.setBoot_red (s : State) (b : Boot) : (s.setBoot b).red = s.red := rfl
@[simp] theorem State.setBoot_pair (s : State) (b : Boot) : (s.setBoot b).pair = s.pair := rfl
@[simp] theorem State.setBoot_pdm (s : State) (b : Boot) : (s.setBoot b).pdm = s.pdm := rfl
@[simp] theorem State.setBoot_tarn (s : State) (b : Boot) : (s.setBoot b).tarn = s.tarn := rfl
@[simp] theorem State.setBoot_flash (s : State) (b : Boot) : (s.setBoot b).flash = s.flash := rfl
@[simp] theorem State.setBoot_journal (s : State) (b : Boot) : (s.setBoot b).journal = s.journal := rfl
@[simp] theorem State.setBoot_pending (s : State) (b : Boot) : (s.setBoot b).pending = s.pending := rfl
@[simp] theorem State.setBoot_boot (s : State) (b : Boot) : (s.setBoot b).boot = b := rfl
@[simp] theorem State.setBoot_rd (s : State) (b : Boot) (z : Nat) : (s.setBoot b).rd z = s.rd z := rfl
@[simp] theorem State.setBoot_get (s : State) (b : Boot) (z : Fld) : (s.setBoot b).get z = s.get z := rfl
@[simp] theorem State.setBoot_on (s : State) (b : Boot) (z : Fld) : (s.setBoot b).on z = s.on z := rfl

/-! ### setStage -/

@[simp] theorem State.setStage_part (s : State) (x : BootStage) : (s.setStage x).part = s.part := rfl
@[simp] theorem State.setStage_regs (s : State) (x : BootStage) : (s.setStage x).regs = s.regs := rfl
@[simp] theorem State.setStage_staged (s : State) (x : BootStage) : (s.setStage x).staged = s.staged := rfl
@[simp] theorem State.setStage_host (s : State) (x : BootStage) : (s.setStage x).host = s.host := rfl
@[simp] theorem State.setStage_fw (s : State) (x : BootStage) : (s.setStage x).fw = s.fw := rfl
@[simp] theorem State.setStage_mbx (s : State) (x : BootStage) : (s.setStage x).mbx = s.mbx := rfl
@[simp] theorem State.setStage_time (s : State) (x : BootStage) : (s.setStage x).time = s.time := rfl
@[simp] theorem State.setStage_evq (s : State) (x : BootStage) : (s.setStage x).evq = s.evq := rfl
@[simp] theorem State.setStage_inst (s : State) (x : BootStage) : (s.setStage x).inst = s.inst := rfl
@[simp] theorem State.setStage_cairn (s : State) (x : BootStage) : (s.setStage x).cairn = s.cairn := rfl
@[simp] theorem State.setStage_links (s : State) (x : BootStage) : (s.setStage x).links = s.links := rfl
@[simp] theorem State.setStage_tree (s : State) (x : BootStage) : (s.setStage x).tree = s.tree := rfl
@[simp] theorem State.setStage_rings (s : State) (x : BootStage) : (s.setStage x).rings = s.rings := rfl
@[simp] theorem State.setStage_alloc (s : State) (x : BootStage) : (s.setStage x).alloc = s.alloc := rfl
@[simp] theorem State.setStage_pager (s : State) (x : BootStage) : (s.setStage x).pager = s.pager := rfl
@[simp] theorem State.setStage_xfer (s : State) (x : BootStage) : (s.setStage x).xfer = s.xfer := rfl
@[simp] theorem State.setStage_dma (s : State) (x : BootStage) : (s.setStage x).dma = s.dma := rfl
@[simp] theorem State.setStage_scree (s : State) (x : BootStage) : (s.setStage x).scree = s.scree := rfl
@[simp] theorem State.setStage_power (s : State) (x : BootStage) : (s.setStage x).power = s.power := rfl
@[simp] theorem State.setStage_mains (s : State) (x : BootStage) : (s.setStage x).mains = s.mains := rfl
@[simp] theorem State.setStage_red (s : State) (x : BootStage) : (s.setStage x).red = s.red := rfl
@[simp] theorem State.setStage_pair (s : State) (x : BootStage) : (s.setStage x).pair = s.pair := rfl
@[simp] theorem State.setStage_pdm (s : State) (x : BootStage) : (s.setStage x).pdm = s.pdm := rfl
@[simp] theorem State.setStage_tarn (s : State) (x : BootStage) : (s.setStage x).tarn = s.tarn := rfl
@[simp] theorem State.setStage_flash (s : State) (x : BootStage) : (s.setStage x).flash = s.flash := rfl
@[simp] theorem State.setStage_journal (s : State) (x : BootStage) : (s.setStage x).journal = s.journal := rfl
@[simp] theorem State.setStage_pending (s : State) (x : BootStage) : (s.setStage x).pending = s.pending := rfl
@[simp] theorem State.setStage_boot (s : State) (x : BootStage) : (s.setStage x).boot = { s.boot with stage := x } := rfl
@[simp] theorem State.setStage_rd (s : State) (x : BootStage) (z : Nat) : (s.setStage x).rd z = s.rd z := rfl
@[simp] theorem State.setStage_get (s : State) (x : BootStage) (z : Fld) : (s.setStage x).get z = s.get z := rfl
@[simp] theorem State.setStage_on (s : State) (x : BootStage) (z : Fld) : (s.setStage x).on z = s.on z := rfl

/-! ### editPdm -/

@[simp] theorem State.editPdm_part (s : State) (f : Pdm → Pdm) : (s.editPdm f).part = s.part := rfl
@[simp] theorem State.editPdm_regs (s : State) (f : Pdm → Pdm) : (s.editPdm f).regs = s.regs := rfl
@[simp] theorem State.editPdm_staged (s : State) (f : Pdm → Pdm) : (s.editPdm f).staged = s.staged := rfl
@[simp] theorem State.editPdm_host (s : State) (f : Pdm → Pdm) : (s.editPdm f).host = s.host := rfl
@[simp] theorem State.editPdm_boot (s : State) (f : Pdm → Pdm) : (s.editPdm f).boot = s.boot := rfl
@[simp] theorem State.editPdm_fw (s : State) (f : Pdm → Pdm) : (s.editPdm f).fw = s.fw := rfl
@[simp] theorem State.editPdm_mbx (s : State) (f : Pdm → Pdm) : (s.editPdm f).mbx = s.mbx := rfl
@[simp] theorem State.editPdm_time (s : State) (f : Pdm → Pdm) : (s.editPdm f).time = s.time := rfl
@[simp] theorem State.editPdm_evq (s : State) (f : Pdm → Pdm) : (s.editPdm f).evq = s.evq := rfl
@[simp] theorem State.editPdm_inst (s : State) (f : Pdm → Pdm) : (s.editPdm f).inst = s.inst := rfl
@[simp] theorem State.editPdm_cairn (s : State) (f : Pdm → Pdm) : (s.editPdm f).cairn = s.cairn := rfl
@[simp] theorem State.editPdm_links (s : State) (f : Pdm → Pdm) : (s.editPdm f).links = s.links := rfl
@[simp] theorem State.editPdm_tree (s : State) (f : Pdm → Pdm) : (s.editPdm f).tree = s.tree := rfl
@[simp] theorem State.editPdm_rings (s : State) (f : Pdm → Pdm) : (s.editPdm f).rings = s.rings := rfl
@[simp] theorem State.editPdm_alloc (s : State) (f : Pdm → Pdm) : (s.editPdm f).alloc = s.alloc := rfl
@[simp] theorem State.editPdm_pager (s : State) (f : Pdm → Pdm) : (s.editPdm f).pager = s.pager := rfl
@[simp] theorem State.editPdm_xfer (s : State) (f : Pdm → Pdm) : (s.editPdm f).xfer = s.xfer := rfl
@[simp] theorem State.editPdm_dma (s : State) (f : Pdm → Pdm) : (s.editPdm f).dma = s.dma := rfl
@[simp] theorem State.editPdm_scree (s : State) (f : Pdm → Pdm) : (s.editPdm f).scree = s.scree := rfl
@[simp] theorem State.editPdm_power (s : State) (f : Pdm → Pdm) : (s.editPdm f).power = s.power := rfl
@[simp] theorem State.editPdm_mains (s : State) (f : Pdm → Pdm) : (s.editPdm f).mains = s.mains := rfl
@[simp] theorem State.editPdm_red (s : State) (f : Pdm → Pdm) : (s.editPdm f).red = s.red := rfl
@[simp] theorem State.editPdm_pair (s : State) (f : Pdm → Pdm) : (s.editPdm f).pair = s.pair := rfl
@[simp] theorem State.editPdm_tarn (s : State) (f : Pdm → Pdm) : (s.editPdm f).tarn = s.tarn := rfl
@[simp] theorem State.editPdm_flash (s : State) (f : Pdm → Pdm) : (s.editPdm f).flash = s.flash := rfl
@[simp] theorem State.editPdm_journal (s : State) (f : Pdm → Pdm) : (s.editPdm f).journal = s.journal := rfl
@[simp] theorem State.editPdm_pending (s : State) (f : Pdm → Pdm) : (s.editPdm f).pending = s.pending := rfl
@[simp] theorem State.editPdm_pdm (s : State) (f : Pdm → Pdm) : (s.editPdm f).pdm = f s.pdm := rfl
@[simp] theorem State.editPdm_rd (s : State) (f : Pdm → Pdm) (z : Nat) : (s.editPdm f).rd z = s.rd z := rfl
@[simp] theorem State.editPdm_get (s : State) (f : Pdm → Pdm) (z : Fld) : (s.editPdm f).get z = s.get z := rfl
@[simp] theorem State.editPdm_on (s : State) (f : Pdm → Pdm) (z : Fld) : (s.editPdm f).on z = s.on z := rfl

/-! ### setTime -/

@[simp] theorem State.setTime_part (s : State) (t : Time) : (s.setTime t).part = s.part := rfl
@[simp] theorem State.setTime_regs (s : State) (t : Time) : (s.setTime t).regs = s.regs := rfl
@[simp] theorem State.setTime_staged (s : State) (t : Time) : (s.setTime t).staged = s.staged := rfl
@[simp] theorem State.setTime_host (s : State) (t : Time) : (s.setTime t).host = s.host := rfl
@[simp] theorem State.setTime_boot (s : State) (t : Time) : (s.setTime t).boot = s.boot := rfl
@[simp] theorem State.setTime_fw (s : State) (t : Time) : (s.setTime t).fw = s.fw := rfl
@[simp] theorem State.setTime_mbx (s : State) (t : Time) : (s.setTime t).mbx = s.mbx := rfl
@[simp] theorem State.setTime_evq (s : State) (t : Time) : (s.setTime t).evq = s.evq := rfl
@[simp] theorem State.setTime_inst (s : State) (t : Time) : (s.setTime t).inst = s.inst := rfl
@[simp] theorem State.setTime_cairn (s : State) (t : Time) : (s.setTime t).cairn = s.cairn := rfl
@[simp] theorem State.setTime_links (s : State) (t : Time) : (s.setTime t).links = s.links := rfl
@[simp] theorem State.setTime_tree (s : State) (t : Time) : (s.setTime t).tree = s.tree := rfl
@[simp] theorem State.setTime_rings (s : State) (t : Time) : (s.setTime t).rings = s.rings := rfl
@[simp] theorem State.setTime_alloc (s : State) (t : Time) : (s.setTime t).alloc = s.alloc := rfl
@[simp] theorem State.setTime_pager (s : State) (t : Time) : (s.setTime t).pager = s.pager := rfl
@[simp] theorem State.setTime_xfer (s : State) (t : Time) : (s.setTime t).xfer = s.xfer := rfl
@[simp] theorem State.setTime_dma (s : State) (t : Time) : (s.setTime t).dma = s.dma := rfl
@[simp] theorem State.setTime_scree (s : State) (t : Time) : (s.setTime t).scree = s.scree := rfl
@[simp] theorem State.setTime_power (s : State) (t : Time) : (s.setTime t).power = s.power := rfl
@[simp] theorem State.setTime_mains (s : State) (t : Time) : (s.setTime t).mains = s.mains := rfl
@[simp] theorem State.setTime_red (s : State) (t : Time) : (s.setTime t).red = s.red := rfl
@[simp] theorem State.setTime_pair (s : State) (t : Time) : (s.setTime t).pair = s.pair := rfl
@[simp] theorem State.setTime_pdm (s : State) (t : Time) : (s.setTime t).pdm = s.pdm := rfl
@[simp] theorem State.setTime_tarn (s : State) (t : Time) : (s.setTime t).tarn = s.tarn := rfl
@[simp] theorem State.setTime_flash (s : State) (t : Time) : (s.setTime t).flash = s.flash := rfl
@[simp] theorem State.setTime_journal (s : State) (t : Time) : (s.setTime t).journal = s.journal := rfl
@[simp] theorem State.setTime_pending (s : State) (t : Time) : (s.setTime t).pending = s.pending := rfl
@[simp] theorem State.setTime_time (s : State) (t : Time) : (s.setTime t).time = t := rfl
@[simp] theorem State.setTime_rd (s : State) (t : Time) (z : Nat) : (s.setTime t).rd z = s.rd z := rfl
@[simp] theorem State.setTime_get (s : State) (t : Time) (z : Fld) : (s.setTime t).get z = s.get z := rfl
@[simp] theorem State.setTime_on (s : State) (t : Time) (z : Fld) : (s.setTime t).on z = s.on z := rfl

/-! ### setDisc -/

@[simp] theorem State.setDisc_part (s : State) (d : Discipline) : (s.setDisc d).part = s.part := rfl
@[simp] theorem State.setDisc_regs (s : State) (d : Discipline) : (s.setDisc d).regs = s.regs := rfl
@[simp] theorem State.setDisc_staged (s : State) (d : Discipline) : (s.setDisc d).staged = s.staged := rfl
@[simp] theorem State.setDisc_host (s : State) (d : Discipline) : (s.setDisc d).host = s.host := rfl
@[simp] theorem State.setDisc_boot (s : State) (d : Discipline) : (s.setDisc d).boot = s.boot := rfl
@[simp] theorem State.setDisc_fw (s : State) (d : Discipline) : (s.setDisc d).fw = s.fw := rfl
@[simp] theorem State.setDisc_mbx (s : State) (d : Discipline) : (s.setDisc d).mbx = s.mbx := rfl
@[simp] theorem State.setDisc_evq (s : State) (d : Discipline) : (s.setDisc d).evq = s.evq := rfl
@[simp] theorem State.setDisc_inst (s : State) (d : Discipline) : (s.setDisc d).inst = s.inst := rfl
@[simp] theorem State.setDisc_cairn (s : State) (d : Discipline) : (s.setDisc d).cairn = s.cairn := rfl
@[simp] theorem State.setDisc_links (s : State) (d : Discipline) : (s.setDisc d).links = s.links := rfl
@[simp] theorem State.setDisc_tree (s : State) (d : Discipline) : (s.setDisc d).tree = s.tree := rfl
@[simp] theorem State.setDisc_rings (s : State) (d : Discipline) : (s.setDisc d).rings = s.rings := rfl
@[simp] theorem State.setDisc_alloc (s : State) (d : Discipline) : (s.setDisc d).alloc = s.alloc := rfl
@[simp] theorem State.setDisc_pager (s : State) (d : Discipline) : (s.setDisc d).pager = s.pager := rfl
@[simp] theorem State.setDisc_xfer (s : State) (d : Discipline) : (s.setDisc d).xfer = s.xfer := rfl
@[simp] theorem State.setDisc_dma (s : State) (d : Discipline) : (s.setDisc d).dma = s.dma := rfl
@[simp] theorem State.setDisc_scree (s : State) (d : Discipline) : (s.setDisc d).scree = s.scree := rfl
@[simp] theorem State.setDisc_power (s : State) (d : Discipline) : (s.setDisc d).power = s.power := rfl
@[simp] theorem State.setDisc_mains (s : State) (d : Discipline) : (s.setDisc d).mains = s.mains := rfl
@[simp] theorem State.setDisc_red (s : State) (d : Discipline) : (s.setDisc d).red = s.red := rfl
@[simp] theorem State.setDisc_pair (s : State) (d : Discipline) : (s.setDisc d).pair = s.pair := rfl
@[simp] theorem State.setDisc_pdm (s : State) (d : Discipline) : (s.setDisc d).pdm = s.pdm := rfl
@[simp] theorem State.setDisc_tarn (s : State) (d : Discipline) : (s.setDisc d).tarn = s.tarn := rfl
@[simp] theorem State.setDisc_flash (s : State) (d : Discipline) : (s.setDisc d).flash = s.flash := rfl
@[simp] theorem State.setDisc_journal (s : State) (d : Discipline) : (s.setDisc d).journal = s.journal := rfl
@[simp] theorem State.setDisc_pending (s : State) (d : Discipline) : (s.setDisc d).pending = s.pending := rfl
@[simp] theorem State.setDisc_time (s : State) (d : Discipline) : (s.setDisc d).time = { s.time with disc := d } := rfl
@[simp] theorem State.setDisc_rd (s : State) (d : Discipline) (z : Nat) : (s.setDisc d).rd z = s.rd z := rfl
@[simp] theorem State.setDisc_get (s : State) (d : Discipline) (z : Fld) : (s.setDisc d).get z = s.get z := rfl
@[simp] theorem State.setDisc_on (s : State) (d : Discipline) (z : Fld) : (s.setDisc d).on z = s.on z := rfl

/-! ### setRed -/

@[simp] theorem State.setRed_part (s : State) (r : Red) : (s.setRed r).part = s.part := rfl
@[simp] theorem State.setRed_regs (s : State) (r : Red) : (s.setRed r).regs = s.regs := rfl
@[simp] theorem State.setRed_staged (s : State) (r : Red) : (s.setRed r).staged = s.staged := rfl
@[simp] theorem State.setRed_host (s : State) (r : Red) : (s.setRed r).host = s.host := rfl
@[simp] theorem State.setRed_boot (s : State) (r : Red) : (s.setRed r).boot = s.boot := rfl
@[simp] theorem State.setRed_fw (s : State) (r : Red) : (s.setRed r).fw = s.fw := rfl
@[simp] theorem State.setRed_mbx (s : State) (r : Red) : (s.setRed r).mbx = s.mbx := rfl
@[simp] theorem State.setRed_time (s : State) (r : Red) : (s.setRed r).time = s.time := rfl
@[simp] theorem State.setRed_evq (s : State) (r : Red) : (s.setRed r).evq = s.evq := rfl
@[simp] theorem State.setRed_inst (s : State) (r : Red) : (s.setRed r).inst = s.inst := rfl
@[simp] theorem State.setRed_cairn (s : State) (r : Red) : (s.setRed r).cairn = s.cairn := rfl
@[simp] theorem State.setRed_links (s : State) (r : Red) : (s.setRed r).links = s.links := rfl
@[simp] theorem State.setRed_tree (s : State) (r : Red) : (s.setRed r).tree = s.tree := rfl
@[simp] theorem State.setRed_rings (s : State) (r : Red) : (s.setRed r).rings = s.rings := rfl
@[simp] theorem State.setRed_alloc (s : State) (r : Red) : (s.setRed r).alloc = s.alloc := rfl
@[simp] theorem State.setRed_pager (s : State) (r : Red) : (s.setRed r).pager = s.pager := rfl
@[simp] theorem State.setRed_xfer (s : State) (r : Red) : (s.setRed r).xfer = s.xfer := rfl
@[simp] theorem State.setRed_dma (s : State) (r : Red) : (s.setRed r).dma = s.dma := rfl
@[simp] theorem State.setRed_scree (s : State) (r : Red) : (s.setRed r).scree = s.scree := rfl
@[simp] theorem State.setRed_power (s : State) (r : Red) : (s.setRed r).power = s.power := rfl
@[simp] theorem State.setRed_mains (s : State) (r : Red) : (s.setRed r).mains = s.mains := rfl
@[simp] theorem State.setRed_pair (s : State) (r : Red) : (s.setRed r).pair = s.pair := rfl
@[simp] theorem State.setRed_pdm (s : State) (r : Red) : (s.setRed r).pdm = s.pdm := rfl
@[simp] theorem State.setRed_tarn (s : State) (r : Red) : (s.setRed r).tarn = s.tarn := rfl
@[simp] theorem State.setRed_flash (s : State) (r : Red) : (s.setRed r).flash = s.flash := rfl
@[simp] theorem State.setRed_journal (s : State) (r : Red) : (s.setRed r).journal = s.journal := rfl
@[simp] theorem State.setRed_pending (s : State) (r : Red) : (s.setRed r).pending = s.pending := rfl
@[simp] theorem State.setRed_red (s : State) (r : Red) : (s.setRed r).red = r := rfl
@[simp] theorem State.setRed_rd (s : State) (r : Red) (z : Nat) : (s.setRed r).rd z = s.rd z := rfl
@[simp] theorem State.setRed_get (s : State) (r : Red) (z : Fld) : (s.setRed r).get z = s.get z := rfl
@[simp] theorem State.setRed_on (s : State) (r : Red) (z : Fld) : (s.setRed r).on z = s.on z := rfl

/-! ### setMains -/

@[simp] theorem State.setMains_part (s : State) (m : Mains) : (s.setMains m).part = s.part := rfl
@[simp] theorem State.setMains_regs (s : State) (m : Mains) : (s.setMains m).regs = s.regs := rfl
@[simp] theorem State.setMains_staged (s : State) (m : Mains) : (s.setMains m).staged = s.staged := rfl
@[simp] theorem State.setMains_host (s : State) (m : Mains) : (s.setMains m).host = s.host := rfl
@[simp] theorem State.setMains_boot (s : State) (m : Mains) : (s.setMains m).boot = s.boot := rfl
@[simp] theorem State.setMains_fw (s : State) (m : Mains) : (s.setMains m).fw = s.fw := rfl
@[simp] theorem State.setMains_mbx (s : State) (m : Mains) : (s.setMains m).mbx = s.mbx := rfl
@[simp] theorem State.setMains_time (s : State) (m : Mains) : (s.setMains m).time = s.time := rfl
@[simp] theorem State.setMains_evq (s : State) (m : Mains) : (s.setMains m).evq = s.evq := rfl
@[simp] theorem State.setMains_inst (s : State) (m : Mains) : (s.setMains m).inst = s.inst := rfl
@[simp] theorem State.setMains_cairn (s : State) (m : Mains) : (s.setMains m).cairn = s.cairn := rfl
@[simp] theorem State.setMains_links (s : State) (m : Mains) : (s.setMains m).links = s.links := rfl
@[simp] theorem State.setMains_tree (s : State) (m : Mains) : (s.setMains m).tree = s.tree := rfl
@[simp] theorem State.setMains_rings (s : State) (m : Mains) : (s.setMains m).rings = s.rings := rfl
@[simp] theorem State.setMains_alloc (s : State) (m : Mains) : (s.setMains m).alloc = s.alloc := rfl
@[simp] theorem State.setMains_pager (s : State) (m : Mains) : (s.setMains m).pager = s.pager := rfl
@[simp] theorem State.setMains_xfer (s : State) (m : Mains) : (s.setMains m).xfer = s.xfer := rfl
@[simp] theorem State.setMains_dma (s : State) (m : Mains) : (s.setMains m).dma = s.dma := rfl
@[simp] theorem State.setMains_scree (s : State) (m : Mains) : (s.setMains m).scree = s.scree := rfl
@[simp] theorem State.setMains_power (s : State) (m : Mains) : (s.setMains m).power = s.power := rfl
@[simp] theorem State.setMains_red (s : State) (m : Mains) : (s.setMains m).red = s.red := rfl
@[simp] theorem State.setMains_pair (s : State) (m : Mains) : (s.setMains m).pair = s.pair := rfl
@[simp] theorem State.setMains_pdm (s : State) (m : Mains) : (s.setMains m).pdm = s.pdm := rfl
@[simp] theorem State.setMains_tarn (s : State) (m : Mains) : (s.setMains m).tarn = s.tarn := rfl
@[simp] theorem State.setMains_flash (s : State) (m : Mains) : (s.setMains m).flash = s.flash := rfl
@[simp] theorem State.setMains_journal (s : State) (m : Mains) : (s.setMains m).journal = s.journal := rfl
@[simp] theorem State.setMains_pending (s : State) (m : Mains) : (s.setMains m).pending = s.pending := rfl
@[simp] theorem State.setMains_mains (s : State) (m : Mains) : (s.setMains m).mains = m := rfl
@[simp] theorem State.setMains_rd (s : State) (m : Mains) (z : Nat) : (s.setMains m).rd z = s.rd z := rfl
@[simp] theorem State.setMains_get (s : State) (m : Mains) (z : Fld) : (s.setMains m).get z = s.get z := rfl
@[simp] theorem State.setMains_on (s : State) (m : Mains) (z : Fld) : (s.setMains m).on z = s.on z := rfl

/-! ### editPair -/

@[simp] theorem State.editPair_part (s : State) (f : Pair → Pair) : (s.editPair f).part = s.part := rfl
@[simp] theorem State.editPair_regs (s : State) (f : Pair → Pair) : (s.editPair f).regs = s.regs := rfl
@[simp] theorem State.editPair_staged (s : State) (f : Pair → Pair) : (s.editPair f).staged = s.staged := rfl
@[simp] theorem State.editPair_host (s : State) (f : Pair → Pair) : (s.editPair f).host = s.host := rfl
@[simp] theorem State.editPair_boot (s : State) (f : Pair → Pair) : (s.editPair f).boot = s.boot := rfl
@[simp] theorem State.editPair_fw (s : State) (f : Pair → Pair) : (s.editPair f).fw = s.fw := rfl
@[simp] theorem State.editPair_mbx (s : State) (f : Pair → Pair) : (s.editPair f).mbx = s.mbx := rfl
@[simp] theorem State.editPair_time (s : State) (f : Pair → Pair) : (s.editPair f).time = s.time := rfl
@[simp] theorem State.editPair_evq (s : State) (f : Pair → Pair) : (s.editPair f).evq = s.evq := rfl
@[simp] theorem State.editPair_inst (s : State) (f : Pair → Pair) : (s.editPair f).inst = s.inst := rfl
@[simp] theorem State.editPair_cairn (s : State) (f : Pair → Pair) : (s.editPair f).cairn = s.cairn := rfl
@[simp] theorem State.editPair_links (s : State) (f : Pair → Pair) : (s.editPair f).links = s.links := rfl
@[simp] theorem State.editPair_tree (s : State) (f : Pair → Pair) : (s.editPair f).tree = s.tree := rfl
@[simp] theorem State.editPair_rings (s : State) (f : Pair → Pair) : (s.editPair f).rings = s.rings := rfl
@[simp] theorem State.editPair_alloc (s : State) (f : Pair → Pair) : (s.editPair f).alloc = s.alloc := rfl
@[simp] theorem State.editPair_pager (s : State) (f : Pair → Pair) : (s.editPair f).pager = s.pager := rfl
@[simp] theorem State.editPair_xfer (s : State) (f : Pair → Pair) : (s.editPair f).xfer = s.xfer := rfl
@[simp] theorem State.editPair_dma (s : State) (f : Pair → Pair) : (s.editPair f).dma = s.dma := rfl
@[simp] theorem State.editPair_scree (s : State) (f : Pair → Pair) : (s.editPair f).scree = s.scree := rfl
@[simp] theorem State.editPair_power (s : State) (f : Pair → Pair) : (s.editPair f).power = s.power := rfl
@[simp] theorem State.editPair_mains (s : State) (f : Pair → Pair) : (s.editPair f).mains = s.mains := rfl
@[simp] theorem State.editPair_red (s : State) (f : Pair → Pair) : (s.editPair f).red = s.red := rfl
@[simp] theorem State.editPair_pdm (s : State) (f : Pair → Pair) : (s.editPair f).pdm = s.pdm := rfl
@[simp] theorem State.editPair_tarn (s : State) (f : Pair → Pair) : (s.editPair f).tarn = s.tarn := rfl
@[simp] theorem State.editPair_flash (s : State) (f : Pair → Pair) : (s.editPair f).flash = s.flash := rfl
@[simp] theorem State.editPair_journal (s : State) (f : Pair → Pair) : (s.editPair f).journal = s.journal := rfl
@[simp] theorem State.editPair_pending (s : State) (f : Pair → Pair) : (s.editPair f).pending = s.pending := rfl
@[simp] theorem State.editPair_pair (s : State) (f : Pair → Pair) : (s.editPair f).pair = f s.pair := rfl
@[simp] theorem State.editPair_rd (s : State) (f : Pair → Pair) (z : Nat) : (s.editPair f).rd z = s.rd z := rfl
@[simp] theorem State.editPair_get (s : State) (f : Pair → Pair) (z : Fld) : (s.editPair f).get z = s.get z := rfl
@[simp] theorem State.editPair_on (s : State) (f : Pair → Pair) (z : Fld) : (s.editPair f).on z = s.on z := rfl

/-! ### editDm -/

@[simp] theorem State.editDm_part (s : State) (f : DevMode → DevMode) : (s.editDm f).part = s.part := rfl
@[simp] theorem State.editDm_regs (s : State) (f : DevMode → DevMode) : (s.editDm f).regs = s.regs := rfl
@[simp] theorem State.editDm_staged (s : State) (f : DevMode → DevMode) : (s.editDm f).staged = s.staged := rfl
@[simp] theorem State.editDm_host (s : State) (f : DevMode → DevMode) : (s.editDm f).host = s.host := rfl
@[simp] theorem State.editDm_boot (s : State) (f : DevMode → DevMode) : (s.editDm f).boot = s.boot := rfl
@[simp] theorem State.editDm_fw (s : State) (f : DevMode → DevMode) : (s.editDm f).fw = s.fw := rfl
@[simp] theorem State.editDm_mbx (s : State) (f : DevMode → DevMode) : (s.editDm f).mbx = s.mbx := rfl
@[simp] theorem State.editDm_time (s : State) (f : DevMode → DevMode) : (s.editDm f).time = s.time := rfl
@[simp] theorem State.editDm_evq (s : State) (f : DevMode → DevMode) : (s.editDm f).evq = s.evq := rfl
@[simp] theorem State.editDm_inst (s : State) (f : DevMode → DevMode) : (s.editDm f).inst = s.inst := rfl
@[simp] theorem State.editDm_cairn (s : State) (f : DevMode → DevMode) : (s.editDm f).cairn = s.cairn := rfl
@[simp] theorem State.editDm_links (s : State) (f : DevMode → DevMode) : (s.editDm f).links = s.links := rfl
@[simp] theorem State.editDm_rings (s : State) (f : DevMode → DevMode) : (s.editDm f).rings = s.rings := rfl
@[simp] theorem State.editDm_alloc (s : State) (f : DevMode → DevMode) : (s.editDm f).alloc = s.alloc := rfl
@[simp] theorem State.editDm_pager (s : State) (f : DevMode → DevMode) : (s.editDm f).pager = s.pager := rfl
@[simp] theorem State.editDm_xfer (s : State) (f : DevMode → DevMode) : (s.editDm f).xfer = s.xfer := rfl
@[simp] theorem State.editDm_dma (s : State) (f : DevMode → DevMode) : (s.editDm f).dma = s.dma := rfl
@[simp] theorem State.editDm_scree (s : State) (f : DevMode → DevMode) : (s.editDm f).scree = s.scree := rfl
@[simp] theorem State.editDm_power (s : State) (f : DevMode → DevMode) : (s.editDm f).power = s.power := rfl
@[simp] theorem State.editDm_mains (s : State) (f : DevMode → DevMode) : (s.editDm f).mains = s.mains := rfl
@[simp] theorem State.editDm_red (s : State) (f : DevMode → DevMode) : (s.editDm f).red = s.red := rfl
@[simp] theorem State.editDm_pair (s : State) (f : DevMode → DevMode) : (s.editDm f).pair = s.pair := rfl
@[simp] theorem State.editDm_pdm (s : State) (f : DevMode → DevMode) : (s.editDm f).pdm = s.pdm := rfl
@[simp] theorem State.editDm_tarn (s : State) (f : DevMode → DevMode) : (s.editDm f).tarn = s.tarn := rfl
@[simp] theorem State.editDm_flash (s : State) (f : DevMode → DevMode) : (s.editDm f).flash = s.flash := rfl
@[simp] theorem State.editDm_journal (s : State) (f : DevMode → DevMode) : (s.editDm f).journal = s.journal := rfl
@[simp] theorem State.editDm_pending (s : State) (f : DevMode → DevMode) : (s.editDm f).pending = s.pending := rfl
@[simp] theorem State.editDm_tree (s : State) (f : DevMode → DevMode) : (s.editDm f).tree = { s.tree with dm := f s.tree.dm } := rfl
@[simp] theorem State.editDm_rd (s : State) (f : DevMode → DevMode) (z : Nat) : (s.editDm f).rd z = s.rd z := rfl
@[simp] theorem State.editDm_get (s : State) (f : DevMode → DevMode) (z : Fld) : (s.editDm f).get z = s.get z := rfl
@[simp] theorem State.editDm_on (s : State) (f : DevMode → DevMode) (z : Fld) : (s.editDm f).on z = s.on z := rfl

/-! ### editPp -/

@[simp] theorem State.editPp_part (s : State) (p : Nat) (f : PortPow → PortPow) : (s.editPp p f).part = s.part := rfl
@[simp] theorem State.editPp_regs (s : State) (p : Nat) (f : PortPow → PortPow) : (s.editPp p f).regs = s.regs := rfl
@[simp] theorem State.editPp_staged (s : State) (p : Nat) (f : PortPow → PortPow) : (s.editPp p f).staged = s.staged := rfl
@[simp] theorem State.editPp_host (s : State) (p : Nat) (f : PortPow → PortPow) : (s.editPp p f).host = s.host := rfl
@[simp] theorem State.editPp_boot (s : State) (p : Nat) (f : PortPow → PortPow) : (s.editPp p f).boot = s.boot := rfl
@[simp] theorem State.editPp_fw (s : State) (p : Nat) (f : PortPow → PortPow) : (s.editPp p f).fw = s.fw := rfl
@[simp] theorem State.editPp_mbx (s : State) (p : Nat) (f : PortPow → PortPow) : (s.editPp p f).mbx = s.mbx := rfl
@[simp] theorem State.editPp_time (s : State) (p : Nat) (f : PortPow → PortPow) : (s.editPp p f).time = s.time := rfl
@[simp] theorem State.editPp_evq (s : State) (p : Nat) (f : PortPow → PortPow) : (s.editPp p f).evq = s.evq := rfl
@[simp] theorem State.editPp_inst (s : State) (p : Nat) (f : PortPow → PortPow) : (s.editPp p f).inst = s.inst := rfl
@[simp] theorem State.editPp_cairn (s : State) (p : Nat) (f : PortPow → PortPow) : (s.editPp p f).cairn = s.cairn := rfl
@[simp] theorem State.editPp_links (s : State) (p : Nat) (f : PortPow → PortPow) : (s.editPp p f).links = s.links := rfl
@[simp] theorem State.editPp_tree (s : State) (p : Nat) (f : PortPow → PortPow) : (s.editPp p f).tree = s.tree := rfl
@[simp] theorem State.editPp_rings (s : State) (p : Nat) (f : PortPow → PortPow) : (s.editPp p f).rings = s.rings := rfl
@[simp] theorem State.editPp_alloc (s : State) (p : Nat) (f : PortPow → PortPow) : (s.editPp p f).alloc = s.alloc := rfl
@[simp] theorem State.editPp_pager (s : State) (p : Nat) (f : PortPow → PortPow) : (s.editPp p f).pager = s.pager := rfl
@[simp] theorem State.editPp_xfer (s : State) (p : Nat) (f : PortPow → PortPow) : (s.editPp p f).xfer = s.xfer := rfl
@[simp] theorem State.editPp_dma (s : State) (p : Nat) (f : PortPow → PortPow) : (s.editPp p f).dma = s.dma := rfl
@[simp] theorem State.editPp_scree (s : State) (p : Nat) (f : PortPow → PortPow) : (s.editPp p f).scree = s.scree := rfl
@[simp] theorem State.editPp_mains (s : State) (p : Nat) (f : PortPow → PortPow) : (s.editPp p f).mains = s.mains := rfl
@[simp] theorem State.editPp_red (s : State) (p : Nat) (f : PortPow → PortPow) : (s.editPp p f).red = s.red := rfl
@[simp] theorem State.editPp_pair (s : State) (p : Nat) (f : PortPow → PortPow) : (s.editPp p f).pair = s.pair := rfl
@[simp] theorem State.editPp_pdm (s : State) (p : Nat) (f : PortPow → PortPow) : (s.editPp p f).pdm = s.pdm := rfl
@[simp] theorem State.editPp_tarn (s : State) (p : Nat) (f : PortPow → PortPow) : (s.editPp p f).tarn = s.tarn := rfl
@[simp] theorem State.editPp_flash (s : State) (p : Nat) (f : PortPow → PortPow) : (s.editPp p f).flash = s.flash := rfl
@[simp] theorem State.editPp_journal (s : State) (p : Nat) (f : PortPow → PortPow) : (s.editPp p f).journal = s.journal := rfl
@[simp] theorem State.editPp_pending (s : State) (p : Nat) (f : PortPow → PortPow) : (s.editPp p f).pending = s.pending := rfl
@[simp] theorem State.editPp_power (s : State) (p : Nat) (f : PortPow → PortPow) : (s.editPp p f).power = { s.power with tab := SMap.put PortPow.reset p (f (s.pp p)) s.power.tab } := rfl
@[simp] theorem State.editPp_rd (s : State) (p : Nat) (f : PortPow → PortPow) (z : Nat) : (s.editPp p f).rd z = s.rd z := rfl
@[simp] theorem State.editPp_get (s : State) (p : Nat) (f : PortPow → PortPow) (z : Fld) : (s.editPp p f).get z = s.get z := rfl
@[simp] theorem State.editPp_on (s : State) (p : Nat) (f : PortPow → PortPow) (z : Fld) : (s.editPp p f).on z = s.on z := rfl

/-! ### putDev -/

@[simp] theorem State.putDev_part (s : State) (a : Nat) (d : Option Device) : (s.putDev a d).part = s.part := rfl
@[simp] theorem State.putDev_regs (s : State) (a : Nat) (d : Option Device) : (s.putDev a d).regs = s.regs := rfl
@[simp] theorem State.putDev_staged (s : State) (a : Nat) (d : Option Device) : (s.putDev a d).staged = s.staged := rfl
@[simp] theorem State.putDev_host (s : State) (a : Nat) (d : Option Device) : (s.putDev a d).host = s.host := rfl
@[simp] theorem State.putDev_boot (s : State) (a : Nat) (d : Option Device) : (s.putDev a d).boot = s.boot := rfl
@[simp] theorem State.putDev_fw (s : State) (a : Nat) (d : Option Device) : (s.putDev a d).fw = s.fw := rfl
@[simp] theorem State.putDev_mbx (s : State) (a : Nat) (d : Option Device) : (s.putDev a d).mbx = s.mbx := rfl
@[simp] theorem State.putDev_time (s : State) (a : Nat) (d : Option Device) : (s.putDev a d).time = s.time := rfl
@[simp] theorem State.putDev_evq (s : State) (a : Nat) (d : Option Device) : (s.putDev a d).evq = s.evq := rfl
@[simp] theorem State.putDev_inst (s : State) (a : Nat) (d : Option Device) : (s.putDev a d).inst = s.inst := rfl
@[simp] theorem State.putDev_cairn (s : State) (a : Nat) (d : Option Device) : (s.putDev a d).cairn = s.cairn := rfl
@[simp] theorem State.putDev_links (s : State) (a : Nat) (d : Option Device) : (s.putDev a d).links = s.links := rfl
@[simp] theorem State.putDev_rings (s : State) (a : Nat) (d : Option Device) : (s.putDev a d).rings = s.rings := rfl
@[simp] theorem State.putDev_alloc (s : State) (a : Nat) (d : Option Device) : (s.putDev a d).alloc = s.alloc := rfl
@[simp] theorem State.putDev_pager (s : State) (a : Nat) (d : Option Device) : (s.putDev a d).pager = s.pager := rfl
@[simp] theorem State.putDev_xfer (s : State) (a : Nat) (d : Option Device) : (s.putDev a d).xfer = s.xfer := rfl
@[simp] theorem State.putDev_dma (s : State) (a : Nat) (d : Option Device) : (s.putDev a d).dma = s.dma := rfl
@[simp] theorem State.putDev_scree (s : State) (a : Nat) (d : Option Device) : (s.putDev a d).scree = s.scree := rfl
@[simp] theorem State.putDev_power (s : State) (a : Nat) (d : Option Device) : (s.putDev a d).power = s.power := rfl
@[simp] theorem State.putDev_mains (s : State) (a : Nat) (d : Option Device) : (s.putDev a d).mains = s.mains := rfl
@[simp] theorem State.putDev_red (s : State) (a : Nat) (d : Option Device) : (s.putDev a d).red = s.red := rfl
@[simp] theorem State.putDev_pair (s : State) (a : Nat) (d : Option Device) : (s.putDev a d).pair = s.pair := rfl
@[simp] theorem State.putDev_pdm (s : State) (a : Nat) (d : Option Device) : (s.putDev a d).pdm = s.pdm := rfl
@[simp] theorem State.putDev_tarn (s : State) (a : Nat) (d : Option Device) : (s.putDev a d).tarn = s.tarn := rfl
@[simp] theorem State.putDev_flash (s : State) (a : Nat) (d : Option Device) : (s.putDev a d).flash = s.flash := rfl
@[simp] theorem State.putDev_journal (s : State) (a : Nat) (d : Option Device) : (s.putDev a d).journal = s.journal := rfl
@[simp] theorem State.putDev_pending (s : State) (a : Nat) (d : Option Device) : (s.putDev a d).pending = s.pending := rfl
@[simp] theorem State.putDev_tree (s : State) (a : Nat) (d : Option Device) : (s.putDev a d).tree = { s.tree with devs := SMap.put (fun _ => none) a d s.tree.devs } := rfl
@[simp] theorem State.putDev_rd (s : State) (a : Nat) (d : Option Device) (z : Nat) : (s.putDev a d).rd z = s.rd z := rfl
@[simp] theorem State.putDev_get (s : State) (a : Nat) (d : Option Device) (z : Fld) : (s.putDev a d).get z = s.get z := rfl
@[simp] theorem State.putDev_on (s : State) (a : Nat) (d : Option Device) (z : Fld) : (s.putDev a d).on z = s.on z := rfl

/-! ### putEntry -/

@[simp] theorem State.putEntry_part (s : State) (i e : Nat) (x : Option Entry) : (s.putEntry i e x).part = s.part := rfl
@[simp] theorem State.putEntry_regs (s : State) (i e : Nat) (x : Option Entry) : (s.putEntry i e x).regs = s.regs := rfl
@[simp] theorem State.putEntry_staged (s : State) (i e : Nat) (x : Option Entry) : (s.putEntry i e x).staged = s.staged := rfl
@[simp] theorem State.putEntry_host (s : State) (i e : Nat) (x : Option Entry) : (s.putEntry i e x).host = s.host := rfl
@[simp] theorem State.putEntry_boot (s : State) (i e : Nat) (x : Option Entry) : (s.putEntry i e x).boot = s.boot := rfl
@[simp] theorem State.putEntry_fw (s : State) (i e : Nat) (x : Option Entry) : (s.putEntry i e x).fw = s.fw := rfl
@[simp] theorem State.putEntry_mbx (s : State) (i e : Nat) (x : Option Entry) : (s.putEntry i e x).mbx = s.mbx := rfl
@[simp] theorem State.putEntry_time (s : State) (i e : Nat) (x : Option Entry) : (s.putEntry i e x).time = s.time := rfl
@[simp] theorem State.putEntry_evq (s : State) (i e : Nat) (x : Option Entry) : (s.putEntry i e x).evq = s.evq := rfl
@[simp] theorem State.putEntry_inst (s : State) (i e : Nat) (x : Option Entry) : (s.putEntry i e x).inst = s.inst := rfl
@[simp] theorem State.putEntry_cairn (s : State) (i e : Nat) (x : Option Entry) : (s.putEntry i e x).cairn = s.cairn := rfl
@[simp] theorem State.putEntry_links (s : State) (i e : Nat) (x : Option Entry) : (s.putEntry i e x).links = s.links := rfl
@[simp] theorem State.putEntry_tree (s : State) (i e : Nat) (x : Option Entry) : (s.putEntry i e x).tree = s.tree := rfl
@[simp] theorem State.putEntry_alloc (s : State) (i e : Nat) (x : Option Entry) : (s.putEntry i e x).alloc = s.alloc := rfl
@[simp] theorem State.putEntry_pager (s : State) (i e : Nat) (x : Option Entry) : (s.putEntry i e x).pager = s.pager := rfl
@[simp] theorem State.putEntry_xfer (s : State) (i e : Nat) (x : Option Entry) : (s.putEntry i e x).xfer = s.xfer := rfl
@[simp] theorem State.putEntry_dma (s : State) (i e : Nat) (x : Option Entry) : (s.putEntry i e x).dma = s.dma := rfl
@[simp] theorem State.putEntry_scree (s : State) (i e : Nat) (x : Option Entry) : (s.putEntry i e x).scree = s.scree := rfl
@[simp] theorem State.putEntry_power (s : State) (i e : Nat) (x : Option Entry) : (s.putEntry i e x).power = s.power := rfl
@[simp] theorem State.putEntry_mains (s : State) (i e : Nat) (x : Option Entry) : (s.putEntry i e x).mains = s.mains := rfl
@[simp] theorem State.putEntry_red (s : State) (i e : Nat) (x : Option Entry) : (s.putEntry i e x).red = s.red := rfl
@[simp] theorem State.putEntry_pair (s : State) (i e : Nat) (x : Option Entry) : (s.putEntry i e x).pair = s.pair := rfl
@[simp] theorem State.putEntry_pdm (s : State) (i e : Nat) (x : Option Entry) : (s.putEntry i e x).pdm = s.pdm := rfl
@[simp] theorem State.putEntry_tarn (s : State) (i e : Nat) (x : Option Entry) : (s.putEntry i e x).tarn = s.tarn := rfl
@[simp] theorem State.putEntry_flash (s : State) (i e : Nat) (x : Option Entry) : (s.putEntry i e x).flash = s.flash := rfl
@[simp] theorem State.putEntry_journal (s : State) (i e : Nat) (x : Option Entry) : (s.putEntry i e x).journal = s.journal := rfl
@[simp] theorem State.putEntry_pending (s : State) (i e : Nat) (x : Option Entry) : (s.putEntry i e x).pending = s.pending := rfl
@[simp] theorem State.putEntry_rings (s : State) (i e : Nat) (x : Option Entry) : (s.putEntry i e x).rings = { s.rings with tab := SMap.put (fun _ => none) (entKey i e) x s.rings.tab } := rfl
@[simp] theorem State.putEntry_rd (s : State) (i e : Nat) (x : Option Entry) (z : Nat) : (s.putEntry i e x).rd z = s.rd z := rfl
@[simp] theorem State.putEntry_get (s : State) (i e : Nat) (x : Option Entry) (z : Fld) : (s.putEntry i e x).get z = s.get z := rfl
@[simp] theorem State.putEntry_on (s : State) (i e : Nat) (x : Option Entry) (z : Fld) : (s.putEntry i e x).on z = s.on z := rfl

/-! ### putCh -/

@[simp] theorem State.putCh_part (s : State) (n : Nat) (c : DmaCh) : (s.putCh n c).part = s.part := rfl
@[simp] theorem State.putCh_regs (s : State) (n : Nat) (c : DmaCh) : (s.putCh n c).regs = s.regs := rfl
@[simp] theorem State.putCh_staged (s : State) (n : Nat) (c : DmaCh) : (s.putCh n c).staged = s.staged := rfl
@[simp] theorem State.putCh_host (s : State) (n : Nat) (c : DmaCh) : (s.putCh n c).host = s.host := rfl
@[simp] theorem State.putCh_boot (s : State) (n : Nat) (c : DmaCh) : (s.putCh n c).boot = s.boot := rfl
@[simp] theorem State.putCh_fw (s : State) (n : Nat) (c : DmaCh) : (s.putCh n c).fw = s.fw := rfl
@[simp] theorem State.putCh_mbx (s : State) (n : Nat) (c : DmaCh) : (s.putCh n c).mbx = s.mbx := rfl
@[simp] theorem State.putCh_time (s : State) (n : Nat) (c : DmaCh) : (s.putCh n c).time = s.time := rfl
@[simp] theorem State.putCh_evq (s : State) (n : Nat) (c : DmaCh) : (s.putCh n c).evq = s.evq := rfl
@[simp] theorem State.putCh_inst (s : State) (n : Nat) (c : DmaCh) : (s.putCh n c).inst = s.inst := rfl
@[simp] theorem State.putCh_cairn (s : State) (n : Nat) (c : DmaCh) : (s.putCh n c).cairn = s.cairn := rfl
@[simp] theorem State.putCh_links (s : State) (n : Nat) (c : DmaCh) : (s.putCh n c).links = s.links := rfl
@[simp] theorem State.putCh_tree (s : State) (n : Nat) (c : DmaCh) : (s.putCh n c).tree = s.tree := rfl
@[simp] theorem State.putCh_rings (s : State) (n : Nat) (c : DmaCh) : (s.putCh n c).rings = s.rings := rfl
@[simp] theorem State.putCh_alloc (s : State) (n : Nat) (c : DmaCh) : (s.putCh n c).alloc = s.alloc := rfl
@[simp] theorem State.putCh_pager (s : State) (n : Nat) (c : DmaCh) : (s.putCh n c).pager = s.pager := rfl
@[simp] theorem State.putCh_xfer (s : State) (n : Nat) (c : DmaCh) : (s.putCh n c).xfer = s.xfer := rfl
@[simp] theorem State.putCh_scree (s : State) (n : Nat) (c : DmaCh) : (s.putCh n c).scree = s.scree := rfl
@[simp] theorem State.putCh_power (s : State) (n : Nat) (c : DmaCh) : (s.putCh n c).power = s.power := rfl
@[simp] theorem State.putCh_mains (s : State) (n : Nat) (c : DmaCh) : (s.putCh n c).mains = s.mains := rfl
@[simp] theorem State.putCh_red (s : State) (n : Nat) (c : DmaCh) : (s.putCh n c).red = s.red := rfl
@[simp] theorem State.putCh_pair (s : State) (n : Nat) (c : DmaCh) : (s.putCh n c).pair = s.pair := rfl
@[simp] theorem State.putCh_pdm (s : State) (n : Nat) (c : DmaCh) : (s.putCh n c).pdm = s.pdm := rfl
@[simp] theorem State.putCh_tarn (s : State) (n : Nat) (c : DmaCh) : (s.putCh n c).tarn = s.tarn := rfl
@[simp] theorem State.putCh_flash (s : State) (n : Nat) (c : DmaCh) : (s.putCh n c).flash = s.flash := rfl
@[simp] theorem State.putCh_journal (s : State) (n : Nat) (c : DmaCh) : (s.putCh n c).journal = s.journal := rfl
@[simp] theorem State.putCh_pending (s : State) (n : Nat) (c : DmaCh) : (s.putCh n c).pending = s.pending := rfl
@[simp] theorem State.putCh_dma (s : State) (n : Nat) (c : DmaCh) : (s.putCh n c).dma = SMap.put DmaCh.reset n c s.dma := rfl
@[simp] theorem State.putCh_rd (s : State) (n : Nat) (c : DmaCh) (z : Nat) : (s.putCh n c).rd z = s.rd z := rfl
@[simp] theorem State.putCh_get (s : State) (n : Nat) (c : DmaCh) (z : Fld) : (s.putCh n c).get z = s.get z := rfl
@[simp] theorem State.putCh_on (s : State) (n : Nat) (c : DmaCh) (z : Fld) : (s.putCh n c).on z = s.on z := rfl

/-! ### putCtxEnt -/

@[simp] theorem State.putCtxEnt_part (s : State) (k : Nat) (c : Option CtxEnt) : (s.putCtxEnt k c).part = s.part := rfl
@[simp] theorem State.putCtxEnt_regs (s : State) (k : Nat) (c : Option CtxEnt) : (s.putCtxEnt k c).regs = s.regs := rfl
@[simp] theorem State.putCtxEnt_staged (s : State) (k : Nat) (c : Option CtxEnt) : (s.putCtxEnt k c).staged = s.staged := rfl
@[simp] theorem State.putCtxEnt_host (s : State) (k : Nat) (c : Option CtxEnt) : (s.putCtxEnt k c).host = s.host := rfl
@[simp] theorem State.putCtxEnt_boot (s : State) (k : Nat) (c : Option CtxEnt) : (s.putCtxEnt k c).boot = s.boot := rfl
@[simp] theorem State.putCtxEnt_fw (s : State) (k : Nat) (c : Option CtxEnt) : (s.putCtxEnt k c).fw = s.fw := rfl
@[simp] theorem State.putCtxEnt_mbx (s : State) (k : Nat) (c : Option CtxEnt) : (s.putCtxEnt k c).mbx = s.mbx := rfl
@[simp] theorem State.putCtxEnt_time (s : State) (k : Nat) (c : Option CtxEnt) : (s.putCtxEnt k c).time = s.time := rfl
@[simp] theorem State.putCtxEnt_evq (s : State) (k : Nat) (c : Option CtxEnt) : (s.putCtxEnt k c).evq = s.evq := rfl
@[simp] theorem State.putCtxEnt_inst (s : State) (k : Nat) (c : Option CtxEnt) : (s.putCtxEnt k c).inst = s.inst := rfl
@[simp] theorem State.putCtxEnt_cairn (s : State) (k : Nat) (c : Option CtxEnt) : (s.putCtxEnt k c).cairn = s.cairn := rfl
@[simp] theorem State.putCtxEnt_links (s : State) (k : Nat) (c : Option CtxEnt) : (s.putCtxEnt k c).links = s.links := rfl
@[simp] theorem State.putCtxEnt_tree (s : State) (k : Nat) (c : Option CtxEnt) : (s.putCtxEnt k c).tree = s.tree := rfl
@[simp] theorem State.putCtxEnt_rings (s : State) (k : Nat) (c : Option CtxEnt) : (s.putCtxEnt k c).rings = s.rings := rfl
@[simp] theorem State.putCtxEnt_alloc (s : State) (k : Nat) (c : Option CtxEnt) : (s.putCtxEnt k c).alloc = s.alloc := rfl
@[simp] theorem State.putCtxEnt_xfer (s : State) (k : Nat) (c : Option CtxEnt) : (s.putCtxEnt k c).xfer = s.xfer := rfl
@[simp] theorem State.putCtxEnt_dma (s : State) (k : Nat) (c : Option CtxEnt) : (s.putCtxEnt k c).dma = s.dma := rfl
@[simp] theorem State.putCtxEnt_scree (s : State) (k : Nat) (c : Option CtxEnt) : (s.putCtxEnt k c).scree = s.scree := rfl
@[simp] theorem State.putCtxEnt_power (s : State) (k : Nat) (c : Option CtxEnt) : (s.putCtxEnt k c).power = s.power := rfl
@[simp] theorem State.putCtxEnt_mains (s : State) (k : Nat) (c : Option CtxEnt) : (s.putCtxEnt k c).mains = s.mains := rfl
@[simp] theorem State.putCtxEnt_red (s : State) (k : Nat) (c : Option CtxEnt) : (s.putCtxEnt k c).red = s.red := rfl
@[simp] theorem State.putCtxEnt_pair (s : State) (k : Nat) (c : Option CtxEnt) : (s.putCtxEnt k c).pair = s.pair := rfl
@[simp] theorem State.putCtxEnt_pdm (s : State) (k : Nat) (c : Option CtxEnt) : (s.putCtxEnt k c).pdm = s.pdm := rfl
@[simp] theorem State.putCtxEnt_tarn (s : State) (k : Nat) (c : Option CtxEnt) : (s.putCtxEnt k c).tarn = s.tarn := rfl
@[simp] theorem State.putCtxEnt_flash (s : State) (k : Nat) (c : Option CtxEnt) : (s.putCtxEnt k c).flash = s.flash := rfl
@[simp] theorem State.putCtxEnt_journal (s : State) (k : Nat) (c : Option CtxEnt) : (s.putCtxEnt k c).journal = s.journal := rfl
@[simp] theorem State.putCtxEnt_pending (s : State) (k : Nat) (c : Option CtxEnt) : (s.putCtxEnt k c).pending = s.pending := rfl
@[simp] theorem State.putCtxEnt_pager (s : State) (k : Nat) (c : Option CtxEnt) : (s.putCtxEnt k c).pager = { s.pager with ctxs := SMap.put (fun _ => none) k c s.pager.ctxs } := rfl
@[simp] theorem State.putCtxEnt_rd (s : State) (k : Nat) (c : Option CtxEnt) (z : Nat) : (s.putCtxEnt k c).rd z = s.rd z := rfl
@[simp] theorem State.putCtxEnt_get (s : State) (k : Nat) (c : Option CtxEnt) (z : Fld) : (s.putCtxEnt k c).get z = s.get z := rfl
@[simp] theorem State.putCtxEnt_on (s : State) (k : Nat) (c : Option CtxEnt) (z : Fld) : (s.putCtxEnt k c).on z = s.on z := rfl

/-! ### editLp -/

@[simp] theorem State.editLp_part (s : State) (p : Nat) (f : LinkPort → LinkPort) : (s.editLp p f).part = s.part := rfl
@[simp] theorem State.editLp_regs (s : State) (p : Nat) (f : LinkPort → LinkPort) : (s.editLp p f).regs = s.regs := rfl
@[simp] theorem State.editLp_staged (s : State) (p : Nat) (f : LinkPort → LinkPort) : (s.editLp p f).staged = s.staged := rfl
@[simp] theorem State.editLp_host (s : State) (p : Nat) (f : LinkPort → LinkPort) : (s.editLp p f).host = s.host := rfl
@[simp] theorem State.editLp_boot (s : State) (p : Nat) (f : LinkPort → LinkPort) : (s.editLp p f).boot = s.boot := rfl
@[simp] theorem State.editLp_fw (s : State) (p : Nat) (f : LinkPort → LinkPort) : (s.editLp p f).fw = s.fw := rfl
@[simp] theorem State.editLp_mbx (s : State) (p : Nat) (f : LinkPort → LinkPort) : (s.editLp p f).mbx = s.mbx := rfl
@[simp] theorem State.editLp_time (s : State) (p : Nat) (f : LinkPort → LinkPort) : (s.editLp p f).time = s.time := rfl
@[simp] theorem State.editLp_evq (s : State) (p : Nat) (f : LinkPort → LinkPort) : (s.editLp p f).evq = s.evq := rfl
@[simp] theorem State.editLp_inst (s : State) (p : Nat) (f : LinkPort → LinkPort) : (s.editLp p f).inst = s.inst := rfl
@[simp] theorem State.editLp_cairn (s : State) (p : Nat) (f : LinkPort → LinkPort) : (s.editLp p f).cairn = s.cairn := rfl
@[simp] theorem State.editLp_tree (s : State) (p : Nat) (f : LinkPort → LinkPort) : (s.editLp p f).tree = s.tree := rfl
@[simp] theorem State.editLp_rings (s : State) (p : Nat) (f : LinkPort → LinkPort) : (s.editLp p f).rings = s.rings := rfl
@[simp] theorem State.editLp_alloc (s : State) (p : Nat) (f : LinkPort → LinkPort) : (s.editLp p f).alloc = s.alloc := rfl
@[simp] theorem State.editLp_pager (s : State) (p : Nat) (f : LinkPort → LinkPort) : (s.editLp p f).pager = s.pager := rfl
@[simp] theorem State.editLp_xfer (s : State) (p : Nat) (f : LinkPort → LinkPort) : (s.editLp p f).xfer = s.xfer := rfl
@[simp] theorem State.editLp_dma (s : State) (p : Nat) (f : LinkPort → LinkPort) : (s.editLp p f).dma = s.dma := rfl
@[simp] theorem State.editLp_scree (s : State) (p : Nat) (f : LinkPort → LinkPort) : (s.editLp p f).scree = s.scree := rfl
@[simp] theorem State.editLp_power (s : State) (p : Nat) (f : LinkPort → LinkPort) : (s.editLp p f).power = s.power := rfl
@[simp] theorem State.editLp_mains (s : State) (p : Nat) (f : LinkPort → LinkPort) : (s.editLp p f).mains = s.mains := rfl
@[simp] theorem State.editLp_red (s : State) (p : Nat) (f : LinkPort → LinkPort) : (s.editLp p f).red = s.red := rfl
@[simp] theorem State.editLp_pair (s : State) (p : Nat) (f : LinkPort → LinkPort) : (s.editLp p f).pair = s.pair := rfl
@[simp] theorem State.editLp_pdm (s : State) (p : Nat) (f : LinkPort → LinkPort) : (s.editLp p f).pdm = s.pdm := rfl
@[simp] theorem State.editLp_tarn (s : State) (p : Nat) (f : LinkPort → LinkPort) : (s.editLp p f).tarn = s.tarn := rfl
@[simp] theorem State.editLp_flash (s : State) (p : Nat) (f : LinkPort → LinkPort) : (s.editLp p f).flash = s.flash := rfl
@[simp] theorem State.editLp_journal (s : State) (p : Nat) (f : LinkPort → LinkPort) : (s.editLp p f).journal = s.journal := rfl
@[simp] theorem State.editLp_pending (s : State) (p : Nat) (f : LinkPort → LinkPort) : (s.editLp p f).pending = s.pending := rfl
@[simp] theorem State.editLp_links (s : State) (p : Nat) (f : LinkPort → LinkPort) : (s.editLp p f).links = { s.links with tab := SMap.put LinkPort.reset p (f (s.lp p)) s.links.tab } := rfl
@[simp] theorem State.editLp_rd (s : State) (p : Nat) (f : LinkPort → LinkPort) (z : Nat) : (s.editLp p f).rd z = s.rd z := rfl
@[simp] theorem State.editLp_get (s : State) (p : Nat) (f : LinkPort → LinkPort) (z : Fld) : (s.editLp p f).get z = s.get z := rfl
@[simp] theorem State.editLp_on (s : State) (p : Nat) (f : LinkPort → LinkPort) (z : Fld) : (s.editLp p f).on z = s.on z := rfl

/-! ### flashWrite -/

@[simp] theorem State.flashWrite_part (s : State) (a : Nat) (bs : List Byte) : (s.flashWrite a bs).part = s.part := rfl
@[simp] theorem State.flashWrite_regs (s : State) (a : Nat) (bs : List Byte) : (s.flashWrite a bs).regs = s.regs := rfl
@[simp] theorem State.flashWrite_staged (s : State) (a : Nat) (bs : List Byte) : (s.flashWrite a bs).staged = s.staged := rfl
@[simp] theorem State.flashWrite_host (s : State) (a : Nat) (bs : List Byte) : (s.flashWrite a bs).host = s.host := rfl
@[simp] theorem State.flashWrite_boot (s : State) (a : Nat) (bs : List Byte) : (s.flashWrite a bs).boot = s.boot := rfl
@[simp] theorem State.flashWrite_fw (s : State) (a : Nat) (bs : List Byte) : (s.flashWrite a bs).fw = s.fw := rfl
@[simp] theorem State.flashWrite_mbx (s : State) (a : Nat) (bs : List Byte) : (s.flashWrite a bs).mbx = s.mbx := rfl
@[simp] theorem State.flashWrite_time (s : State) (a : Nat) (bs : List Byte) : (s.flashWrite a bs).time = s.time := rfl
@[simp] theorem State.flashWrite_evq (s : State) (a : Nat) (bs : List Byte) : (s.flashWrite a bs).evq = s.evq := rfl
@[simp] theorem State.flashWrite_inst (s : State) (a : Nat) (bs : List Byte) : (s.flashWrite a bs).inst = s.inst := rfl
@[simp] theorem State.flashWrite_cairn (s : State) (a : Nat) (bs : List Byte) : (s.flashWrite a bs).cairn = s.cairn := rfl
@[simp] theorem State.flashWrite_links (s : State) (a : Nat) (bs : List Byte) : (s.flashWrite a bs).links = s.links := rfl
@[simp] theorem State.flashWrite_tree (s : State) (a : Nat) (bs : List Byte) : (s.flashWrite a bs).tree = s.tree := rfl
@[simp] theorem State.flashWrite_rings (s : State) (a : Nat) (bs : List Byte) : (s.flashWrite a bs).rings = s.rings := rfl
@[simp] theorem State.flashWrite_alloc (s : State) (a : Nat) (bs : List Byte) : (s.flashWrite a bs).alloc = s.alloc := rfl
@[simp] theorem State.flashWrite_pager (s : State) (a : Nat) (bs : List Byte) : (s.flashWrite a bs).pager = s.pager := rfl
@[simp] theorem State.flashWrite_xfer (s : State) (a : Nat) (bs : List Byte) : (s.flashWrite a bs).xfer = s.xfer := rfl
@[simp] theorem State.flashWrite_dma (s : State) (a : Nat) (bs : List Byte) : (s.flashWrite a bs).dma = s.dma := rfl
@[simp] theorem State.flashWrite_scree (s : State) (a : Nat) (bs : List Byte) : (s.flashWrite a bs).scree = s.scree := rfl
@[simp] theorem State.flashWrite_power (s : State) (a : Nat) (bs : List Byte) : (s.flashWrite a bs).power = s.power := rfl
@[simp] theorem State.flashWrite_mains (s : State) (a : Nat) (bs : List Byte) : (s.flashWrite a bs).mains = s.mains := rfl
@[simp] theorem State.flashWrite_red (s : State) (a : Nat) (bs : List Byte) : (s.flashWrite a bs).red = s.red := rfl
@[simp] theorem State.flashWrite_pair (s : State) (a : Nat) (bs : List Byte) : (s.flashWrite a bs).pair = s.pair := rfl
@[simp] theorem State.flashWrite_pdm (s : State) (a : Nat) (bs : List Byte) : (s.flashWrite a bs).pdm = s.pdm := rfl
@[simp] theorem State.flashWrite_tarn (s : State) (a : Nat) (bs : List Byte) : (s.flashWrite a bs).tarn = s.tarn := rfl
@[simp] theorem State.flashWrite_journal (s : State) (a : Nat) (bs : List Byte) : (s.flashWrite a bs).journal = s.journal := rfl
@[simp] theorem State.flashWrite_pending (s : State) (a : Nat) (bs : List Byte) : (s.flashWrite a bs).pending = s.pending := rfl
@[simp] theorem State.flashWrite_flash (s : State) (a : Nat) (bs : List Byte) : (s.flashWrite a bs).flash = Memory.write erasedByte s.flash a bs := rfl
@[simp] theorem State.flashWrite_rd (s : State) (a : Nat) (bs : List Byte) (z : Nat) : (s.flashWrite a bs).rd z = s.rd z := rfl
@[simp] theorem State.flashWrite_get (s : State) (a : Nat) (bs : List Byte) (z : Fld) : (s.flashWrite a bs).get z = s.get z := rfl
@[simp] theorem State.flashWrite_on (s : State) (a : Nat) (bs : List Byte) (z : Fld) : (s.flashWrite a bs).on z = s.on z := rfl

/-! ### setFw -/

@[simp] theorem State.setFw_part (s : State) (f : Firmware) : (s.setFw f).part = s.part := rfl
@[simp] theorem State.setFw_regs (s : State) (f : Firmware) : (s.setFw f).regs = s.regs := rfl
@[simp] theorem State.setFw_staged (s : State) (f : Firmware) : (s.setFw f).staged = s.staged := rfl
@[simp] theorem State.setFw_host (s : State) (f : Firmware) : (s.setFw f).host = s.host := rfl
@[simp] theorem State.setFw_boot (s : State) (f : Firmware) : (s.setFw f).boot = s.boot := rfl
@[simp] theorem State.setFw_mbx (s : State) (f : Firmware) : (s.setFw f).mbx = s.mbx := rfl
@[simp] theorem State.setFw_time (s : State) (f : Firmware) : (s.setFw f).time = s.time := rfl
@[simp] theorem State.setFw_evq (s : State) (f : Firmware) : (s.setFw f).evq = s.evq := rfl
@[simp] theorem State.setFw_inst (s : State) (f : Firmware) : (s.setFw f).inst = s.inst := rfl
@[simp] theorem State.setFw_cairn (s : State) (f : Firmware) : (s.setFw f).cairn = s.cairn := rfl
@[simp] theorem State.setFw_links (s : State) (f : Firmware) : (s.setFw f).links = s.links := rfl
@[simp] theorem State.setFw_tree (s : State) (f : Firmware) : (s.setFw f).tree = s.tree := rfl
@[simp] theorem State.setFw_rings (s : State) (f : Firmware) : (s.setFw f).rings = s.rings := rfl
@[simp] theorem State.setFw_alloc (s : State) (f : Firmware) : (s.setFw f).alloc = s.alloc := rfl
@[simp] theorem State.setFw_pager (s : State) (f : Firmware) : (s.setFw f).pager = s.pager := rfl
@[simp] theorem State.setFw_xfer (s : State) (f : Firmware) : (s.setFw f).xfer = s.xfer := rfl
@[simp] theorem State.setFw_dma (s : State) (f : Firmware) : (s.setFw f).dma = s.dma := rfl
@[simp] theorem State.setFw_scree (s : State) (f : Firmware) : (s.setFw f).scree = s.scree := rfl
@[simp] theorem State.setFw_power (s : State) (f : Firmware) : (s.setFw f).power = s.power := rfl
@[simp] theorem State.setFw_mains (s : State) (f : Firmware) : (s.setFw f).mains = s.mains := rfl
@[simp] theorem State.setFw_red (s : State) (f : Firmware) : (s.setFw f).red = s.red := rfl
@[simp] theorem State.setFw_pair (s : State) (f : Firmware) : (s.setFw f).pair = s.pair := rfl
@[simp] theorem State.setFw_pdm (s : State) (f : Firmware) : (s.setFw f).pdm = s.pdm := rfl
@[simp] theorem State.setFw_tarn (s : State) (f : Firmware) : (s.setFw f).tarn = s.tarn := rfl
@[simp] theorem State.setFw_flash (s : State) (f : Firmware) : (s.setFw f).flash = s.flash := rfl
@[simp] theorem State.setFw_journal (s : State) (f : Firmware) : (s.setFw f).journal = s.journal := rfl
@[simp] theorem State.setFw_pending (s : State) (f : Firmware) : (s.setFw f).pending = s.pending := rfl
@[simp] theorem State.setFw_fw (s : State) (f : Firmware) : (s.setFw f).fw = f := rfl
@[simp] theorem State.setFw_rd (s : State) (f : Firmware) (z : Nat) : (s.setFw f).rd z = s.rd z := rfl
@[simp] theorem State.setFw_get (s : State) (f : Firmware) (z : Fld) : (s.setFw f).get z = s.get z := rfl
@[simp] theorem State.setFw_on (s : State) (f : Firmware) (z : Fld) : (s.setFw f).on z = s.on z := rfl

/-! ### setEnum -/

@[simp] theorem State.setEnum_part (s : State) (e : Enum) : (s.setEnum e).part = s.part := rfl
@[simp] theorem State.setEnum_regs (s : State) (e : Enum) : (s.setEnum e).regs = s.regs := rfl
@[simp] theorem State.setEnum_staged (s : State) (e : Enum) : (s.setEnum e).staged = s.staged := rfl
@[simp] theorem State.setEnum_host (s : State) (e : Enum) : (s.setEnum e).host = s.host := rfl
@[simp] theorem State.setEnum_boot (s : State) (e : Enum) : (s.setEnum e).boot = s.boot := rfl
@[simp] theorem State.setEnum_fw (s : State) (e : Enum) : (s.setEnum e).fw = s.fw := rfl
@[simp] theorem State.setEnum_mbx (s : State) (e : Enum) : (s.setEnum e).mbx = s.mbx := rfl
@[simp] theorem State.setEnum_time (s : State) (e : Enum) : (s.setEnum e).time = s.time := rfl
@[simp] theorem State.setEnum_evq (s : State) (e : Enum) : (s.setEnum e).evq = s.evq := rfl
@[simp] theorem State.setEnum_inst (s : State) (e : Enum) : (s.setEnum e).inst = s.inst := rfl
@[simp] theorem State.setEnum_cairn (s : State) (e : Enum) : (s.setEnum e).cairn = s.cairn := rfl
@[simp] theorem State.setEnum_links (s : State) (e : Enum) : (s.setEnum e).links = s.links := rfl
@[simp] theorem State.setEnum_rings (s : State) (e : Enum) : (s.setEnum e).rings = s.rings := rfl
@[simp] theorem State.setEnum_alloc (s : State) (e : Enum) : (s.setEnum e).alloc = s.alloc := rfl
@[simp] theorem State.setEnum_pager (s : State) (e : Enum) : (s.setEnum e).pager = s.pager := rfl
@[simp] theorem State.setEnum_xfer (s : State) (e : Enum) : (s.setEnum e).xfer = s.xfer := rfl
@[simp] theorem State.setEnum_dma (s : State) (e : Enum) : (s.setEnum e).dma = s.dma := rfl
@[simp] theorem State.setEnum_scree (s : State) (e : Enum) : (s.setEnum e).scree = s.scree := rfl
@[simp] theorem State.setEnum_power (s : State) (e : Enum) : (s.setEnum e).power = s.power := rfl
@[simp] theorem State.setEnum_mains (s : State) (e : Enum) : (s.setEnum e).mains = s.mains := rfl
@[simp] theorem State.setEnum_red (s : State) (e : Enum) : (s.setEnum e).red = s.red := rfl
@[simp] theorem State.setEnum_pair (s : State) (e : Enum) : (s.setEnum e).pair = s.pair := rfl
@[simp] theorem State.setEnum_pdm (s : State) (e : Enum) : (s.setEnum e).pdm = s.pdm := rfl
@[simp] theorem State.setEnum_tarn (s : State) (e : Enum) : (s.setEnum e).tarn = s.tarn := rfl
@[simp] theorem State.setEnum_flash (s : State) (e : Enum) : (s.setEnum e).flash = s.flash := rfl
@[simp] theorem State.setEnum_journal (s : State) (e : Enum) : (s.setEnum e).journal = s.journal := rfl
@[simp] theorem State.setEnum_pending (s : State) (e : Enum) : (s.setEnum e).pending = s.pending := rfl
@[simp] theorem State.setEnum_tree (s : State) (e : Enum) : (s.setEnum e).tree = { s.tree with enums := s.tree.enums.map fun x => if x.link.port = e.link.port then e else x } := rfl
@[simp] theorem State.setEnum_rd (s : State) (e : Enum) (z : Nat) : (s.setEnum e).rd z = s.rd z := rfl
@[simp] theorem State.setEnum_get (s : State) (e : Enum) (z : Fld) : (s.setEnum e).get z = s.get z := rfl
@[simp] theorem State.setEnum_on (s : State) (e : Enum) (z : Fld) : (s.setEnum e).on z = s.on z := rfl

/-! ### setSvc -/

@[simp] theorem State.setSvc_part (s : State) (v : Svc) : (s.setSvc v).part = s.part := rfl
@[simp] theorem State.setSvc_regs (s : State) (v : Svc) : (s.setSvc v).regs = s.regs := rfl
@[simp] theorem State.setSvc_staged (s : State) (v : Svc) : (s.setSvc v).staged = s.staged := rfl
@[simp] theorem State.setSvc_host (s : State) (v : Svc) : (s.setSvc v).host = s.host := rfl
@[simp] theorem State.setSvc_boot (s : State) (v : Svc) : (s.setSvc v).boot = s.boot := rfl
@[simp] theorem State.setSvc_fw (s : State) (v : Svc) : (s.setSvc v).fw = s.fw := rfl
@[simp] theorem State.setSvc_mbx (s : State) (v : Svc) : (s.setSvc v).mbx = s.mbx := rfl
@[simp] theorem State.setSvc_time (s : State) (v : Svc) : (s.setSvc v).time = s.time := rfl
@[simp] theorem State.setSvc_evq (s : State) (v : Svc) : (s.setSvc v).evq = s.evq := rfl
@[simp] theorem State.setSvc_inst (s : State) (v : Svc) : (s.setSvc v).inst = s.inst := rfl
@[simp] theorem State.setSvc_cairn (s : State) (v : Svc) : (s.setSvc v).cairn = s.cairn := rfl
@[simp] theorem State.setSvc_links (s : State) (v : Svc) : (s.setSvc v).links = s.links := rfl
@[simp] theorem State.setSvc_tree (s : State) (v : Svc) : (s.setSvc v).tree = s.tree := rfl
@[simp] theorem State.setSvc_rings (s : State) (v : Svc) : (s.setSvc v).rings = s.rings := rfl
@[simp] theorem State.setSvc_alloc (s : State) (v : Svc) : (s.setSvc v).alloc = s.alloc := rfl
@[simp] theorem State.setSvc_pager (s : State) (v : Svc) : (s.setSvc v).pager = s.pager := rfl
@[simp] theorem State.setSvc_dma (s : State) (v : Svc) : (s.setSvc v).dma = s.dma := rfl
@[simp] theorem State.setSvc_scree (s : State) (v : Svc) : (s.setSvc v).scree = s.scree := rfl
@[simp] theorem State.setSvc_power (s : State) (v : Svc) : (s.setSvc v).power = s.power := rfl
@[simp] theorem State.setSvc_mains (s : State) (v : Svc) : (s.setSvc v).mains = s.mains := rfl
@[simp] theorem State.setSvc_red (s : State) (v : Svc) : (s.setSvc v).red = s.red := rfl
@[simp] theorem State.setSvc_pair (s : State) (v : Svc) : (s.setSvc v).pair = s.pair := rfl
@[simp] theorem State.setSvc_pdm (s : State) (v : Svc) : (s.setSvc v).pdm = s.pdm := rfl
@[simp] theorem State.setSvc_tarn (s : State) (v : Svc) : (s.setSvc v).tarn = s.tarn := rfl
@[simp] theorem State.setSvc_flash (s : State) (v : Svc) : (s.setSvc v).flash = s.flash := rfl
@[simp] theorem State.setSvc_journal (s : State) (v : Svc) : (s.setSvc v).journal = s.journal := rfl
@[simp] theorem State.setSvc_pending (s : State) (v : Svc) : (s.setSvc v).pending = s.pending := rfl
@[simp] theorem State.setSvc_xfer (s : State) (v : Svc) : (s.setSvc v).xfer = { s.xfer with svcs := s.xfer.svcs.map fun y => if y.key = v.key then v else y } := rfl
@[simp] theorem State.setSvc_rd (s : State) (v : Svc) (z : Nat) : (s.setSvc v).rd z = s.rd z := rfl
@[simp] theorem State.setSvc_get (s : State) (v : Svc) (z : Fld) : (s.setSvc v).get z = s.get z := rfl
@[simp] theorem State.setSvc_on (s : State) (v : Svc) (z : Fld) : (s.setSvc v).on z = s.on z := rfl

end Sys2Proof.Machine
end

