-- ==== Sys2Proof/Laws/Frames.lean ====
section
/-! SUPPORT. Everything that the shared operations of events, records and completions can touch: each equals its state with the named
fields replaced. -/

namespace Sys2Proof.Machine

theorem markHeld_frame (s : State) (n : Nat) : s.markHeld n = { s with evq := (s.markHeld n).evq } := by
  unfold State.markHeld; dsimp only; split <;> rfl

/-- An occurrence touches the event controller alone. -/
theorem occurAt_frame (s : State) (n a f ns : Nat) (b : Bool) :
    s.occurAt n a f ns b = { s with evq := (s.occurAt n a f ns b).evq } := by
  unfold State.occurAt
  split
  · dsimp only
    rw [markHeld_frame]
    rfl
  · rfl

theorem occur_frame (s : State) (n a : Nat) : s.occur n a = { s with evq := (s.occur n a).evq } := occurAt_frame ..

/-- An event flag touches the registers and the event controller. -/
theorem setEvent_frame (s : State) (n : Nat) (f : Fld) :
    s.setEvent n f = { s with regs := (s.put f 1).regs, evq := (s.setEvent n f).evq } := by
  unfold State.setEvent
  dsimp only
  split
  · rw [occur_frame]; rfl
  · rfl

theorem levelRise_frame (s0 s : State) (n : Nat) : State.levelRise s0 s n = { s with evq := (State.levelRise s0 s n).evq } := by
  unfold State.levelRise
  split
  · exact occur_frame ..
  · rfl

@[simp] theorem markHeld_regs (s : State) (n : Nat) : (s.markHeld n).regs = s.regs := by rw [markHeld_frame]
@[simp] theorem occurAt_regs (s : State) (n a f ns : Nat) (b : Bool) : (s.occurAt n a f ns b).regs = s.regs := by rw [occurAt_frame]
@[simp] theorem occur_regs (s : State) (n a : Nat) : (s.occur n a).regs = s.regs := by rw [occur_frame]
@[simp] theorem occur_rd (s : State) (n a x : Nat) : (s.occur n a).rd x = s.rd x := by rw [occur_frame]; rfl
@[simp] theorem occur_get (s : State) (n a : Nat) (x : Fld) : (s.occur n a).get x = s.get x := by rw [occur_frame]; rfl
@[simp] theorem occur_on (s : State) (n a : Nat) (x : Fld) : (s.occur n a).on x = s.on x := by rw [occur_frame]; rfl
@[simp] theorem setEvent_regs (s : State) (n : Nat) (f : Fld) : (s.setEvent n f).regs = (s.put f 1).regs := by rw [setEvent_frame]
theorem setEvent_rd (s : State) (n : Nat) (f : Fld) (x : Nat) : (s.setEvent n f).rd x = (s.put f 1).rd x := by rw [setEvent_frame]; rfl
theorem setEvent_get (s : State) (n : Nat) (f x : Fld) : (s.setEvent n f).get x = (s.put f 1).get x := by rw [setEvent_frame]; rfl

@[simp] theorem occur_part (s : State) (n a : Nat) : (s.occur n a).part = s.part := by rw [occur_frame]
@[simp] theorem setEvent_part (s : State) (n : Nat) (f : Fld) : (s.setEvent n f).part = s.part := by rw [setEvent_frame]
@[simp] theorem occur_staged (s : State) (n a : Nat) : (s.occur n a).staged = s.staged := by rw [occur_frame]
@[simp] theorem setEvent_staged (s : State) (n : Nat) (f : Fld) : (s.setEvent n f).staged = s.staged := by rw [setEvent_frame]
@[simp] theorem occur_host (s : State) (n a : Nat) : (s.occur n a).host = s.host := by rw [occur_frame]
@[simp] theorem setEvent_host (s : State) (n : Nat) (f : Fld) : (s.setEvent n f).host = s.host := by rw [setEvent_frame]
@[simp] theorem occur_boot (s : State) (n a : Nat) : (s.occur n a).boot = s.boot := by rw [occur_frame]
@[simp] theorem setEvent_boot (s : State) (n : Nat) (f : Fld) : (s.setEvent n f).boot = s.boot := by rw [setEvent_frame]
@[simp] theorem occur_fw (s : State) (n a : Nat) : (s.occur n a).fw = s.fw := by rw [occur_frame]
@[simp] theorem setEvent_fw (s : State) (n : Nat) (f : Fld) : (s.setEvent n f).fw = s.fw := by rw [setEvent_frame]
@[simp] theorem occur_mbx (s : State) (n a : Nat) : (s.occur n a).mbx = s.mbx := by rw [occur_frame]
@[simp] theorem setEvent_mbx (s : State) (n : Nat) (f : Fld) : (s.setEvent n f).mbx = s.mbx := by rw [setEvent_frame]
@[simp] theorem occur_time (s : State) (n a : Nat) : (s.occur n a).time = s.time := by rw [occur_frame]
@[simp] theorem setEvent_time (s : State) (n : Nat) (f : Fld) : (s.setEvent n f).time = s.time := by rw [setEvent_frame]
@[simp] theorem occur_inst (s : State) (n a : Nat) : (s.occur n a).inst = s.inst := by rw [occur_frame]
@[simp] theorem setEvent_inst (s : State) (n : Nat) (f : Fld) : (s.setEvent n f).inst = s.inst := by rw [setEvent_frame]
@[simp] theorem occur_cairn (s : State) (n a : Nat) : (s.occur n a).cairn = s.cairn := by rw [occur_frame]
@[simp] theorem setEvent_cairn (s : State) (n : Nat) (f : Fld) : (s.setEvent n f).cairn = s.cairn := by rw [setEvent_frame]
@[simp] theorem occur_links (s : State) (n a : Nat) : (s.occur n a).links = s.links := by rw [occur_frame]
@[simp] theorem setEvent_links (s : State) (n : Nat) (f : Fld) : (s.setEvent n f).links = s.links := by rw [setEvent_frame]
@[simp] theorem occur_tree (s : State) (n a : Nat) : (s.occur n a).tree = s.tree := by rw [occur_frame]
@[simp] theorem setEvent_tree (s : State) (n : Nat) (f : Fld) : (s.setEvent n f).tree = s.tree := by rw [setEvent_frame]
@[simp] theorem occur_rings (s : State) (n a : Nat) : (s.occur n a).rings = s.rings := by rw [occur_frame]
@[simp] theorem setEvent_rings (s : State) (n : Nat) (f : Fld) : (s.setEvent n f).rings = s.rings := by rw [setEvent_frame]
@[simp] theorem occur_alloc (s : State) (n a : Nat) : (s.occur n a).alloc = s.alloc := by rw [occur_frame]
@[simp] theorem setEvent_alloc (s : State) (n : Nat) (f : Fld) : (s.setEvent n f).alloc = s.alloc := by rw [setEvent_frame]
@[simp] theorem occur_pager (s : State) (n a : Nat) : (s.occur n a).pager = s.pager := by rw [occur_frame]
@[simp] theorem setEvent_pager (s : State) (n : Nat) (f : Fld) : (s.setEvent n f).pager = s.pager := by rw [setEvent_frame]
@[simp] theorem occur_xfer (s : State) (n a : Nat) : (s.occur n a).xfer = s.xfer := by rw [occur_frame]
@[simp] theorem setEvent_xfer (s : State) (n : Nat) (f : Fld) : (s.setEvent n f).xfer = s.xfer := by rw [setEvent_frame]
@[simp] theorem occur_dma (s : State) (n a : Nat) : (s.occur n a).dma = s.dma := by rw [occur_frame]
@[simp] theorem setEvent_dma (s : State) (n : Nat) (f : Fld) : (s.setEvent n f).dma = s.dma := by rw [setEvent_frame]
@[simp] theorem occur_scree (s : State) (n a : Nat) : (s.occur n a).scree = s.scree := by rw [occur_frame]
@[simp] theorem setEvent_scree (s : State) (n : Nat) (f : Fld) : (s.setEvent n f).scree = s.scree := by rw [setEvent_frame]
@[simp] theorem occur_power (s : State) (n a : Nat) : (s.occur n a).power = s.power := by rw [occur_frame]
@[simp] theorem setEvent_power (s : State) (n : Nat) (f : Fld) : (s.setEvent n f).power = s.power := by rw [setEvent_frame]
@[simp] theorem occur_mains (s : State) (n a : Nat) : (s.occur n a).mains = s.mains := by rw [occur_frame]
@[simp] theorem setEvent_mains (s : State) (n : Nat) (f : Fld) : (s.setEvent n f).mains = s.mains := by rw [setEvent_frame]
@[simp] theorem occur_red (s : State) (n a : Nat) : (s.occur n a).red = s.red := by rw [occur_frame]
@[simp] theorem setEvent_red (s : State) (n : Nat) (f : Fld) : (s.setEvent n f).red = s.red := by rw [setEvent_frame]
@[simp] theorem occur_pair (s : State) (n a : Nat) : (s.occur n a).pair = s.pair := by rw [occur_frame]
@[simp] theorem setEvent_pair (s : State) (n : Nat) (f : Fld) : (s.setEvent n f).pair = s.pair := by rw [setEvent_frame]
@[simp] theorem occur_pdm (s : State) (n a : Nat) : (s.occur n a).pdm = s.pdm := by rw [occur_frame]
@[simp] theorem setEvent_pdm (s : State) (n : Nat) (f : Fld) : (s.setEvent n f).pdm = s.pdm := by rw [setEvent_frame]
@[simp] theorem occur_tarn (s : State) (n a : Nat) : (s.occur n a).tarn = s.tarn := by rw [occur_frame]
@[simp] theorem setEvent_tarn (s : State) (n : Nat) (f : Fld) : (s.setEvent n f).tarn = s.tarn := by rw [setEvent_frame]
@[simp] theorem occur_flash (s : State) (n a : Nat) : (s.occur n a).flash = s.flash := by rw [occur_frame]
@[simp] theorem setEvent_flash (s : State) (n : Nat) (f : Fld) : (s.setEvent n f).flash = s.flash := by rw [setEvent_frame]
@[simp] theorem occur_pending (s : State) (n a : Nat) : (s.occur n a).pending = s.pending := by rw [occur_frame]
@[simp] theorem setEvent_pending (s : State) (n : Nat) (f : Fld) : (s.setEvent n f).pending = s.pending := by rw [setEvent_frame]

end Sys2Proof.Machine
end

