-- ==== Sys2Proof/Laws/Shared.lean ====
section
/-! SUPPORT. What operations that several meanings share do in their plain cases, said once: switches, links of the ring, takeovers, messages of
the port power die, DMA turns. -/

namespace Sys2Proof.Machine

/-! ### The switch of a live update (R57, R58) -/

theorem endSwitch_none (s : State) (st d : Nat) (h : s.fw.switch = none) : s.endSwitch st d = s := by simp [State.endSwitch, h]

/-- Outside MODE 2 a switch that does not occur only ends its command. -/
theorem noSwitch_taking (s : State) (h : (s.endSwitch ST.fault 0).mode ≠ 2) : s.noSwitch = s.endSwitch ST.fault 0 := by
  simp [State.noSwitch, h]

/-- A pair that is halted, or absent, does not fault again (R53). -/
theorem pairFault_halted (s : State) (p : PairId) (c : Nat) (h : s.activePair.mode = .halted) (h' : s.otherPair.mode = .halted) :
    s.pairFault p c = s := by
  unfold State.pairFault
  by_cases e : (s.get Fd.GLB_STATUS_ACTIVE_PAIR == pairNum p) = true
  · simp [e, h]
  · simp [e, h']

/-! ### The ring (R345, R347, R351, R357) -/

theorem sadSend_down (s : State) (l : Nat) (m : SaddleMsg) (h : s.sadState l ≠ 2) : s.sadSend l m = s := by simp [State.sadSend, h]

theorem sadSend_up (s : State) (l : Nat) (m : SaddleMsg) (h : s.sadState l = 2) :
    s.sadSend l m = { s with pair := { s.pair with out := s.pair.out ++ [(l, m)] } } := by simp [State.sadSend, h]

theorem forward_origin (s : State) (l n : Nat) (m : SaddleMsg) (h : s.neighbour (1 - l) = n) : s.forward l n m = s := by
  simp [State.forward, h]

theorem forward_on (s : State) (l n : Nat) (m : SaddleMsg) (h : s.neighbour (1 - l) ≠ n) : s.forward l n m = s.sadSend (1 - l) m := by
  simp [State.forward, h]

theorem startTake_unjoined (s : State) (hubs : List Nat) (w : Trigger) (g lo : Nat) (h : s.on Fd.PAR_STATUS_JOINED = false) :
    s.startTake hubs w g lo = s := by simp [State.startTake, h]

theorem startTake_none (s : State) (w : Trigger) (g lo : Nat) : s.startTake [] w g lo = s := by simp [State.startTake]

/-! ### The port power die (R324, R331) -/

theorem sendMsg_cut (s : State) (p t : Nat) (o : List Nat) (h : (s.pp p).cut = true) : s.sendMsg p t o = s := by simp [State.sendMsg, h]

/-- While the logic die does not run a message only waits. -/
theorem sendMsg_waits (s : State) (p t : Nat) (o : List Nat) (h : (s.pp p).cut = false) (hd : s.dieRuns = false) :
    s.sendMsg p t o = s.editPp p fun x => { x with waiting := x.waiting ++ [(t, o)] } := by simp [State.sendMsg, h, hd]

theorem sendMsg_goes (s : State) (p t : Nat) (o : List Nat) (h : (s.pp p).cut = false) (hd : s.dieRuns = true) (ht : (s.pp p).tx = none) :
    s.sendMsg p t o = s.transmit p t o := by simp [State.sendMsg, h, hd, ht]

/-! ### DMA (R234, R243) -/

theorem dmaPump_idle (s : State) (port : Side) (k : Nat) (h : s.dmaNext port = none) : s.dmaPump port k = s := by
  cases k <;> simp [State.dmaPump, h]

theorem dmaPump_turn (s : State) (port : Side) (k n : Nat) (h : s.dmaNext port = some n) :
    s.dmaPump port (k + 1) =
      (({ s with xfer := { s.xfer with dmaLast := SMap.put (fun _ => 0) (b2n (port == Side.h1)) ((n + 1) % 32) s.xfer.dmaLast } }).dmaTurn n).dmaPump
        port k := by
  simp [State.dmaPump, h]

theorem stopDone_on (s : State) (n : Nat) (h : s.on (Fd.DMA_CH_CTRL_STOP n) = false) : s.stopDone n = s := by simp [State.stopDone, h]

end Sys2Proof.Machine
end

