-- ==== Sys2Proof/Laws/Tables.lean ====
section
/-! SUPPORT. Reading the tables of State after an update: the entry updated, and every other. -/

namespace Sys2Proof.Machine

@[simp] theorem lp_editLp (s : State) (p : Nat) (f : LinkPort → LinkPort) : (s.editLp p f).lp p = f (s.lp p) := Laws.get_put_same ..
theorem lp_editLp_other (s : State) (p q : Nat) (f : LinkPort → LinkPort) (h : q ≠ p) : (s.editLp p f).lp q = s.lp q :=
  Laws.get_put_other _ _ _ _ h
@[simp] theorem pp_editPp (s : State) (p : Nat) (f : PortPow → PortPow) : (s.editPp p f).pp p = f (s.pp p) := Laws.get_put_same ..
theorem pp_editPp_other (s : State) (p q : Nat) (f : PortPow → PortPow) (h : q ≠ p) : (s.editPp p f).pp q = s.pp q :=
  Laws.get_put_other _ _ _ _ h
@[simp] theorem src_putSrc (s : State) (n : Nat) (x : Source) : (s.putSrc n x).src n = x := Laws.get_put_same ..
theorem src_putSrc_other (s : State) (n m : Nat) (x : Source) (h : m ≠ n) : (s.putSrc n x).src m = s.src m := Laws.get_put_other _ _ _ _ h
@[simp] theorem instOf_putInst (s : State) (i : Nat) (r : Instance) : (s.putInst i r).instOf i = r := Laws.get_put_same ..
theorem instOf_putInst_other (s : State) (i j : Nat) (r : Instance) (h : j ≠ i) : (s.putInst i r).instOf j = s.instOf j :=
  Laws.get_put_other _ _ _ _ h
@[simp] theorem dev_putDev (s : State) (a : Nat) (d : Option Device) : (s.putDev a d).dev a = d := Laws.get_put_same ..
theorem dev_putDev_other (s : State) (a b : Nat) (d : Option Device) (h : b ≠ a) : (s.putDev a d).dev b = s.dev b :=
  Laws.get_put_other _ _ _ _ h
@[simp] theorem entry_putEntry (s : State) (i e : Nat) (x : Option Entry) : (s.putEntry i e x).entry i e = x := Laws.get_put_same ..
@[simp] theorem ch_putCh (s : State) (n : Nat) (c : DmaCh) : (s.putCh n c).ch n = c := Laws.get_put_same ..
theorem ch_putCh_other (s : State) (n m : Nat) (c : DmaCh) (h : m ≠ n) : (s.putCh n c).ch m = s.ch m := Laws.get_put_other _ _ _ _ h
@[simp] theorem ctxEnt_putCtxEnt (s : State) (k : Nat) (c : Option CtxEnt) : (s.putCtxEnt k c).ctxEnt k = c := Laws.get_put_same ..
theorem ctxEnt_putCtxEnt_other (s : State) (k j : Nat) (c : Option CtxEnt) (h : j ≠ k) : (s.putCtxEnt k c).ctxEnt j = s.ctxEnt j :=
  Laws.get_put_other _ _ _ _ h

end Sys2Proof.Machine
end

