-- ==== Sys2Proof/WellFormed.lean ====
section
/-! DEFINITION. Well-formed commands: every operand lies in the range of what it stands for (a root port 0 to 7, a 32-bit word, a
13-bit device address). The meanings are total: an operand outside its range names nothing, and the command has no effect on
what does not exist. -/

namespace Sys2Proof

def wfPort (p : Nat) : Bool := decide (p < 8)
def wfInst (i : Nat) : Bool := decide (i < 64)
def wfWord (w : Nat) : Bool := decide (w < 2 ^ 32)
def wfAddr (a : Nat) : Bool := decide (a < 2 ^ 13)
def wfVia : Via → Bool
  | .manager => true
  | .page i => wfInst i

def Instr.wf : Instr → Bool
  | .imageSelect _ _ => true
  | .fwRunning elapsed => wfWord elapsed
  | .standbyReadyCheck _ => true
  | .registerWrite _ _ off be val => decide (off < 2 ^ 24) && decide (be < 32) && wfWord val
  | .readClear _ _ off size => decide (off < 2 ^ 24) && decide (size ∈ [1, 2, 4])
  | .glbResetWrite _ val => wfWord val
  | .scrubberRead mem _ errs => decide (mem < 16) && decide (errs ≤ 2)
  | .mbxDoorbellWrite _ mbx val => wfInst mbx && wfWord val
  | .pendingOutcome _ _ _ data => decide (data.length ≤ 4096)
  | .lockstepMismatch _ => true
  | .pairWatchdogExpiry _ => true
  | .faultedPairSelftest _ => true
  | .frameTick _ _ => true
  | .colStart term => decide (term < 256)
  | .ppsEdge dt _ => wfWord dt
  | .holdoverEntry dt => wfWord dt
  | .rtcCalibration dt rtc => wfWord dt && decide (rtc < 2 ^ 48)
  | .runningSnapshot dt rtc => wfWord dt && decide (rtc < 2 ^ 48)
  | .sleepSnapshot dt rtc => wfWord dt && decide (rtc < 2 ^ 48)
  | .timeReconstruction rtc => decide (rtc < 2 ^ 48)
  | .systimeLatchRead _ dt => wfWord dt
  | .ts1 p body _ _ => wfPort p && decide (body < 2 ^ 16)
  | .ts2 p body => wfPort p && decide (body < 2 ^ 16)
  | .pingSend p _ => wfPort p
  | .lnkEcho p body _ => wfPort p && decide (body < 2 ^ 16)
  | .lnkTurn p body => wfPort p && decide (body < 2 ^ 16)
  | .trainingTimeout p => wfPort p
  | .detectWaitEnd p => wfPort p
  | .wordLockGain p => wfPort p
  | .wordLockLoss p => wfPort p
  | .wordError p word => wfPort p && wfWord word
  | .lnkIdle p body => wfPort p && decide (body < 2 ^ 16)
  | .unknownControlWord p code => wfPort p && decide (code < 64)
  | .lnkUmark p body => wfPort p && decide (body < 2 ^ 16)
  | .recoveryComplete p => wfPort p
  | .recoveryTimeout p => wfPort p
  | .pm p body => wfPort p && decide (body < 2 ^ 16)
  | .pmAnswerTimeout p => wfPort p
  | .lnkBeacon p => wfPort p
  | .lowPowerDetect p _ => wfPort p
  | .recalDue p kind => wfPort p && decide (kind < 2)
  | .recalSlotComplete p => wfPort p
  | .lnkRetrainWrite _ p val => wfPort p && wfWord val
  | .periodicLaunch p errs _ => wfPort p && decide (errs ≤ 2)
  | .bulkLaunch p errs _ => wfPort p && decide (errs ≤ 2)
  | .histLaunch p => wfPort p
  | .busCommandLaunch p _ => wfPort p
  | .packetReceive p addr sop words _ _ _ => wfPort p && wfAddr addr && decide (sop < 2 ^ 16) && words.all (fun w => decide (w < 2 ^ 24)) && decide (words.length ≤ 1026)
  | .handshake p addr body => wfPort p && wfAddr addr && decide (body < 2 ^ 16)
  | .responseWindowClose p addr => wfPort p && wfAddr addr
  | .controlDeadline p addr => wfPort p && wfAddr addr
  | .enumerationStart p => wfPort p
  | .enumerationRequestComplete p => wfPort p
  | .busResetIdleEnd p => wfPort p
  | .dmSof dt bodies => wfWord dt && bodies.all (fun w => decide (w < 2 ^ 16)) && decide (bodies.length ≤ 16)
  | .dmStrobe dt => wfWord dt
  | .dmToken kind target ep => decide (kind < 16) && wfAddr target && decide (ep < 16)
  | .dmSetup sop words _ _ _ => decide (sop < 2 ^ 16) && words.all (fun w => decide (w < 2 ^ 24)) && decide (words.length ≤ 1026)
  | .dmPacket sop words _ _ _ => decide (sop < 2 ^ 16) && words.all (fun w => decide (w < 2 ^ 24)) && decide (words.length ≤ 1026)
  | .dmArmWrite _ n val => decide (n < 16) && wfWord val
  | .dmRemoteWakeWrite _ val => wfWord val
  | .dmStrobeLatchRead _ => true
  | .ringDoorbell _ i entry value => wfInst i && decide (entry < 2 ^ 14) && decide (value < 2 ^ 16)
  | .openEntry _ i entry value => wfInst i && decide (entry < 2 ^ 14) && decide (value < 2 ^ 16)
  | .closeEntry _ i entry value => wfInst i && decide (entry < 2 ^ 14) && decide (value < 2 ^ 16)
  | .ackRing _ i entry value => wfInst i && decide (entry < 2 ^ 14) && decide (value < 2 ^ 16)
  | .descriptorStart i entry => wfInst i && decide (entry < 2 ^ 14)
  | .descriptorTimeout i entry => wfInst i && decide (entry < 2 ^ 14)
  | .completionRecordWrite _ => true
  | .inSlotWrite _ errs _ => decide (errs ≤ 2)
  | .outSlotFetch key => decide (key < 2 ^ 17)
  | .outSlotResultWrite _ => true
  | .hostReadTimeout _ => true
  | .grantHandle _ => true
  | .releaseHandle _ => true
  | .modifyHandle _ => true
  | .queryHandle _ => true
  | .allocResponsePost _ => true
  | .pageDirectoryComplete _ _ data => decide (data.length ≤ 4096)
  | .pageInComplete _ _ data => decide (data.length ≤ 4096)
  | .pageLate key => decide (key < 2 ^ 17)
  | .writeBackRetry _ => true
  | .bulkInWrite _ errs _ => decide (errs ≤ 2)
  | .bulkOutFetch key => decide (key < 2 ^ 17)
  | .dmaDoorbell _ via ch val => wfVia via && decide (ch < 32) && wfWord val
  | .dmaCqAck _ via ch val => wfVia via && decide (ch < 32) && wfWord val
  | .dmaStop _ via ch => wfVia via && decide (ch < 32)
  | .dmaEnable _ via ch => wfVia via && decide (ch < 32)
  | .dmaDescriptorStart ch => decide (ch < 32)
  | .dmaReadCompletion _ _ data _ mem _ errs => decide (data.length ≤ 4096) && decide (mem < 16) && decide (errs ≤ 2)
  | .dmaDescriptorEnd ch _ => decide (ch < 32)
  | .dmaRecordWrite ch _ => decide (ch < 32)
  | .gatherComplete _ => true
  | .nodeStart core => decide (core < 16)
  | .nodeComplete core _ => decide (core < 16)
  | .emitSlotWrite _ => true
  | .traceRecordWrite _ => true
  | .instanceReset i => wfInst i
  | .functionLevelReset _ => true
  | .dataLinkDown _ => true
  | .perstAssert _ => true
  | .eventRecordWrite _ => true
  | .msixUnmask _ vec => decide (vec < 256)
  | .holdoffExpiry src => decide (src < 1024)
  | .quarantine src => decide (src < 1024)
  | .evqClaim _ via q => wfVia via && decide (q < 256)
  | .evqComplete _ via q val => wfVia via && decide (q < 256) && wfWord val
  | .evqCons _ via q val => wfVia via && decide (q < 256) && wfWord val
  | .evqSet _ via src => wfVia via && decide (src < 1024)
  | .evqQuarClear _ via src => wfVia via && decide (src < 1024)
  | .evqQueueEnable _ via q val => wfVia via && decide (q < 256) && wfWord val
  | .wakeLatchSet n _ dt rtc => decide (n < 4) && wfWord dt && decide (rtc < 2 ^ 48)
  | .wakeStampCapture rtc => decide (rtc < 2 ^ 48)
  | .cpComplete _ => true
  | .snsWindowEnter p => wfPort p
  | .snsAttach p vp => wfPort p && wfWord vp
  | .snsDetach p sns => wfPort p && decide (sns < 4)
  | .drpToggle p => wfPort p
  | .capsSend p => wfPort p
  | .capsRepeat p => wfPort p
  | .vpInWindow p => wfPort p
  | .goodRx p hdr => wfPort p && decide (hdr.bits < 2 ^ 16) && wfWord hdr.check
  | .srcCaps p hdr objs => wfPort p && decide (hdr.bits < 2 ^ 16) && objs.all wfWord && decide (objs.length ≤ 7) && wfWord hdr.check
  | .snkCaps p hdr objs => wfPort p && decide (hdr.bits < 2 ^ 16) && objs.all wfWord && decide (objs.length ≤ 7) && wfWord hdr.check
  | .snsRequest p hdr objs => wfPort p && decide (hdr.bits < 2 ^ 16) && objs.all wfWord && decide (objs.length ≤ 7) && wfWord hdr.check
  | .snsAccept p hdr objs => wfPort p && decide (hdr.bits < 2 ^ 16) && objs.all wfWord && decide (objs.length ≤ 7) && wfWord hdr.check
  | .snsReject p hdr objs => wfPort p && decide (hdr.bits < 2 ^ 16) && objs.all wfWord && decide (objs.length ≤ 7) && wfWord hdr.check
  | .snsWait p hdr objs => wfPort p && decide (hdr.bits < 2 ^ 16) && objs.all wfWord && decide (objs.length ≤ 7) && wfWord hdr.check
  | .psReady p hdr objs => wfPort p && decide (hdr.bits < 2 ^ 16) && objs.all wfWord && decide (objs.length ≤ 7) && wfWord hdr.check
  | .getSrcCaps p hdr objs => wfPort p && decide (hdr.bits < 2 ^ 16) && objs.all wfWord && decide (objs.length ≤ 7) && wfWord hdr.check
  | .getSnkCaps p hdr objs => wfPort p && decide (hdr.bits < 2 ^ 16) && objs.all wfWord && decide (objs.length ≤ 7) && wfWord hdr.check
  | .prSwap p hdr objs => wfPort p && decide (hdr.bits < 2 ^ 16) && objs.all wfWord && decide (objs.length ≤ 7) && wfWord hdr.check
  | .softReset p hdr objs => wfPort p && decide (hdr.bits < 2 ^ 16) && objs.all wfWord && decide (objs.length ≤ 7) && wfWord hdr.check
  | .notSupported p hdr objs => wfPort p && decide (hdr.bits < 2 ^ 16) && objs.all wfWord && decide (objs.length ≤ 7) && wfWord hdr.check
  | .snsAlert p hdr objs => wfPort p && decide (hdr.bits < 2 ^ 16) && objs.all wfWord && decide (objs.length ≤ 7) && wfWord hdr.check
  | .frSwap p hdr objs => wfPort p && decide (hdr.bits < 2 ^ 16) && objs.all wfWord && decide (objs.length ≤ 7) && wfWord hdr.check
  | .hardReset p => wfPort p
  | .messageRetry p => wfPort p
  | .snsCollision p => wfPort p
  | .backoffExpiry p => wfPort p
  | .snkPsrExpiry p => wfPort p
  | .waitAgainExpiry p => wfPort p
  | .trequestExpiry p => wfPort p
  | .swapPsReadyTimeout p => wfPort p
  | .swapContractTimeout p => wfPort p
  | .protectionTrip p cause => wfPort p && decide (1 ≤ cause ∧ cause ≤ 7)
  | .retryDelayExpiry p => wfPort p
  | .frsTrigger p vs _ => wfPort p && wfWord vs
  | .frsRecognition p => wfPort p
  | .frsTurnOn p => wfPort p
  | .frsCancel p => wfPort p
  | .frsContractExpiry p => wfPort p
  | .hardResetDischarged p => wfPort p
  | .urmsWindowEnd dt => wfWord dt
  | .zeroCrossing dt => wfWord dt
  | .mnsWordLatchRead _ => true
  | .mnsEvtLatchRead _ => true
  | .saddleHeartbeat link number frame partner _ _ => decide (link < 2) && decide (number < 64) && wfWord frame && decide (partner < 4)
  | .saddleTime link source sec ns uncert state _ _ _ _ => decide (link < 2) && decide (source < 64) && wfWord sec && decide (ns < 1000000000) && wfWord uncert && decide (state < 5)
  | .timeLoss dt => wfWord dt
  | .saddleMirror _ => true
  | .saddleHandover hubs frame => hubs.all wfAddr && wfWord frame
  | .spurLost hub _ => wfAddr hub
  | .saddleLinkUp link number _ _ _ => decide (link < 2) && decide (number < 64)
  | .saddleLinkDown link => decide (link < 2)
  | .pfiNAssert dt => wfWord dt
  | .wakeTrigger rtc => decide (rtc < 2 ^ 48)
  | .rtcAlarm rtc => decide (rtc < 2 ^ 48)
  | .regulatorTimeout rail rtc => decide (rail < 5) && decide (rtc < 2 ^ 48)
  | .oscStageTimeout rtc => decide (rtc < 2 ^ 48)
  | .dvsPgAssert dt => wfWord dt
  | .dvsPgTimeout dt => wfWord dt
  | .railLoss rail => decide (rail < 5)
  | .cairnRecordWrite _ _ _ _ _ _ => true
  | .mergeRewrite _ _ _ _ => true
  | .headerRefresh _ _ _ _ => true
  | .injectionEnd kind => decide (1 ≤ kind ∧ kind ≤ 9)
  | .bistComplete _ _ _ _ _ _ _ => true
  | .jtagInstructionLoad _ => true
  | .snsWindowLeave p sns => wfPort p && decide (sns < 4)
  | .frsSignalEnd p => wfPort p
  | .dmHandshake code addr => decide (code < 8) && wfAddr addr
  | .lnkPing p body turn => wfPort p && decide (body < 2 ^ 16) && decide (turn < 2 ^ 16)
  | .mainsSample dt _ _ _ _ => wfWord dt
  | .hostReadCompletion _ _ data => decide (data.length ≤ 4096)
  | .partnerAllocRequest key k _ _ => decide (key < 2 ^ 17) && decide (k < 16)
  | .commandTimeout _ => true
  | .unknownOpcode _ => true
  | .sysNop _ => true
  | .sysGetInfo _ => true
  | .sysGetNonce _ => true
  | .sysQueryPending _ => true
  | .sysSetMgrPort _ => true
  | .sysWarmReset _ => true
  | .sysKeyProvision _ => true
  | .sysGetPairStatus _ => true
  | .fwGetSlots _ => true
  | .fwStage _ => true
  | .fwLoadStandby _ => true
  | .fwSwitch _ => true
  | .fwCommit _ => true
  | .timeSet _ => true
  | .timeGet _ => true
  | .timeSetFramePeriod _ => true
  | .timeSetPps _ => true
  | .timeAdjust _ => true
  | .timeGetDiscipline _ => true
  | .linkRecalibrate _ => true
  | .linkGetStatus _ => true
  | .treeGetTopology _ => true
  | .treeEnumerate _ => true
  | .treePortReset _ => true
  | .treeSuspend _ => true
  | .treeResume _ => true
  | .treeDeviceMode _ => true
  | .treeControlXfer _ => true
  | .treeRemoveDevice _ => true
  | .allocSetPolicy _ => true
  | .allocGetPolicy _ => true
  | .allocPinContexts _ => true
  | .allocUnpinContexts _ => true
  | .allocGetLoad _ => true
  | .graphLoad _ => true
  | .graphSwap _ => true
  | .graphUnload _ => true
  | .graphGetStats _ => true
  | .graphTraceConfig _ => true
  | .instCreate _ => true
  | .instDestroy _ => true
  | .instReset _ => true
  | .instGet _ => true
  | .instResize _ => true
  | .instGetPool _ => true
  | .pwrGetPort _ => true
  | .pwrSetPolicy _ => true
  | .pwrRequestContract _ => true
  | .pwrRoleSwap _ => true
  | .pwrHardReset _ => true
  | .pwrSetLimits _ => true
  | .pwrPortOff _ => true
  | .mainsConfigure _ => true
  | .mainsGetStatus _ => true
  | .mainsSetThresholds _ => true
  | .mainsCalibrate _ => true
  | .pairConfigure _ => true
  | .pairGetStatus _ => true
  | .pairSetNumber _ => true
  | .pairTakeover _ => true
  | .pairRelease _ => true
  | .pairPrepareReplace _ => true
  | .pdGetState _ => true
  | .pdSetState _ => true
  | .pdSetDvfs _ => true
  | .pdSleep _ => true
  | .pdSetWake _ => true
  | .crnGetInfo _ => true
  | .crnFreeze _ => true
  | .crnRead _ => true
  | .crnUnfreeze _ => true
  | .crnClear _ => true
  | .scrUnlock _ => true
  | .scrLock _ => true
  | .scrInject _ => true
  | .bistRun _ => true
  | .bistGetResult _ => true
  | .rstNAssert => true
  | .powerOn => true
  | .rstNRise => true
  | .regulatorsReady => true
  | .referenceReady => true
  | .pllLock => true
  | .warmReset => true
  | .nonceExpiry => true
  | .standbyTakeover => true
  | .switchStopTaking => true
  | .handoverStateCheck => true
  | .switchHandover => true
  | .suspendedBoundary => true
  | .frameOutFall => true
  | .ppsOutFall => true
  | .hardStop => true
  | .slewComplete => true
  | .framePeriodChange => true
  | .dmBusReset => true
  | .handleReleaseEffect => true
  | .addressHoldbackExpiry => true
  | .pageInIssue => true
  | .pageInRetry => true
  | .drainDeadline => true
  | .runDeadline => true
  | .traceRecordDrop => true
  | .graphSwapEffect => true
  | .eventCommit => true
  | .cpClaim => true
  | .deadBatteryStart => true
  | .tenCycleEnd => true
  | .tenSecondEnd => true
  | .calibrationComplete => true
  | .heartbeatMiss => true
  | .timeSourceReturn => true
  | .saddleStop => true
  | .pfiNDeassert => true
  | .busKeepEntry => true
  | .busKeepExit => true
  | .sleepEntry => true
  | .regulatorStageComplete => true
  | .wakeRetry => true
  | .dvfsChange => true
  | .railLossReboot => true
  | .vaoLoss => true
  | .freezeExpiry => true
  | .unlockExpiry => true
  | .vinPdLoss => true

end Sys2Proof
end

