-- ==== Sys2Proof/Tests/Slice0.lean ====
section
/-! SUPPORT. Tests: ill-formed commands that the check refuses, the worked values of the spec, and for every obligation with
hypotheses a concrete state and operands that meet them. -/

namespace Sys2Proof.Tests

open Sys2Proof Sys2Proof.Machine

set_option linter.all false
set_option maxRecDepth 100000

/-- A running controller: out of reset, its rails in range, pair A active. -/
def live : State :=
  let s : State := { State.reset with
    boot := { Boot.reset with stage := .running, rstN := true, vaoOk := true, vinOk := true, barOpen := true }
    fw := { Firmware.reset with pairA := { Firmware.reset.pairA with mode := .active } } }
  s.put Fd.GLB_STATUS_FW_RUNNING 1
def nx (o : Out) : State := match o with
  | .next t => t
  | _ => State.reset
def cmdOf (op : Nat) (req : List Byte) : Cmd :=
  { id := 1, mbx := 0, slot := 0, tag := 0, gen := 0, opcode := op, req := req, target := some 0, takeFrame := 0, timeout := 100, pend := false, begun := false, ended := none }
def withCmd (s : State) (c : Cmd) : State := { s with mbx := { s.mbx with taken := [c] } }
def hd (typ : Nat) (objs : List Nat) : SnsHead :=
  let b := typ * 2 ^ 12 + 3 * 2 ^ 9 + objs.length * 2 ^ 6
  { bits := b, check := crc32c (snsBody b objs) }

/-! ### Ill-formed commands: one term for each check of each row, which the check refuses -/

def noHead : SnsHead := { bits := 0, check := 0 }

def illFormed1 : List Instr := [
  .fwRunning 4294967296, .registerWrite .h0 .bar0 16777216 0 0, .registerWrite .h0 .bar0 0 32 0,
  .registerWrite .h0 .bar0 0 0 4294967296, .readClear .h0 .bar0 16777216 4, .readClear .h0 .bar0 0 3,
  .glbResetWrite .h0 4294967296, .scrubberRead 16 0 0, .scrubberRead 0 0 3,
  .mbxDoorbellWrite .h0 64 0, .mbxDoorbellWrite .h0 0 4294967296, .pendingOutcome 0 false 0 (List.replicate 4097 0),
  .colStart 256, .ppsEdge 4294967296 false, .holdoverEntry 4294967296,
  .rtcCalibration 4294967296 0, .rtcCalibration 0 281474976710656, .runningSnapshot 4294967296 0,
  .runningSnapshot 0 281474976710656, .sleepSnapshot 4294967296 0, .sleepSnapshot 0 281474976710656,
  .timeReconstruction 281474976710656, .systimeLatchRead .h0 4294967296, .ts1 8 0 false false,
  .ts1 0 65536 false false, .ts2 8 0, .ts2 0 65536,
  .pingSend 8 0, .lnkEcho 8 0 0, .lnkEcho 0 65536 0,
  .lnkTurn 8 0, .lnkTurn 0 65536, .trainingTimeout 8,
  .detectWaitEnd 8, .wordLockGain 8, .wordLockLoss 8,
  .wordError 8 0, .wordError 0 4294967296, .lnkIdle 8 0,
  .lnkIdle 0 65536, .unknownControlWord 8 0, .unknownControlWord 0 64,
  .lnkUmark 8 0, .lnkUmark 0 65536, .recoveryComplete 8,
  .recoveryTimeout 8, .pm 8 0, .pm 0 65536,
  .pmAnswerTimeout 8, .lnkBeacon 8, .lowPowerDetect 8 false,
  .recalDue 8 0, .recalDue 0 2, .recalSlotComplete 8,
  .lnkRetrainWrite .h0 8 0, .lnkRetrainWrite .h0 0 4294967296, .periodicLaunch 8 0 0,
  .periodicLaunch 0 3 0, .bulkLaunch 8 0 0, .bulkLaunch 0 3 0]
theorem test_wf_refuses_1 : illFormed1.all (fun i => !i.wf) = true := by decide

def illFormed2 : List Instr := [
  .histLaunch 8, .busCommandLaunch 8 false, .packetReceive 8 0 0 [] false false false,
  .packetReceive 0 8192 0 [] false false false, .packetReceive 0 0 65536 [] false false false, .packetReceive 0 0 0 [16777216] false false false,
  .packetReceive 0 0 0 (List.replicate 1027 0) false false false, .handshake 8 0 0, .handshake 0 8192 0,
  .handshake 0 0 65536, .responseWindowClose 8 0, .responseWindowClose 0 8192,
  .controlDeadline 8 0, .controlDeadline 0 8192, .enumerationStart 8,
  .enumerationRequestComplete 8, .busResetIdleEnd 8, .dmSof 4294967296 [],
  .dmSof 0 [65536], .dmSof 0 (List.replicate 17 0), .dmStrobe 4294967296,
  .dmToken 16 0 0, .dmToken 0 8192 0, .dmToken 0 0 16,
  .dmSetup 65536 [] false false false, .dmSetup 0 [16777216] false false false, .dmSetup 0 (List.replicate 1027 0) false false false,
  .dmPacket 65536 [] false false false, .dmPacket 0 [16777216] false false false, .dmPacket 0 (List.replicate 1027 0) false false false,
  .dmArmWrite .h0 16 0, .dmArmWrite .h0 0 4294967296, .dmRemoteWakeWrite .h0 4294967296,
  .ringDoorbell .h0 64 0 0, .ringDoorbell .h0 0 16384 0, .ringDoorbell .h0 0 0 65536,
  .openEntry .h0 64 0 0, .openEntry .h0 0 16384 0, .openEntry .h0 0 0 65536,
  .closeEntry .h0 64 0 0, .closeEntry .h0 0 16384 0, .closeEntry .h0 0 0 65536,
  .ackRing .h0 64 0 0, .ackRing .h0 0 16384 0, .ackRing .h0 0 0 65536,
  .descriptorStart 64 0, .descriptorStart 0 16384, .descriptorTimeout 64 0,
  .descriptorTimeout 0 16384, .inSlotWrite false 3 0, .outSlotFetch 131072,
  .pageDirectoryComplete 0 false (List.replicate 4097 0), .pageInComplete 0 false (List.replicate 4097 0), .pageLate 131072,
  .bulkInWrite false 3 0, .bulkOutFetch 131072, .dmaDoorbell .h0 (.page 64) 0 0,
  .dmaDoorbell .h0 .manager 32 0, .dmaDoorbell .h0 .manager 0 4294967296, .dmaCqAck .h0 (.page 64) 0 0]
theorem test_wf_refuses_2 : illFormed2.all (fun i => !i.wf) = true := by decide

def illFormed3 : List Instr := [
  .dmaCqAck .h0 .manager 32 0, .dmaCqAck .h0 .manager 0 4294967296, .dmaStop .h0 (.page 64) 0,
  .dmaStop .h0 .manager 32, .dmaEnable .h0 (.page 64) 0, .dmaEnable .h0 .manager 32,
  .dmaDescriptorStart 32, .dmaReadCompletion 0 false (List.replicate 4097 0) false 0 0 0, .dmaReadCompletion 0 false [] false 16 0 0,
  .dmaReadCompletion 0 false [] false 0 0 3, .dmaDescriptorEnd 32 false, .dmaRecordWrite 32 false,
  .nodeStart 16, .nodeComplete 16 [], .instanceReset 64,
  .msixUnmask .h0 256, .holdoffExpiry 1024, .quarantine 1024,
  .evqClaim .h0 (.page 64) 0, .evqClaim .h0 .manager 256, .evqComplete .h0 (.page 64) 0 0,
  .evqComplete .h0 .manager 256 0, .evqComplete .h0 .manager 0 4294967296, .evqCons .h0 (.page 64) 0 0,
  .evqCons .h0 .manager 256 0, .evqCons .h0 .manager 0 4294967296, .evqSet .h0 (.page 64) 0,
  .evqSet .h0 .manager 1024, .evqQuarClear .h0 (.page 64) 0, .evqQuarClear .h0 .manager 1024,
  .evqQueueEnable .h0 (.page 64) 0 0, .evqQueueEnable .h0 .manager 256 0, .evqQueueEnable .h0 .manager 0 4294967296,
  .wakeLatchSet 4 false 0 0, .wakeLatchSet 0 false 4294967296 0, .wakeLatchSet 0 false 0 281474976710656,
  .wakeStampCapture 281474976710656, .snsWindowEnter 8, .snsAttach 8 0,
  .snsAttach 0 4294967296, .snsDetach 8 0, .snsDetach 0 4,
  .drpToggle 8, .capsSend 8, .capsRepeat 8,
  .vpInWindow 8, .goodRx 8 noHead, .goodRx 0 { bits := 2 ^ 16, check := 0 },
  .goodRx 0 { bits := 0, check := 2 ^ 32 }, .srcCaps 8 noHead [], .srcCaps 0 { bits := 2 ^ 16, check := 0 } [],
  .srcCaps 0 noHead [4294967296], .srcCaps 0 noHead (List.replicate 8 0), .srcCaps 0 { bits := 0, check := 2 ^ 32 } [],
  .snkCaps 8 noHead [], .snkCaps 0 { bits := 2 ^ 16, check := 0 } [], .snkCaps 0 noHead [4294967296],
  .snkCaps 0 noHead (List.replicate 8 0), .snkCaps 0 { bits := 0, check := 2 ^ 32 } [], .snsRequest 8 noHead []]
theorem test_wf_refuses_3 : illFormed3.all (fun i => !i.wf) = true := by decide

def illFormed4 : List Instr := [
  .snsRequest 0 { bits := 2 ^ 16, check := 0 } [], .snsRequest 0 noHead [4294967296], .snsRequest 0 noHead (List.replicate 8 0),
  .snsRequest 0 { bits := 0, check := 2 ^ 32 } [], .snsAccept 8 noHead [], .snsAccept 0 { bits := 2 ^ 16, check := 0 } [],
  .snsAccept 0 noHead [4294967296], .snsAccept 0 noHead (List.replicate 8 0), .snsAccept 0 { bits := 0, check := 2 ^ 32 } [],
  .snsReject 8 noHead [], .snsReject 0 { bits := 2 ^ 16, check := 0 } [], .snsReject 0 noHead [4294967296],
  .snsReject 0 noHead (List.replicate 8 0), .snsReject 0 { bits := 0, check := 2 ^ 32 } [], .snsWait 8 noHead [],
  .snsWait 0 { bits := 2 ^ 16, check := 0 } [], .snsWait 0 noHead [4294967296], .snsWait 0 noHead (List.replicate 8 0),
  .snsWait 0 { bits := 0, check := 2 ^ 32 } [], .psReady 8 noHead [], .psReady 0 { bits := 2 ^ 16, check := 0 } [],
  .psReady 0 noHead [4294967296], .psReady 0 noHead (List.replicate 8 0), .psReady 0 { bits := 0, check := 2 ^ 32 } [],
  .getSrcCaps 8 noHead [], .getSrcCaps 0 { bits := 2 ^ 16, check := 0 } [], .getSrcCaps 0 noHead [4294967296],
  .getSrcCaps 0 noHead (List.replicate 8 0), .getSrcCaps 0 { bits := 0, check := 2 ^ 32 } [], .getSnkCaps 8 noHead [],
  .getSnkCaps 0 { bits := 2 ^ 16, check := 0 } [], .getSnkCaps 0 noHead [4294967296], .getSnkCaps 0 noHead (List.replicate 8 0),
  .getSnkCaps 0 { bits := 0, check := 2 ^ 32 } [], .prSwap 8 noHead [], .prSwap 0 { bits := 2 ^ 16, check := 0 } [],
  .prSwap 0 noHead [4294967296], .prSwap 0 noHead (List.replicate 8 0), .prSwap 0 { bits := 0, check := 2 ^ 32 } [],
  .softReset 8 noHead [], .softReset 0 { bits := 2 ^ 16, check := 0 } [], .softReset 0 noHead [4294967296],
  .softReset 0 noHead (List.replicate 8 0), .softReset 0 { bits := 0, check := 2 ^ 32 } [], .notSupported 8 noHead [],
  .notSupported 0 { bits := 2 ^ 16, check := 0 } [], .notSupported 0 noHead [4294967296], .notSupported 0 noHead (List.replicate 8 0),
  .notSupported 0 { bits := 0, check := 2 ^ 32 } [], .snsAlert 8 noHead [], .snsAlert 0 { bits := 2 ^ 16, check := 0 } [],
  .snsAlert 0 noHead [4294967296], .snsAlert 0 noHead (List.replicate 8 0), .snsAlert 0 { bits := 0, check := 2 ^ 32 } [],
  .frSwap 8 noHead [], .frSwap 0 { bits := 2 ^ 16, check := 0 } [], .frSwap 0 noHead [4294967296],
  .frSwap 0 noHead (List.replicate 8 0), .frSwap 0 { bits := 0, check := 2 ^ 32 } [], .hardReset 8]
theorem test_wf_refuses_4 : illFormed4.all (fun i => !i.wf) = true := by decide

def illFormed5 : List Instr := [
  .messageRetry 8, .snsCollision 8, .backoffExpiry 8,
  .snkPsrExpiry 8, .waitAgainExpiry 8, .trequestExpiry 8,
  .swapPsReadyTimeout 8, .swapContractTimeout 8, .protectionTrip 8 1,
  .protectionTrip 0 0, .protectionTrip 0 8, .retryDelayExpiry 8,
  .frsTrigger 8 0 false, .frsTrigger 0 4294967296 false, .frsRecognition 8,
  .frsTurnOn 8, .frsCancel 8, .frsContractExpiry 8,
  .hardResetDischarged 8, .urmsWindowEnd 4294967296, .zeroCrossing 4294967296,
  .saddleHeartbeat 2 0 0 0 0 false, .saddleHeartbeat 0 64 0 0 0 false, .saddleHeartbeat 0 0 4294967296 0 0 false,
  .saddleHeartbeat 0 0 0 4 0 false, .saddleTime 2 0 0 0 0 0 false 0 0 0, .saddleTime 0 64 0 0 0 0 false 0 0 0,
  .saddleTime 0 0 4294967296 0 0 0 false 0 0 0, .saddleTime 0 0 0 1000000000 0 0 false 0 0 0, .saddleTime 0 0 0 0 4294967296 0 false 0 0 0,
  .saddleTime 0 0 0 0 0 5 false 0 0 0, .timeLoss 4294967296, .saddleHandover [8192] 0,
  .saddleHandover [] 4294967296, .spurLost 8192 false, .saddleLinkUp 2 0 0 0 0,
  .saddleLinkUp 0 64 0 0 0, .saddleLinkDown 2, .pfiNAssert 4294967296,
  .wakeTrigger 281474976710656, .rtcAlarm 281474976710656, .regulatorTimeout 5 0,
  .regulatorTimeout 0 281474976710656, .oscStageTimeout 281474976710656, .dvsPgAssert 4294967296,
  .dvsPgTimeout 4294967296, .railLoss 5, .injectionEnd 0,
  .injectionEnd 10, .snsWindowLeave 8 0, .snsWindowLeave 0 4,
  .frsSignalEnd 8, .dmHandshake 8 0, .dmHandshake 0 8192,
  .lnkPing 8 0 0, .lnkPing 0 65536 0, .lnkPing 0 0 65536,
  .mainsSample 4294967296 0 0 0 0, .hostReadCompletion 0 false (List.replicate 4097 0), .partnerAllocRequest 131072 0 0 false]
theorem test_wf_refuses_5 : illFormed5.all (fun i => !i.wf) = true := by decide

def illFormed6 : List Instr := [
  .partnerAllocRequest 0 16 0 false]
theorem test_wf_refuses_6 : illFormed6.all (fun i => !i.wf) = true := by decide

/-- With each operand in its range the same rows are accepted. -/
theorem test_wf_accepts : [Instr.imageSelect true true, .registerWrite .h0 .bar0 0xFFFFFF 15 0xFFFFFFFF, .ts1 7 0xFFFF false false, .evqClaim .h0 (.page 63) 255,
    .mbxDoorbellWrite .h1 63 0xFFFFFFFF, .srcCaps 7 { bits := 0xFFFF, check := 0xFFFFFFFF } (List.replicate 7 0xFFFFFFFF), .injectionEnd 9, .dmaStop .h0 .manager 31].all Instr.wf = true := by decide


/-! ### The spec's worked values -/

/-- 00, the identifier example: EP1 IN of device 18 on controller 5. -/
theorem test_sea : seaOf true 5 18 1 = 0x8A0121 := by decide

/-- R94: the two check values. -/
theorem test_crc4 : crc4 (2 * 2 ^ 28) = 0xC ∧ crc4 (1 * 2 ^ 28) = 0x8 := by decide

/-- R95: the mask of the second word time after loading. -/
theorem test_scrambler : lfsrWord 0xFFFFFF = 0x00007D := by decide

/-- R105 and the worked delay: 64 exchanges whose mean trip is 638.75 units give 319 units one way. -/
theorem test_one_way_delay : judgeTrips (some (List.replicate 48 639 ++ List.replicate 16 638)) = .good 319 := by decide

/-- R105: an exchange outside the 8-unit spread repeats the measurement; a missing one does too. -/
theorem test_delay_again : judgeTrips (some (630 :: List.replicate 63 639)) = .again ∧ judgeTrips none = .again := by decide

/-- R126 and the worked round trip: the answer comes 1,766 units after T0. -/
theorem test_round_trip : respE 583 536 = 1766 := by decide

/-- R190 and the worked admission: 8 wt down, 130 wt up; at K = 0 the share cost is 8,832 and at K = 1 4,416. -/
theorem test_admission_cost : svcCost 2 true 60 1 = (8, 130) ∧ shareCost (8, 130) 0 = 8832 ∧ shareCost (8, 130) 1 = 4416 := by decide

/-- The response of the worked admission: SCH_ALLOC_RESP and SCH_ALLOC_PLACE. -/
theorem test_admission_response :
    let t := State.reset.postRegs { op := 1, sea := 0x800121, result := 2, refusal := 6, bwhat := 2, blink := 1, bport := 3, baddr := 0
                                    handle := 0, altK := 1, altWords := 42, k := 0, phase := 0, words := 60, first := 0, old := 0 }
    t.rd Reg.SCH_ALLOC_RESP = 0x53258000 ∧ t.rd Reg.SCH_ALLOC_PLACE = 0x102A0000 := by decide

/-- R188: the three samples of the example, packed and unpacked. -/
theorem test_packing :
    packWords false [0xFFFFFF, 0x123456, 0x800000] = [0xFF, 0xFF, 0xFF, 0x56, 0x34, 0x12, 0x00, 0x00, 0x80] ∧
    packWords true [0xFFFFFF, 0x123456, 0x800000] = [0xFF, 0xFF, 0xFF, 0xFF, 0x56, 0x34, 0x12, 0x00, 0x00, 0x00, 0x80, 0xFF] := by decide

/-- R237 to R239 and the worked overlapping copy: the ranges overlap, and the highest block is copied first, from 0x202 to 0x22F of the
source. -/
def copyJob : DmaJob :=
  { index := 0, bytes := leBytes 8 0x100000103 ++ leBytes 8 0x100000181 ++ leBytes 4 300 ++ leBytes 12 0, overlap := true, dir := 1
    lo := 0, hi := 300, crc := 0, moved := 0, outcome := none, loaded := true }
theorem test_overlap : copyJob.overlaps = true ∧ copyJob.error = 0 ∧ copyJob.block = (0xFF, 45) := by decide

/-- R260 and the worked pack: 96 voltages, the largest 37,260 at element 41, the smallest 36,950, their sum 3,553,200. -/
def packCells : List Int := List.replicate 41 37011 ++ [37260, 36950] ++ List.replicate 9 37011 ++ List.replicate 44 37010
theorem test_imbalance : packCells.length = 96 ∧
    (reduceVals { op := 0x35, trace := false, hint := none, a := some 0, b := none, c := none, outLen := 4, p := [84, 0, 0, 0, 0] }
      (packCells.zipIdx.map fun y => (y.2, y.1)) { acc := 0, nar := 0 }).1 = [310, 248, 41, 37012] := by decide

/-- R263: the payload, the bitmap byte and the stride of its slot. -/
theorem test_imbalance_payload :
    slotPayload { log2 := 0, unpacked := true, inst := 0, gen := 0, base := 0, pasid := 0, len := 4, wcount := 0 }
      [(310, true), (248, true), (41, true), (37012, true)] =
      [0x36, 0x01, 0, 0, 0xF8, 0, 0, 0, 0x29, 0, 0, 0, 0x94, 0x90, 0, 0, 0x0F] ∧
    RList.stride { log2 := 0, unpacked := true, inst := 0, gen := 0, base := 0, pasid := 0, len := 4, wcount := 0 } = 48 := by decide

/-- R255: 37,012.5 rounds half to even to 37,012. -/
theorem test_half_to_even : divRoundEven 3553200 96 = 37012 ∧ divRoundEven 37013 2 = 18506 ∧ divRoundEven 37015 2 = 18508 := by decide

/-- R300 and the worked claim: the claimed word of LINK2, source 10, whose level stands. -/
def linkDown : State := (live.put (Fd.LNK_EVENT_DOWN 2) 1).putSrc 10 { live.src 10 with occ := 1, st := .pending }
theorem test_claim_words : linkDown.recWord0 10 false = 0x02807100 ∧ (linkDown.putSrc 10 { linkDown.src 10 with occ := 0 }).claimWord 10 = 0xC000000A := by
  decide

/-- R317 and the worked contract: the 12 V PDO is 0x1F480000 and the request object 0x6C838464. -/
theorem test_objects : pdoVolt 0x5F480000 = 1 ∧ pdoCurrent 0x1F480000 = 500 ∧ reqPos 0x6C838464 = 3 ∧ reqMax 0x6C838464 = 450 ∧
    reqFrs 0x6C838464 = 100 := by decide

/-- R86 and the worked reconstruction: the snapshot of the example, read at RTC count 197,656,576. -/
def sleptBytes : List Byte :=
  leBytes 4 0x4D495454 ++ leBytes 4 86400 ++ leBytes 4 200001250 ++ leBytes 4 7000000 ++ leBytes 8 1048576 ++ leBytes 4 1999960000 ++
    leBytes 4 30 ++ leBytes 4 0 ++ leBytes 4 1 ++ leBytes 4 50000
def slept : State := { State.reset with tarn := Memory.write zeroByte [] 0 sleptBytes }
theorem test_reconstruction : (slept.reconstruct 197656576).time.sys = (92400 * 1000000000 + 80001250) * nsUnit ∧
    (slept.reconstruct 197656576).time.frameNo = 30999520 ∧ (slept.reconstruct 197656576).time.boundary = 92400 * 1000000000 + 80000000 ∧
    (slept.reconstruct 197656576).time.disc.uncertBase = 299994040 := by decide

/-- R349: e is the stamp less the boundary and the path delay, across the wrap of SYSTIME too. -/
theorem test_follow_err : followErr 1000000020 1 0 0 = 20 ∧ followErr 999999990 1 0 0 = -10 ∧ followErr (2 ^ 32 * 1000000000 - 7) 0 0 0 = -7 := by
  decide

/-- R314, R315 and the worked exchange: the SRC_CAPS message of three PDOs has HEADER 0xA0F4 and 184 bits, two half-cells each, and one at
the end. -/
def capsMsg : SnsMsg := { typ := 10, id := 0, prole := true, drole := true, objs := [0x1F480000, 0x5F480000, 0x9F480000] }
theorem test_header : capsMsg.header = 0xA0F4 ∧ capsMsg.cells.length = 2 * 184 + 1 := by decide

/-- R315: a received message counts when its CHECK and COUNT fit. -/
theorem test_received : snsGood (hd 10 [5]) [5] = true ∧ snsGood (hd 10 [5]) [6] = false ∧ snsGood (hd 10 [5]) [5, 6] = false ∧
    snsType (hd 10 [5]) = 10 ∧ snsId (hd 10 [5]) = 3 := by decide

/-- R244, R245: the areas tile the 131,072 words of the shared scratch. -/
theorem test_scratch : (ScratchArea.all.map fun a => (a.base, a.words)) = [(0, 32768), (0x8000, 49152), (0x14000, 24576), (0x1A000, 4096), (0x1B000, 16384),
    (0x1F000, 4096)] ∧ 0x1F000 + 4096 = scratchWords := by decide

/-- R19: the regions tile the 64 KiB of Tarn. -/
theorem test_tarn : tarnRegion 0x3FF = some .time ∧ tarnRegion 0x400 = some .shadow ∧ tarnRegion 0x600 = some .hold ∧ tarnRegion 0xA00 = some .boot ∧
    tarnRegion 0xC00 = some .save ∧ tarnRegion 0xC000 = some .firmware ∧ tarnRegion 0xFFFF = some .firmware ∧ tarnRegion 0x10000 = none := by decide

/-! ### Witnesses -/

theorem accBase_le (s : State) (p : Nat) (he : (s.time.stamp + sysWrap - s.time.boundary * nsUnit) % sysWrap = 0) (hj : s.accJitter p = 0) :
    s.accBase p ≤ 200 := by
  unfold State.accBase
  rw [he, hj]
  generalize Config.launchOffset p s.frame = x
  revert x
  decide

theorem enumReason_none (s : State) (e : Enum) (n : Nat) (hj : s.accBase e.link.port ≤ 200) (h1 : e.tier ≤ 6)
    (h2 : (s.portDevices e.link.port).length < 1024) (h3 : s.devices.length < s.maxDevices) (hn : s.strobeOffset * 64 = n)
    (h4 : 200 + e.down + 16 * 64 ≤ n) (h5 : (respE e.down e.turn + 63) / 64 + 4 ≤ s.get Fd.SCH_POLICY0_TAIL_WT)
    (h6 : e.hubInfo = false) : s.enumReason e = none := by
  unfold State.enumReason
  rw [if_neg (by omega), if_neg (by omega), if_neg (by omega), if_neg (by omega), if_neg (by rw [h6]; simp; omega)]

theorem enumReason_late (s : State) (e : Enum) (n : Nat) (h1 : e.tier ≤ 6) (h2 : (s.portDevices e.link.port).length < 1024)
    (h3 : s.devices.length < s.maxDevices) (hn : s.strobeOffset * 64 = n) (h4 : n < e.down) : s.enumReason e = some 4 := by
  unfold State.enumReason
  rw [if_neg (by omega), if_neg (by omega), if_neg (by omega), if_pos (by omega)]

def default_PendOutcome : PendOutcome := { mbx := 0, tag := 0, id := 0, done := false, status := 0, detail := 0, frame := 0, resp := [] }
def default_CairnClear : CairnClear := { cmd := 0, scope := 0, keySlot := 0, erased := false, failed := false }
def default_DvsChange : DvsChange := { cmd := none, target := 0, old := 0, code := 0, begun := false, pg := none }
def default_BistRun : BistRun := { cmd := 0, tests := 0, ports := 0 }
def default_Injection : Injection := { kind := 0, port := 0, p0 := 0, p1 := 0, ends := none, left := 0 }
def default_Grant : Grant := { key := 0, sea := 0, k := 0, phase := 0, words := 0, handle := 0, system := false, owner := 0, first := 0, leave := none, close := false, gone := none }
def default_EpDesc : EpDesc := { num := 0, dirIn := false, typ := 0, words := 0, minK := 0, hist := 0, fmt := 0 }
def default_Ctx : Ctx := { valid := false, typ := 0, state := 0, sea := 0, inst := 0, gen := 0, entry := 0, format := 0, dfmt := 0, toggle := 0, maxWords := 0, k := 0, phase := 0, port := 0, tier := 0, hist := 0, intent := 0, handle := 0, enq := 0, deq := 0, retries := 0, done := 0, runCrc := 0, lastFrame := 0, newest := 0, wcount := 0, deferrals := 0, errors := 0, noSample := 0, stale := 0, wbSeq := 0 }
def default_CacheState : CacheState := .free
def default_CtxEnt : CtxEnt := { ctx := default_Ctx, st := .free, held := false, autoPin := false, explPin := false, wbPin := false, pinAt := 0, locked := false, used := 0, fails := 0, gone := false, defer := 0, page := 0, lateIn := none }
def default_LinkSel : LinkSel := { port := 0, hport := 0, hub := 0 }
def default_Device : Device := { link := default_LinkSel, tier := 0, isHub := false, dual := false, cls := 0, owner := 0, down := 0, turn := 0, fwd := 0, ports := 0, ganged := false, power := 0, eps := [], susp := false, alone := false, recov := false, wakeEn := false, wake := false, routes := [], groups := [], covered := false }
def default_Side : Side := .h0
def default_ReadUse : ReadUse := .directory
def default_HostRead : HostRead := { tag := 0, port := .h0, pasid := none, addr := 0, len := 0, use := .directory, inst := 0, gen := 0, key := 0, frame := 0, off := 0, dead := false, ecrc := false }
def default_Entry : Entry := { kind := 0, cring := 0, sea := 0, log2 := 0, e2e := false, format := 0, base := 0, pasid := 0, gen := 0, prod := 0, cons := 0, resv := 0, enq := 0, deq := 0, ringFrame := 0, ringPrev := 0, live := false, closing := none, desc := none, fetch := false, wrote := false }
def default_Cairn : Cairn := { mram := [], shadow := [], hold := [], queue := [], draining := false, raised := 0, cycle := (0, 0), flush := false, shadowAt := none, undef := false, opFrom := 0, opCyc := 0, last := none, frozenAt := none, lostRun := 0, lostAll := 0, holdLost := 0, holdAll := 0, powerCycles := 0, opSec := 0, lastSeq := 0, next := 0, wrapped := false, media := false, clears := 0, logNext := 0, update := 0, copy := 0, clearing := none, hdrAt := 0, reads := [] }
def default_GBusy : GBusy := { run := 0, node := 0, start := 0, stop := 0 }
def default_JtagInstr : JtagInstr := .bypass
def default_RegDesc : RegDesc := { rw := 0, w1c := 0, rc := 0, rws := 0, wo := 0, reset := 0, rsv := [] }
def default_PairId : PairId := .a
def default_FwSwitch : FwSwitch := { cmd := 0, target := 0, stopped := false, written := none, accepted := none }
def default_Svc : Svc := { key := 0, port := 0, addr := 0, ep := 0, dirIn := false, assured := false, frame := 0, inst := 0, gen := 0, entry := 0, attempts := 0, ready := false, cause := 0, past := false, order := 0 }
def default_PeriodChange : PeriodChange := { cmd := 0, code := 0, strobe := 0, target := 0 }
def default_Exchange : Exchange := { seq := 0, launch := 0, echo := none, trip := none }
def default_EventRec : EventRec := { queue := 0, index := 0, phase := 0, word0 := 0, arg := 0, frame := 0, ns := 0, inst := 0, gen := 0, commit := 0, old := false }
def default_CpReq : CpReq := .tick
def default_TxnKind : TxnKind := .periodic
def default_Need : Need := { down := 0, ack := false, up := 0, resp := 0, path := 0 }
def default_Txn : Txn := { port := 0, addr := 0, key := 0, ep := 0, kind := .periodic, dirIn := false, setup := false, frame := 0, inst := 0, gen := 0, entry := 0, bytes := 0, hold := 0, abort := false, ready := false, start := 0, need := default_Need }
def default_HistRec : HistRec := { key := 0, inst := 0, gen := 0, entry := 0, sframe := 0, tries := 0, triedAt := none, catchup := false }
def default_SysUse : SysUse := .enumerate
def default_CtlStage : CtlStage := .setup
def default_SysCtl : SysCtl := { port := 0, addr := 0, setup := [], out := [], use := .enumerate, stage := .setup, begun := none, moved := 0, toggle := 0, fails := 0, got := [], result := none }
def default_Desc : Desc := { index := 0, bytes := [], started := none, fails := 0, stage := .setup, moved := 0, zlp := false, crcRun := 0, stop := none }
def default_GCmd : GCmd := { port := 0, group := 0, ep := 0, words := [], frame := 0 }
def default_BulkW : BulkW := { inst := 0, gen := 0, entry := 0, key := 0, index := 0, off := 0, crc := 0, addr := 0, bytes := [], bank := 0 }
def default_SlotW : SlotW := { key := 0, inst := 0, gen := 0, entry := 0, sframe := 0, bank := 0, result := 0, fly := false, hist := false, cause := 0, words := [], notRed := false, assured := false }
def default_EnumStep : EnumStep := .route0
def default_Enum : Enum := { link := default_LinkSel, step := .route0, pos := 0, path := [], addr := 0, tier := 0, down := 0, turn := 0, hubInfo := false, dev := [], eps := [], hubd := [], repeats := 0, page := none, waiting := false }
def default_CRec : CRec := { inst := 0, gen := 0, cring := 0, entry := 0, bytes := [], notify := false, resv := false }
def default_OutState : OutState := .reading
def default_OutSvc : OutSvc := { key := 0, inst := 0, gen := 0, entry := 0, frame := 0, first := none, words := [], st := .reading }
def default_OutRes : OutRes := { key := 0, inst := 0, gen := 0, entry := 0, frame := 0, result := 0, words := 0 }
def default_Ask : Ask := { addr := 0, typ := 0, dirIn := false, k := 0, words := 0, minK := 0, owner := 0, system := false, gs := [] }
def default_AllocReq : AllocReq := { op := 0, sea := 0, result := 0, refusal := 0, bwhat := 0, blink := 0, bport := 0, baddr := 0, handle := 0, altK := 0, altWords := 0, k := 0, phase := 0, words := 0, first := 0, old := 0 }
def default_DmaJob : DmaJob := { index := 0, bytes := [], overlap := false, dir := 0, lo := 0, hi := 0, crc := 0, moved := 0, outcome := none, loaded := false, asked := false, rlo := 0, rhi := 0, got := [] }
def default_DmaRec : DmaRec := { inst := 0, gen := 0, bytes := [], frame := 0, code := 0, notify := false, resv := false, last := false }
def default_Sat : Sat := { acc := 0, nar := 0 }
def default_GNode : GNode := { op := 0, trace := false, hint := none, a := none, b := none, c := none, outLen := 0, p := [] }
def default_GRun : GRun := { n := 0, bank := 0, rel := 0, out := [], ended := [], due := [], swapped := false, mains := [], flags := 0 }
def default_GReady : GReady := { run := 0, rel := 0, node := 0, at_ := 0 }
def default_RList : RList := { log2 := 0, unpacked := false, inst := 0, gen := 0, base := 0, pasid := 0, len := 0, wcount := 0 }
def default_GSlot : GSlot := { list := default_RList, index := 0, bank := 0, load := 0, n := 0, result := 0, swapped := false, value := [] }
def default_GTraceRec : GTraceRec := { addr := 0, pasid := none, words := [], made := 0 }
def default_GBank : GBank := { id := 0, nodes := [], pool := [], lists := [], st := [], aff := [], bad := [], fresh := false, dying := false, load := 0, lost := [] }
def default_SnsMsg : SnsMsg := { typ := 0, id := 0, prole := false, drole := false, objs := [] }
def default_SnsHead : SnsHead := { bits := 0, check := 0 }
def default_MirrorDev : MirrorDev := { addr := 0, port := 0, hport := 0, hub := 0, up := 0, pport := 0, delay := 0, turn := 0, isHub := false, dual := false, cls := 0, fwd := 0, ports := 0, ganged := false, power := 0, eps := [] }
def default_SleepDue : SleepDue := { frame := 0, depth := 0, cluOff := false }
def default_Keep : Keep := { standby := 0, clu := 0, point := 0, links := [], seen := 0, door := false }
def default_MainsCal : MainsCal := { cmd := 0, ch := 0, vref := 0, cycles := 0, groups := [] }
def default_CairnRec : CairnRec := { kind := 0, code := 0, rpt := 0, arg := 0, frame := 0, sec := 0, us := 0, est := false, held := false, power := 0, ord := 0 }
def default_CairnLast : CairnLast := { record := default_CairnRec, seq := 0, slot := 0, latest := 0, rewrote := 0, dirty := false }

def w_0 : State := { live with boot := { live.boot with vaoOk := false } }
def w_1 : State := { live with boot := { live.boot with rstN := false } }

/-- The hypotheses of the clauses of ColdResetAndPowerOn are met. -/
theorem witness_ColdResetAndPowerOn :
    ((w_0.boot.vaoOk = false ∨ w_0.boot.vinOk = false)) ∧
    (w_1.boot.rstN = false) ∧
    ((JtagInstr.extest = .extest ∨ JtagInstr.extest = .clamp ∨ JtagInstr.extest = .highz)) ∧
    (default_JtagInstr ≠ .extest ∧ default_JtagInstr ≠ .clamp ∧ default_JtagInstr ≠ .highz) := by
  refine ⟨?_, ?_, ?_, ?_⟩ <;> decide

def w_2 : State :=
  let s := live
  let s := { s with boot := { s.boot with stage := .regulators } }
  { s with pdm := { s.pdm with seq := false } }
def w_3 : State :=
  let s := live
  let s := { s with boot := { s.boot with stage := .regulators } }
  { s with pdm := { s.pdm with seq := true } }
def w_4 : State :=
  let s := live
  let s := { s with boot := { s.boot with stage := .regulators } }
  let s := { s with pdm := { s.pdm with seq := true } }
  let s := { s with pdm := { s.pdm with rail := 4 } }
  { s with pdm := { s.pdm with rail := 4 } }
def w_5 : State := { live with boot := { live.boot with stage := .reference } }
def w_6 : State :=
  let s := live
  let s := { s with boot := { s.boot with stage := .regulators } }
  let s := { s with pdm := { s.pdm with seq := true } }
  { s with pdm := { s.pdm with rail := 4 } }
def w_7 : State :=
  let s := live
  let s := { s with pdm := { s.pdm with retry := true } }
  { s with boot := { s.boot with stage := .stopped } }

/-- The hypotheses of the clauses of RegulatorStages are met. -/
theorem witness_RegulatorStages :
    (w_2.boot.stage = .regulators ∧ w_2.pdm.seq = false) ∧
    (w_3.boot.stage = .regulators ∧ w_3.pdm.seq = true ∧ w_3.pdm.rail < 4) ∧
    (w_4.boot.stage = .regulators ∧ w_4.pdm.seq = true ∧ 4 ≤ w_4.pdm.rail) ∧
    (w_5.boot.stage = .reference) ∧
    (w_2.boot.stage = .regulators ∧ w_2.pdm.seq = false ∧ 1 < 4) ∧
    (w_6.boot.stage = .regulators ∧ w_6.pdm.seq = true ∧ w_6.pdm.rail = 4) ∧
    (w_7.pdm.retry = true ∧ w_7.boot.stage = .stopped) := by
  refine ⟨?_, ?_, ?_, ?_, ?_, ?_, ?_⟩ <;> decide

def w_8 : State :=
  let s := live
  let s := { s with boot := { s.boot with stage := .pll } }
  { s with pdm := { s.pdm with waking := false } }
def w_9 : State := { live with boot := { live.boot with stage := .rom } }
def w_10 : State := { live with boot := { live.boot with stage := .loaded } }
def w_11 : State :=
  let s := live
  let s := { s with fw := { s.fw with pairB := { s.fw.pairB with mode := .loading } } }
  let s := { s with boot := { s.boot with stage := .running } }
  let s := { s with fw := { s.fw with pairB := { s.fw.pairB with mode := .loading } } }
  let s := { s with fw := { s.fw with pairB := { s.fw.pairB with back := none } } }
  let s := { s with pdm := { s.pdm with stdCmd := none } }
  { s with pdm := { s.pdm with keepFault := false } }

/-- The hypotheses of the clauses of BootToRunning are met. -/
theorem witness_BootToRunning :
    (w_8.boot.stage = .pll ∧ w_8.pdm.waking = false) ∧
    (w_9.boot.stage = .rom ∧ (true ∨ true)) ∧
    (w_10.boot.stage = .loaded) ∧
    (w_11.boot.stage = .running ∧ w_11.otherPair.mode = .loading ∧ w_11.otherPair.back = none ∧ w_11.standbyOn = true ∧
      w_11.bistStandby = false ∧ w_11.pdm.stdCmd = none ∧ w_11.pdm.keepFault = false) := by
  refine ⟨?_, ?_, ?_, ?_⟩ <;> decide


/-- The hypotheses of the clauses of UnsupportedRequests are met. -/
theorem witness_UnsupportedRequests :
    (1 < 16 ∧ (1 ≠ 15 ∨ 1 % 4 ≠ 0)) ∧
    ((1 ≠ 4 ∨ 1 % 4 ≠ 0)) := by
  refine ⟨?_, ?_⟩ <;> decide

def w_12 : State :=
  let s := live
  let s := { s with boot := { s.boot with barOpen := true } }
  s.putInst (0x10000 / 0x10000) { s.instOf (0x10000 / 0x10000) with exist := false }

/-- The hypotheses of the clauses of WindowsAndWarmReset (part ForeignPages) are met. -/
theorem witness_ForeignPages :
    (w_12.boot.barOpen = true ∧ 0x10000 < 0x400000 ∧ 0x10000 % 4 = 0 ∧
      ((w_12.instOf (0x10000 / 0x10000)).exist = false ∨ (w_12.instOf (0x10000 / 0x10000)).port ≠ .h0)) := by
  decide

def w_13 : State := { live with boot := { live.boot with barOpen := false } }

/-- The hypotheses of the clauses of WindowsAndWarmReset (part ClosedWindows) are met. -/
theorem witness_ClosedWindows :
    (w_13.boot.barOpen = false ∧ 4 < 0x100000 ∧ 4 % 4 = 0) ∧
    (w_13.boot.barOpen = false ∧ 4 < 0x400000 ∧ 4 % 4 = 0) := by
  refine ⟨?_, ?_⟩ <;> decide

def w_14 : State := { live with part := .k4 }
def w_15 : State := live.putBit (Reg.MBX_OWNER 0) 0 true
def w_16 : State := { live with host := { live.host with ecrcChk := [.h0] } }

/-- The hypotheses of the clauses of RegisterReadsAndWrites (part RegisterAccesses) are met. -/
theorem witness_RegisterAccesses :
    ((Space.bar0 = .bar0 ∨ Space.bar0 = .bar2) ∧ w_14.place Space.bar0 0x34000 = some (Via.manager, Place.none) ∧
      w_14.reach Side.h0 Via.manager = .ok ∧ 0x34000 % 4 = 0 ∧ 1 < 2 ^ 32 ∧ Place.none = .none) ∧
    ((Space.bar0 = .bar0 ∨ Space.bar0 = .bar2) ∧ w_15.place Space.bar0 0x10004 = some (Via.manager, ((Place.slot 0 4))) ∧
      w_15.reach Side.h0 Via.manager = .ok ∧ 0x10004 % 4 = 0 ∧ 1 < 2 ^ 32 ∧ ((Place.slot 0 4)) = .slot 0 4 ∧
      w_15.bitOf (Reg.MBX_OWNER 0) (4 / 0x100) = true) ∧
    ((Space.bar0 = .bar0 ∨ Space.bar0 = .bar2) ∧ live.place Space.bar0 0x10004 = some (Via.manager, ((Place.slot 0 4))) ∧
      live.reach Side.h0 Via.manager = .ok ∧ 0x10004 % 4 = 0 ∧ 1 < 2 ^ 32 ∧ ((Place.slot 0 4)) = .slot 0 4 ∧
      live.bitOf (Reg.MBX_OWNER 0) (4 / 0x100) = false) ∧
    ((Space.bar0 = .bar0 ∨ Space.bar0 = .bar2) ∧ live.place Space.bar0 0x4800C = some (Via.manager, ((Place.buf 3))) ∧
      live.reach Side.h0 Via.manager = .ok ∧ 0x4800C % 4 = 0 ∧ 1 < 2 ^ 32 ∧ ((Place.buf 3)) = .buf 3) ∧
    ((Space.bar0 = .bar0 ∨ Space.bar0 = .bar2) ∧ live.place Space.bar0 0xA1004 = some (Via.manager, ((Place.srcCfg 1))) ∧
      live.reach Side.h0 Via.manager = .ok ∧ 0xA1004 % 4 = 0 ∧ 1 < 2 ^ 32 ∧ ((Place.srcCfg 1)) = .srcCfg 1 ∧ srcExists 1 = true) ∧
    ((Space.bar0 = .bar0 ∨ Space.bar0 = .bar2) ∧ live.place Space.bar0 0xA2004 = some (Via.manager, ((Place.srcStat 1 true))) ∧
      live.reach Side.h0 Via.manager = .ok ∧ 0xA2004 % 4 = 0 ∧ 1 < 2 ^ 32 ∧ ((Place.srcStat 1 true)) = .srcStat 1 true ∧ srcExists 1 = true ∧
      bitAt 1 24 = false) ∧
    ((Space.bar0 = .bar0 ∨ Space.bar0 = .bar2) ∧ live.place Space.bar0 0x4800C = some (Via.manager, ((Place.buf 3))) ∧
      live.reach Side.h0 Via.manager = .ok ∧ 0x4800C % 4 = 0 ∧ (∀ a, ((Place.buf 3)) ≠ .word a)) ∧
    ((Space.bar0 = .bar0 ∨ Space.bar0 = .bar2) ∧ live.place Space.bar0 0x4800C = some (Via.manager, ((Place.buf 3))) ∧
      live.reach Side.h0 Via.manager = .ok ∧ 0x4800C % 4 = 0) ∧
    ((Space.bar0 = .bar0 ∨ Space.bar0 = .bar2) ∧ live.place Space.bar0 ((Reg.MBX_DONE 0)) = some (Via.manager, ((Place.word (Reg.MBX_DONE 0)))) ∧
      live.reach Side.h0 Via.manager = .ok ∧ ((Reg.MBX_DONE 0)) % 4 = 0 ∧ ((Place.word (Reg.MBX_DONE 0))) = .word ((Reg.MBX_DONE 0)) ∧
      ((Reg.MBX_DONE 0)) ≠ Reg.TIM_SYSTIME_SEC ∧ ((Reg.MBX_DONE 0)) ≠ Reg.TRE_DM_STROBE_SEC ∧ ((Reg.MBX_DONE 0)) ≠ Reg.MNS_WORD 0 ∧
      ((Reg.MBX_DONE 0)) ≠ Reg.MNS_EVT_INFO ∧ ¬ (0xA8000 ≤ ((Reg.MBX_DONE 0)) ∧ ((Reg.MBX_DONE 0)) < 0xAC000 ∧
      ((Reg.MBX_DONE 0)) % 0x40 = 0x18)) ∧
    (w_16.host.ecrcChk.contains .h0 = true ∧ (Space.bar0 = .bar0 ∨ Space.bar0 = .bar2)) ∧
    (1 < 2 ^ 32) := by
  refine ⟨?_, ?_, ?_, ?_, ?_, ?_, ⟨by decide, by decide, by decide, by decide, fun a h => by cases h⟩, ?_, ?_⟩ <;> decide

def v_17 : RegDesc := ((regDesc (Reg.MBX_DONE 0)).getD default_RegDesc)
def v_18 : RegDesc := ((regDesc (Reg.TIM_CTRL)).getD default_RegDesc)
def v_19 : RegDesc := ((regDesc (Reg.MBX_ERR 0)).getD default_RegDesc)
def w_20 : State := live.putBit (Reg.MBX_OWNER 0) 0 true

/-- The hypotheses of the clauses of RegisterReadsAndWrites (part RegisterValues) are met. -/
theorem witness_RegisterValues :
    (live.reach live.boot.barPort .manager = .ok ∧ ((Reg.MBX_DONE 0)) % 4 = 0 ∧ 1 < 2 ^ 32 ∧
      (((Reg.MBX_DONE 0)) < 0x10000 ∨ 0x10800 ≤ ((Reg.MBX_DONE 0)) ∧ ((Reg.MBX_DONE 0)) < 0x20000) ∧ ((Reg.MBX_DONE 0)) ≠ Reg.GLB_RESET ∧
      ((Reg.MBX_DONE 0)) ≠ Reg.MBX_DOORBELL 0 ∧ regDesc ((Reg.MBX_DONE 0)) = some v_17 ∧ v_17.refuses 1 = false) ∧
    (live.reach live.boot.barPort .manager = .ok ∧ 1 < 2 ^ 32) ∧
    (live.reach live.boot.barPort .manager = .ok ∧ ((Reg.TIM_CTRL)) % 4 = 0 ∧ 4 < 2 ^ 32 ∧ 0x20000 ≤ ((Reg.TIM_CTRL)) ∧
      ((Reg.TIM_CTRL)) < 0x30000 ∧ regDesc ((Reg.TIM_CTRL)) = some v_18 ∧ v_18.refuses 4 = true) ∧
    (live.reach live.boot.barPort .manager = .ok ∧ ((Reg.MBX_ERR 0)) % 4 = 0 ∧ (((Reg.MBX_ERR 0)) < 0x10000 ∨ 0x10800 ≤ ((Reg.MBX_ERR 0)) ∧
      ((Reg.MBX_ERR 0)) < 0x20000) ∧ regDesc ((Reg.MBX_ERR 0)) = some v_19 ∧ live.live ((Reg.MBX_ERR 0)) = none) ∧
    (live.reach live.boot.barPort .manager = .ok ∧ 4 % 4 = 0 ∧ 4 < 0x800 ∧ 1 < 2 ^ 32 ∧ live.bitOf (Reg.MBX_OWNER 0) (4 / 0x100) = false) ∧
    (w_20.reach w_20.boot.barPort .manager = .ok ∧ 4 % 4 = 0 ∧ 4 < 0x800 ∧ w_20.bitOf (Reg.MBX_OWNER 0) (4 / 0x100) = true) := by
  refine ⟨?_, ?_, ?_, ?_, ?_, ?_⟩ <;> decide

def v_21 : WarmReq := (WarmReq.mk 0 3)
def w_22 : State := { live with boot := { live.boot with warm := some v_21 } }

/-- The hypotheses of the clauses of WindowsAndWarmReset (part WarmReset) are met. -/
theorem witness_WarmReset :
    (live.reach live.boot.barPort .manager = .ok ∧ bitAt 0xA5C30001 0 = true ∧ 0xA5C30001 / 2 ^ 16 % 2 ^ 16 = 0xA5C3) ∧
    (live.reach .h0 .manager = .ok ∧ ¬ (bitAt 1 0 = true ∧ 1 / 2 ^ 16 % 2 ^ 16 = 0xA5C3)) ∧
    (w_22.boot.warm = some v_21 ∧ since32 w_22.frame v_21.frame < 2 ^ 31) := by
  refine ⟨?_, ?_, ?_⟩ <;> decide

def w_23 : State := live.putBit (Reg.MBX_OWNER 0) 1 false
def w_24 : State := live.putBit (Reg.MBX_OWNER 0) 1 true
def w_25 : State :=
  let s := live
  let s := s.putInst 1 { s.instOf 1 with exist := true, port := .h0 }
  s.putBit (Reg.MBX_OWNER 1) 1 true

/-- The hypotheses of the clauses of Doorbells are met. -/
theorem witness_Doorbells :
    (w_23.reach w_23.boot.barPort .manager = .ok ∧ 1 < 8 ∧ w_23.bitOf (Reg.MBX_OWNER 0) 1 = false) ∧
    (w_24.reach w_24.boot.barPort .manager = .ok ∧ 1 < 8 ∧ w_24.bitOf (Reg.MBX_OWNER 0) 1 = true) ∧
    (1 ≠ 0 ∧ w_25.reach (w_25.instOf 1).port (.page 1) = .ok ∧ 1 < 8 ∧ w_25.bitOf (Reg.MBX_OWNER 1) 1 = true) := by
  refine ⟨?_, ?_, ?_⟩ <;> decide

def v_26 : Cmd := { (cmdOf 0 []) with pend := false }
def w_27 : State := { live with fw := { live.fw with pairA := { live.fw.pairA with mode := .halted } } }

/-- The hypotheses of the clauses of Completions (part CompletionWritesTheSlot) are met. -/
theorem witness_CompletionWritesTheSlot :
    (v_26.pend = false ∧ v_26.slot < 8 ∧ ([] : List Byte).length ≤ 240 ∧ 1 < 256 ∧ 1 < 256 ∧ w_27.activePair.mode = .halted) ∧
    (v_26.pend = false ∧ v_26.slot < 8 ∧ ([] : List Byte).length ≤ 240 ∧ 1 < 256 ∧ 1 < 256 ∧ live.activePair.mode ≠ .halted) ∧
    (v_26.pend = false ∧ v_26.slot < 8 ∧ ([] : List Byte).length ≤ 240 ∧ 1 < 256 ∧ 1 < 256 ∧ live.activePair.mode ≠ .halted ∧
      (300 < slotAddr v_26.mbx v_26.slot ∨ slotAddr v_26.mbx v_26.slot + 256 ≤ 300)) ∧
    (v_26.pend = false ∧ v_26.slot < 8 ∧ ([] : List Byte).length ≤ 240 ∧ 1 < 256 ∧ 1 < 256 ∧ live.activePair.mode ≠ .halted ∧ 1 < 5) := by
  refine ⟨?_, ?_, ?_, ?_⟩ <;> decide

def v_28 : Cmd := cmdOf 0 []

/-- The hypotheses of the clauses of Completions (part CompletionFrame) are met. -/
theorem witness_CompletionFrame :
    (1 ≠ Reg.MBX_OWNER v_28.mbx ∧ 1 ≠ Reg.MBX_DONE v_28.mbx) := by
  decide

def v_29 : Cmd := { (cmdOf 0 []) with pend := false }
def w_30 : State :=
  let s := live
  let s := withCmd s v_29
  withCmd s v_29

/-- The hypotheses of the clauses of Completions (part PendingReleasesTheSlot) are met. -/
theorem witness_PendingReleasesTheSlot :
    (v_29.pend = false ∧ v_29.slot < 8 ∧ w_30.findCmd v_29.id = some v_29) := by
  decide

def v_31 : Cmd := cmdOf 0x0000 []
def w_32 : State := withCmd live v_31
def v_33 : Cmd := cmdOf 0x0001 []
def w_34 : State := withCmd live v_33
def v_35 : Cmd := cmdOf 0x0002 []
def w_36 : State := withCmd live v_35
def v_37 : Cmd := cmdOf 0x0003 []
def w_38 : State := withCmd live v_37
def w_39 : State :=
  let s := live
  let s := { s with mbx := { s.mbx with outcomes := [default_PendOutcome] } }
  withCmd s v_37
def v_40 : Cmd := cmdOf 0x0007 []
def w_41 : State := withCmd live v_40
def v_42 : Cmd := cmdOf 0x7777 []
def w_43 : State := withCmd live v_42
def v_44 : Cmd := cmdOf 0 []
def w_45 : State := { live with fw := { live.fw with nonce := some (1, 1) } }

/-- The hypotheses of the clauses of SystemQueries are met. -/
theorem witness_SystemQueries :
    (w_32.Ready 1 0x0000 v_31) ∧
    (w_34.Ready 1 0x0001 v_33) ∧
    (w_36.Ready 1 0x0002 v_35) ∧
    (w_38.Ready 1 0x0003 v_37 ∧ w_38.outcomeOf v_37.mbx (v_37.u 0 2) = none) ∧
    (w_39.Ready 1 0x0003 v_37 ∧ w_39.outcomeOf v_37.mbx (v_37.u 0 2) = some default_PendOutcome) ∧
    (w_41.Ready 1 0x0007 v_40) ∧
    (w_43.findCmd 1 = some v_42 ∧ w_43.fwServes = true ∧ opInfo v_42.opcode = none) ∧
    (w_45.fw.nonce = some (1, 1) ∧ 65536 ≤ since32 w_45.frame 1) := by
  refine ⟨?_, ?_, ?_, ?_, ?_, ?_, ?_, ?_⟩ <;> decide

def v_46 : Cmd := cmdOf 0x0004 []
def w_47 : State := withCmd live v_46
def v_48 : Cmd := cmdOf 0x0004 [2]
def w_49 : State := withCmd live v_48
def v_50 : Cmd := { (cmdOf 0x0005 []) with target := some 1 }
def w_51 : State := withCmd live v_50
def v_52 : Cmd := cmdOf 0x0006 [0]
def w_53 : State :=
  let s := live
  let s := withCmd s v_52
  { s with fw := { s.fw with fuses := { s.fw.fuses with key0 := none } } }
def w_54 : State :=
  let s := live
  let s := { s with fw := { s.fw with fuses := { s.fw.fuses with key0 := some [] } } }
  withCmd s v_52
def v_55 : Cmd := cmdOf 0x0006 [1]
def w_56 : State :=
  let s := live
  let s := { s with fw := { s.fw with fuses := { s.fw.fuses with key0 := some [] } } }
  withCmd s v_55
def w_57 : State :=
  let s := live
  let s := { s with fw := { s.fw with fuses := { s.fw.fuses with key0 := some [], key1Uses := 8 } } }
  let s := withCmd s v_55
  { s with fw := { s.fw with fuses := { s.fw.fuses with key1Uses := 8 } } }

/-- The hypotheses of the clauses of SystemSettings are met. -/
theorem witness_SystemSettings :
    (w_47.Ready 1 0x0004 v_46 ∧ v_46.u 0 1 ≤ 1) ∧
    (w_49.Ready 1 0x0004 v_48 ∧ 1 < v_48.u 0 1) ∧
    (w_51.ReadyNow 1 0x0005 v_50 ∧ since32 (v_50.target.getD ((v_50.takeFrame + 2) % 2 ^ 32)) w_51.frame = 1) ∧
    (w_53.Ready 1 0x0006 v_52 ∧ v_52.u 0 1 = 0 ∧ w_53.fw.fuses.key0 = none) ∧
    (w_54.Ready 1 0x0006 v_52 ∧ v_52.u 0 1 = 0 ∧ w_54.fw.fuses.key0.isSome = true) ∧
    (w_56.Ready 1 0x0006 v_55 ∧ v_55.u 0 1 = 1 ∧ w_56.fw.fuses.key1Uses < 8 ∧ w_56.fw.fuses.key0.isSome = true) ∧
    (w_57.Ready 1 0x0006 v_55 ∧ v_55.u 0 1 = 1 ∧ 8 ≤ w_57.fw.fuses.key1Uses) := by
  refine ⟨?_, ?_, ?_, ?_, ?_, ?_, ?_⟩ <;> decide

def v_58 : Cmd := cmdOf 0x0F00 []
def w_59 : State := withCmd live v_58
def v_60 : Cmd := cmdOf 0x0F01 []
def w_61 : State := withCmd live v_60
def v_62 : Cmd := { (cmdOf 0x0F01 [0, 0, 0, 0, 0, 0, 0, 0, 0, 0, 0, 0, 2]) with opcode := 0x0F01, pend := true, begun := true }
def w_63 : State := withCmd live v_62
def v_64 : Cmd := { (cmdOf 0 []) with opcode := 0x0F01, pend := true, begun := true }
def w_65 : State := withCmd live v_64
def v_66 : Cmd := cmdOf 0x0F02 []
def w_67 : State :=
  let s := live
  let s := withCmd s v_66
  { s with fw := { s.fw with switch := none } }
def w_68 : State :=
  let s := live
  let s := withCmd s v_66
  let s := { s with fw := { s.fw with switch := none } }
  s.put s.standbyDomain 2
def v_69 : Cmd := { (cmdOf 0x0F03 []) with target := some 9 }
def w_70 : State :=
  let s := live
  let s := withCmd s v_69
  s.put Fd.GLB_STATUS_STANDBY_READY 1
def w_71 : State :=
  let s := live
  let s := withCmd s v_69
  s.put Fd.GLB_STATUS_STANDBY_READY 0
def v_72 : Cmd := cmdOf 0x0F04 []
def w_73 : State := withCmd live v_72
def w_74 : State :=
  let s := live
  let s := s.updateHdr (some s.runSlot) none
  withCmd s v_72

/-- The hypotheses of the clauses of FirmwareCommands are met. -/
theorem witness_FirmwareCommands :
    (w_59.Ready 1 0x0F00 v_58) ∧
    (w_61.Ready 1 0x0F01 v_60 ∧ v_60.u 0 8 % 4 = 0 ∧ v_60.u 8 4 ≤ 0x100000 ∧ v_60.u 12 1 ≤ 2) ∧
    (w_63.findCmd 1 = some v_62 ∧ v_62.opcode = 0x0F01 ∧ v_62.pend = true ∧ v_62.begun = true ∧ w_63.fwServes = true ∧ 2 ≠ 1 ∧
      w_63.slotInUse (v_62.u 12 1) = false) ∧
    (w_65.findCmd 1 = some v_64 ∧ v_64.opcode = 0x0F01 ∧ v_64.pend = true ∧ v_64.begun = true ∧ w_65.fwServes = true ∧
      w_65.slotInUse (v_64.u 12 1) = true) ∧
    (w_67.Ready 1 0x0F02 v_66 ∧ v_66.u 0 1 ≤ 1 ∧ w_67.otherPair.mode ≠ .halted ∧ w_67.fw.switch = none ∧ w_67.standbyOn = true) ∧
    (w_68.Ready 1 0x0F02 v_66 ∧ v_66.u 0 1 ≤ 1 ∧ w_68.otherPair.mode ≠ .halted ∧ w_68.fw.switch = none ∧ w_68.standbyOn = false) ∧
    (w_70.ReadyNow 1 0x0F03 v_69 ∧ 4 ≤ since32 (v_69.target.getD ((v_69.takeFrame + 4) % 2 ^ 32)) v_69.takeFrame ∧
      w_70.on Fd.GLB_STATUS_STANDBY_READY = true) ∧
    (w_71.ReadyNow 1 0x0F03 v_69 ∧ 4 ≤ since32 (v_69.target.getD ((v_69.takeFrame + 4) % 2 ^ 32)) v_69.takeFrame ∧
      w_71.on Fd.GLB_STATUS_STANDBY_READY = false) ∧
    (w_73.Ready 1 0x0F04 v_72 ∧ ¬ (w_73.newestHdr.isSome = true ∧ w_73.preferred = w_73.runSlot)) ∧
    (w_74.Ready 1 0x0F04 v_72 ∧ w_74.newestHdr.isSome = true ∧ w_74.preferred = w_74.runSlot) := by
  refine ⟨?_, ?_, ?_, ?_, ?_, ?_, ?_, ?_, ?_, ?_⟩ <;> decide

def w_75 : State := live.put (if pairNum default_PairId = 0 then Fd.PDM_STATE_PAIRA else Fd.PDM_STATE_PAIRB) 2
def w_76 : State :=
  let s := live
  let s := s.put Fd.GLB_STATUS_ACTIVE_PAIR (pairNum default_PairId)
  let s := { s with fw := { s.fw with pairA := { s.fw.pairA with mode := .active } } }
  s.put Fd.GLB_STATUS_STANDBY_READY 0
def w_77 : State :=
  let s := live
  let s := s.put Fd.GLB_STATUS_ACTIVE_PAIR (pairNum default_PairId)
  let s := { s with fw := { s.fw with pairA := { s.fw.pairA with mode := .active } } }
  let s := { s with fw := { s.fw with pairA := { s.fw.pairA with wd := 16 } } }
  let s := s.put Fd.GLB_STATUS_STANDBY_READY 1
  { s with fw := { s.fw with pairA := { s.fw.pairA with wd := 16 } } }
def w_78 : State :=
  let s := live
  let s := { s with fw := { s.fw with takeoverAt := some 0 } }
  let s := { s with fw := { s.fw with pairB := { s.fw.pairB with mode := .ready } } }
  let s := { s with fw := { s.fw with switch := none } }
  { s with mbx := { s.mbx with taken := [] } }
def w_79 : State := { live with fw := { live.fw with takeoverAt := some 0 } }
def w_80 : State :=
  let s := live
  let s := { s with fw := { s.fw with pairB := { s.fw.pairB with mode := .loading } } }
  { s with fw := { s.fw with pairB := { s.fw.pairB with back := none } } }
def w_81 : State := live.put live.standbyDomain 2
def v_82 : FwSwitch := { default_FwSwitch with stopped := false }
def w_83 : State :=
  let s := live
  let s := { s with fw := { s.fw with switch := some v_82 } }
  { s with fw := { s.fw with pairA := { s.fw.pairA with mode := .active } } }
def v_84 : FwSwitch := { default_FwSwitch with written := some 0, accepted := none }
def w_85 : State := { live with fw := { live.fw with switch := some v_84 } }
def v_86 : FwSwitch := { default_FwSwitch with accepted := some true }
def w_87 : State :=
  let s := live
  let s := { s with fw := { s.fw with switch := some v_86 } }
  let s := { s with fw := { s.fw with pairA := { s.fw.pairA with mode := .active } } }
  s.put Fd.GLB_STATUS_STANDBY_READY 1
def v_88 : FwSwitch := { default_FwSwitch with cmd := 1, accepted := some false }
def v_89 : Cmd := cmdOf 0x0F03 []
def w_90 : State :=
  let s := live
  let s := withCmd s v_89
  let s := { s with fw := { s.fw with switch := some v_88 } }
  let s := { s with fw := { s.fw with pairA := { s.fw.pairA with mode := .active } } }
  let s := withCmd s v_89
  { s with mbx := { s.mbx with rung := [] } }

/-- The hypotheses of the clauses of PairFaultsAndSwitch are met. -/
theorem witness_PairFaultsAndSwitch :
    (w_75.get (if pairNum default_PairId = 0 then Fd.PDM_STATE_PAIRA else Fd.PDM_STATE_PAIRB) = 2) ∧
    (w_76.get Fd.GLB_STATUS_ACTIVE_PAIR = pairNum default_PairId ∧ w_76.activePair.mode = .active ∧
      w_76.get (if pairNum default_PairId = 0 then Fd.PDM_STATE_PAIRA else Fd.PDM_STATE_PAIRB) ≠ 2 ∧
      w_76.on Fd.GLB_STATUS_STANDBY_READY = false) ∧
    (w_77.get Fd.GLB_STATUS_ACTIVE_PAIR = pairNum default_PairId ∧ w_77.activePair.mode = .active ∧ 16 ≤ w_77.activePair.wd ∧
      w_77.on Fd.GLB_STATUS_STANDBY_READY = true) ∧
    (w_78.fw.takeoverAt = some 0 ∧ since32 w_78.frame 0 < 2 ^ 31 ∧ w_78.otherPair.mode = .ready ∧ w_78.fw.switch = none ∧ w_78.mbx.taken = []) ∧
    (w_79.fw.takeoverAt = some 0 ∧ since32 w_79.frame 0 < 2 ^ 31 ∧ w_79.otherPair.mode ≠ .ready) ∧
    (w_80.otherPair.mode = .loading ∧ w_80.otherPair.back = none ∧ w_80.standbyOn = true ∧ w_80.bistStandby = false) ∧
    (w_81.standbyOn = false) ∧
    (w_83.fw.switch = some v_82 ∧ since32 v_82.target w_83.frame ≤ 2 ∧ v_82.stopped = false ∧ w_83.activePair.mode = .active) ∧
    (w_85.fw.switch = some v_84 ∧ since32 v_84.target w_85.frame ≤ 1 ∧ v_84.written.isSome = true ∧ v_84.accepted = none) ∧
    (w_87.fw.switch = some v_86 ∧ since32 w_87.frame v_86.target < 2 ^ 31 ∧ v_86.accepted = some true ∧ w_87.activePair.mode = .active ∧
      w_87.on Fd.GLB_STATUS_STANDBY_READY = true ∧ w_87.findCmd v_86.cmd = none) ∧
    (w_90.fw.switch = some v_88 ∧ since32 w_90.frame v_88.target < 2 ^ 31 ∧ v_88.accepted = some false ∧ w_90.activePair.mode = .active ∧
      w_90.findCmd v_88.cmd = some v_89 ∧ w_90.mbx.rung = []) := by
  refine ⟨?_, ?_, ?_, ?_, ?_, ?_, ?_, ?_, ?_, ?_, ?_⟩ <;> decide

def w_91 : State := live.setStage (if true then .running else .held)
def v_92 : Cmd := { (cmdOf 0 []) with pend := false }
def w_93 : State := withCmd live v_92
def v_94 : Cmd := { (cmdOf 0 []) with pend := false, begun := false, timeout := 0 }
def w_95 : State := withCmd live v_94
def v_96 : Cmd := { (cmdOf 0 []) with pend := false, begun := true, timeout := 0 }
def w_97 : State := withCmd live v_96

/-- The hypotheses of the clauses of ScrubberAndTimeout are met. -/
theorem witness_ScrubberAndTimeout :
    (w_91.dieRuns = true ∧ 1 * 3 < memBytes 1 ∧ w_91.memOn 1 1 = true ∧ 1 < 2 ^ 27) ∧
    (w_91.dieRuns = true ∧ 1 * 3 < memBytes 1 ∧ w_91.memOn 1 1 = true ∧ 1 < 2 ^ 27 ∧ 1 ≠ 4) ∧
    (w_93.findCmd 1 = some v_92 ∧ w_93.fwServes = true ∧ v_92.pend = false ∧ since32 w_93.frame v_92.takeFrame < v_92.timeout) ∧
    (w_95.findCmd 1 = some v_94 ∧ w_95.fwServes = true ∧ v_94.pend = false ∧ v_94.timeout ≤ since32 w_95.frame v_94.takeFrame ∧
      v_94.begun = false) ∧
    (w_97.findCmd 1 = some v_96 ∧ w_97.fwServes = true ∧ v_96.pend = false ∧ v_96.timeout ≤ since32 w_97.frame v_96.takeFrame ∧
      v_96.begun = true ∧ v_96.opcode ≠ 0x0108 ∧ v_96.opcode ≠ 0x0103) := by
  refine ⟨?_, ?_, ?_, ?_, ?_⟩ <;> decide

def w_98 : State :=
  let s := live
  let s := { s with time := { s.time with ticking := true } }
  { s with time := { s.time with recon := false } }
def w_99 : State :=
  let s := live
  let s := { s with time := { s.time with ticking := false } }
  { s with time := { s.time with counting := true } }
def w_100 : State :=
  let s := live
  let s := { s with time := { s.time with ticking := true } }
  let s := { s with time := { s.time with started := true } }
  { s with time := { s.time with phase := .running } }
def w_101 : State :=
  let s := live
  let s := { s with time := { s.time with ticking := true } }
  { s with time := { s.time with started := true } }
def w_102 : State := { live with time := { live.time with frameOut := true } }
def w_103 : State := { live with time := { live.time with ppsFall := some 0 } }
def w_104 : State :=
  let s := live
  let s := s.put Fd.TIM_STATUS_SLEWING (b2n true)
  { s with time := { s.time with corrResid := 0 } }

/-- The hypotheses of the clauses of FramesAndOverrun (part FrameInstants) are met. -/
theorem witness_FrameInstants :
    (w_98.time.ticking = true ∧ w_98.time.recon = false ∧ w_98.boot.stage ≠ .asleep) ∧
    (w_99.time.ticking = false ∧ w_99.time.counting = true) ∧
    (w_100.time.ticking = true ∧ w_100.time.started = true ∧ w_100.time.phase = .running) ∧
    (w_101.time.ticking = true ∧ w_101.time.started = true ∧ w_101.time.phase ≠ .stopped) ∧
    (w_102.time.frameOut = true) ∧
    (w_103.time.ppsFall = some 0 ∧ since32 w_103.frame 0 < 2 ^ 31) ∧
    (w_104.slewing = true ∧ w_104.time.corrResid = 0) := by
  refine ⟨?_, ?_, ?_, ?_, ?_, ?_, ?_⟩ <;> decide

def v_105 : Svc := { default_Svc with past := false, attempts := 0, key := 17, port := 1, addr := 1, ep := 1, inst := 1, entry := 1 }
def w_106 : State :=
  let s := live
  let s := { s with time := { s.time with ticking := true } }
  let s := { s with time := { s.time with started := true } }
  let s := { s with time := { s.time with phase := .col } }
  let s := { s with time := { s.time with overrunNow := false } }
  let s := { s with xfer := { s.xfer with svcs := [v_105] } }
  let s := { s with xfer := { s.xfer with opens := [] } }
  let s := s.put (Fd.LNK_STATUS_STATE v_105.port) 7
  { s with xfer := { s.xfer with deferred := 0 } }

/-- The hypotheses of the clauses of FramesAndOverrun (part OverrunFrame) are met. -/
theorem witness_OverrunFrame :
    (w_106.time.ticking = true ∧ w_106.time.started = true ∧ w_106.time.phase = .col ∧ w_106.time.overrunNow = false ∧
      w_106.xfer.svcs = [v_105] ∧ v_105.past = false ∧ v_105.attempts = 0 ∧ w_106.xfer.opens = [] ∧ w_106.linkState v_105.port = 7 ∧
      w_106.pathRecovers v_105.port v_105.addr = false ∧ w_106.xfer.deferred = 0) := by
  decide


/-- The hypotheses of the clauses of CorrectionSplit are met. -/
theorem witness_CorrectionSplit :
    (0 < 1) := by
  decide

def w_107 : State := live.put Fd.TIM_PPS_CTRL_EN 0
def w_108 : State :=
  let s := live
  let s := s.put Fd.TIM_PPS_CTRL_EN 1
  let s := s.put Fd.TIM_STATUS_STATE 2
  let s := { s with pair := { s.pair with holds := false } }
  let s := s.put Fd.TIM_STATUS_SLEWING (b2n false)
  let s := { s with time := { s.time with waitTick := false } }
  { s with scree := { s.scree with injs := [] } }
def w_109 : State :=
  let s := live
  let s := s.put Fd.TIM_PPS_CTRL_EN 1
  let s := s.put Fd.TIM_STATUS_STATE 2
  let s := { s with pair := { s.pair with holds := false } }
  let s := s.put Fd.TIM_STATUS_SLEWING (b2n false)
  let s := { s with time := { s.time with waitTick := false } }
  let s := { s with scree := { s.scree with injs := [] } }
  s.put Fd.TIM_PPS_WINDOW_WINDOW 0
def w_110 : State := live.put Fd.TIM_STATUS_STATE 2

/-- The hypotheses of the clauses of PpsDiscipline are met. -/
theorem witness_PpsDiscipline :
    ((w_107.advance 1).on Fd.TIM_PPS_CTRL_EN = false) ∧
    ((w_108.advance 1).on Fd.TIM_PPS_CTRL_EN = true ∧ false = (w_108.advance 1).on Fd.TIM_PPS_CTRL_POLARITY ∧ (w_108.advance 1).discState = 2 ∧
      (w_108.advance 1).pair.holds = false ∧ (w_108.advance 1).slewing = false ∧ (w_108.advance 1).time.waitTick = false ∧
      (w_108.advance 1).holdDue = false ∧ (w_108.advance 1).scree.injs = [] ∧
      (∀ c, (w_108.advance 1).disc.lastAcc = some c → c + 200000000 ≤ (w_108.advance 1).time.cyc) ∧
      (w_108.advance 1).phaseErr.natAbs ≤ (w_108.advance 1).get Fd.TIM_PPS_WINDOW_WINDOW) ∧
    ((w_109.advance 1000).on Fd.TIM_PPS_CTRL_EN = true ∧ false = (w_109.advance 1000).on Fd.TIM_PPS_CTRL_POLARITY ∧
      (w_109.advance 1000).discState = 2 ∧ (w_109.advance 1000).pair.holds = false ∧ (w_109.advance 1000).slewing = false ∧
      (w_109.advance 1000).time.waitTick = false ∧ (w_109.advance 1000).holdDue = false ∧ (w_109.advance 1000).scree.injs = [] ∧
      (w_109.advance 1000).get Fd.TIM_PPS_WINDOW_WINDOW < (w_109.advance 1000).phaseErr.natAbs) ∧
    ((w_110.advance 2000000000).holdDue = true) := by
  refine ⟨?_, ?_, ?_, ?_⟩ <;> decide

def w_111 : State :=
  let s := live
  let s := { s with time := { s.time with calStart := some 1 } }
  let s := { s with time := { s.time with calBad := false } }
  s.put Fd.TIM_STATUS_SLEWING (b2n false)
def w_112 : State := { live with time := { live.time with sleepSnap := true } }

/-- The hypotheses of the clauses of SnapshotsAndReconstruction (part SnapshotsAndCalibration) are met. -/
theorem witness_SnapshotsAndCalibration :
    ((w_111.advance 1).timeRuns = true ∧ (w_111.advance 1).time.calStart = some 1 ∧ (w_111.advance 1).time.calBad = false ∧
      (w_111.advance 1).slewing = false) ∧
    ((live.advance 1).snapshotFree = true ∧ (live.advance 1).timeRuns = true) ∧
    ((w_112.advance 1).time.sleepSnap = true ∧ (w_112.advance 1).snapshotFree = true) := by
  refine ⟨?_, ?_, ?_⟩ <;> decide

def w_113 : State :=
  let s := live
  let s := s.takeSnapshot
  { s with time := { s.time with recon := true } }

/-- The hypotheses of the clauses of SnapshotsAndReconstruction (part Reconstruction) are met. -/
theorem witness_Reconstruction :
    (w_113.time.recon = true ∧ w_113.snapValid = true) := by
  decide

def w_114 : State :=
  let s := live
  let s := { s with time := { s.time with period := some default_PeriodChange } }
  let s := s.put Fd.TIM_STATUS_SLEWING (b2n false)
  { s with time := { s.time with ticking := true } }
def v_115 : Cmd := cmdOf 0x0400 [0]
def w_116 : State :=
  let s := live
  let s := withCmd s v_115
  s.put Fd.TIM_STATUS_SLEWING (b2n false)
def v_117 : Cmd := cmdOf 0x0400 [1]
def w_118 : State := withCmd live v_117
def w_119 : State :=
  let s := live
  let s := withCmd s v_117
  let s := s.put Fd.TIM_STATUS_STATE 2
  s.put Fd.TIM_STATUS_STATE 2
def v_120 : Cmd := cmdOf 0x0401 []
def w_121 : State := withCmd live v_120
def v_122 : Cmd := cmdOf 0x0402 [0, 0, 208, 7]
def w_123 : State :=
  let s := live
  let s := withCmd s v_122
  { s with alloc := { s.alloc with grants := [] } }
def v_124 : Cmd := cmdOf 0x0403 [0, 0, 0, 0, 100, 0, 0, 0]
def w_125 : State := withCmd live v_124
def v_126 : Cmd := cmdOf 0x0404 []
def w_127 : State :=
  let s := live
  let s := withCmd s v_126
  s.put Fd.TIM_STATUS_STATE 0
def v_128 : Cmd := cmdOf 0x0405 []
def w_129 : State := withCmd live v_128

/-- The hypotheses of the clauses of TimeCommands are met. -/
theorem witness_TimeCommands :
    ((live.advance 1).reach .h0 .manager = .ok) ∧
    (w_114.time.period = some default_PeriodChange ∧ since32 w_114.frame default_PeriodChange.target < 2 ^ 31 ∧
      w_114.time.boundary % 1000000 = 0 ∧ w_114.slewing = false ∧ w_114.time.ticking = true ∧ w_114.findCmd default_PeriodChange.cmd = none) ∧
    (w_116.Ready 1 0x0400 v_115 ∧ v_115.u 0 1 = 0 ∧ w_116.slewing = false) ∧
    (w_118.Ready 1 0x0400 v_117 ∧ v_117.u 0 1 = 1 ∧ v_117.u 8 4 ≤ 999999999 ∧ w_118.discState < 2) ∧
    (w_119.Ready 1 0x0400 v_117 ∧ v_117.u 0 1 = 1 ∧ v_117.u 8 4 ≤ 999999999 ∧ 2 ≤ w_119.discState ∧ w_119.discState ≤ 4) ∧
    (w_121.Ready 1 0x0401 v_120) ∧
    (w_123.Ready 1 0x0402 v_122 ∧ v_122.u 0 1 ≤ 3 ∧ 64 ≤ v_122.u 2 2 ∧ v_122.u 2 2 ≤ 2000 ∧ w_123.maxAcc + 16 * 64 ≤ v_122.u 2 2 * 64 ∧
      w_123.alloc.grants = []) ∧
    (w_125.Ready 1 0x0403 v_124 ∧ v_124.u 0 1 ≤ 1 ∧ v_124.u 1 1 ≤ 1 ∧ (v_124.i 2 2).natAbs ≤ 10000 ∧ 100 ≤ v_124.u 4 4 ∧ v_124.u 4 4 ≤ 100000 ∧
      v_124.u 8 4 ≤ 1000000 ∧ v_124.u 12 4 ≤ 1000000) ∧
    (w_127.Ready 1 0x0404 v_126 ∧ (v_126.i 0 4).natAbs ≤ 2684354 ∧ (v_126.i 4 4).natAbs ≤ 500000000 ∧ w_127.discState = 0) ∧
    (w_129.Ready 1 0x0405 v_128) := by
  refine ⟨?_, ?_, ?_, ?_, ?_, ?_, ?_, ?_, ?_, ?_⟩ <;> decide

def w_130 : State := live.put (Fd.LNK_STATUS_STATE 1) 2
def w_131 : State :=
  let s := live
  let s := s.put (Fd.LNK_STATUS_STATE 1) 2
  s.editLp 1 fun x => { x with ts1Seen := true }
def w_132 : State :=
  let s := live
  let s := s.editLp 1 fun x => { x with wordLock := false }
  s.editLp 1 fun x => { x with good := 63 }
def w_133 : State :=
  let s := live
  let s := s.put (Fd.LNK_STATUS_STATE 1) 4
  s.editLp 1 fun x => { x with ts2Rx := 15 }
def w_134 : State := live.put (Fd.LNK_STATUS_STATE 1) 4
def w_135 : State :=
  let s := live
  let s := s.put (Fd.LNK_STATUS_STATE 1) 2
  s.editLp 1 fun x => { x with verBad := false }
def w_136 : State := live.editLp 1 fun x => { x with waitUntil := some 0 }

/-- The hypotheses of the clauses of TrainingAndDelay (part TrainingStages) are met. -/
theorem witness_TrainingStages :
    (1 < 8 ∧ (w_130.rxWords 1 1 0).linkState 1 = 2) ∧
    (1 < 8 ∧ w_131.linkState 1 = 2 ∧ (w_131.lp 1).ts1Seen = true ∧ w_131.isDm 1 = false) ∧
    (1 < 8 ∧ (w_132.lp 1).wordLock = false ∧ 63 ≤ (w_132.lp 1).good) ∧
    (1 < 8 ∧ (w_133.rxWords 1 1 0).linkState 1 = 4 ∧ 0x100 / 2 ^ 8 % 16 = 1 ∧ ((w_133.rxWords 1 1 0).lp 1).ts2Rx = 15 ∧ w_133.isDm 1 = false) ∧
    (1 < 8 ∧ (w_134.rxWords 1 1 0).linkState 1 = 4 ∧ 1 / 2 ^ 8 % 16 ≠ 1) ∧
    (1 < 8 ∧ w_135.linkState 1 = 2 ∧ 2 ≤ 2 ∧ 2 ≤ 5 ∧ (w_135.lp 1).verBad = false) ∧
    (1 < 8 ∧ 1 < 16) ∧
    (1 < 8 ∧ (w_136.lp 1).waitUntil = some 0 ∧ since32 w_136.frame 0 < 2 ^ 31) := by
  refine ⟨?_, ?_, ?_, ?_, ?_, ?_, ?_, ?_⟩ <;> decide

def w_137 : State := live.put (Fd.LNK_STATUS_STATE 1) 5
def v_138 : Exchange := { default_Exchange with echo := none, seq := 1 }
def w_139 : State := live.editLp 1 fun x => { x with exch := [v_138] }
def v_140 : Exchange := { default_Exchange with echo := some 5, trip := none }
def w_141 : State := live.editLp 1 fun x => { x with exch := [v_140] }
def w_142 : State := { live with tree := { live.tree with dm := { live.tree.dm with on := true, port := 1 } } }
def w_143 : State := live.editLp 1 fun x => { x with attempts := 3 }
def w_144 : State := live.editLp 1 fun x => { x with exch := List.replicate 64 { default_Exchange with trip := some 500000 } }
def w_145 : State := live.editLp 1 fun x => { x with exch := List.replicate 64 { default_Exchange with trip := some 1600 } }

/-- The hypotheses of the clauses of TrainingAndDelay (part DelayMeasurement) are met. -/
theorem witness_DelayMeasurement :
    (1 < 8 ∧ w_137.linkState 1 = 5 ∧ w_137.isDm 1 = false ∧ (w_137.lp 1).pings < 64) ∧
    (1 < 8 ∧ ((w_139.rxWords 1 1 0).lp 1).exch = [v_138] ∧ v_138.seq = 0x100 / 2 ^ 8 ∧ v_138.echo = none) ∧
    (1 < 8 ∧ ((w_141.rxWords 1 1 0).lp 1).exch = [v_140] ∧ v_140.echo = some 5 ∧ v_140.trip = none ∧ v_140.seq < 63 ∧ 1 < 2 ^ 16) ∧
    (1 < 8 ∧ (w_142.rxWords 1 1 0).isDm 1 = true) ∧
    (((List.replicate 64 (1600 : Int))) ≠ [] ∧ 0 ≤ ((List.replicate 64 (1600 : Int))).foldl (· + ·) 0 ∧
      judgeTrips (some ((List.replicate 64 (1600 : Int)))) = .good 800) ∧
    (1 < 8 ∧ judgeTrips ((w_143.lp 1).trips 64) = .again ∧ (w_143.lp 1).attempts = 3) ∧
    (1 < 8 ∧ judgeTrips ((w_144.lp 1).trips 64) = .tooLong) ∧
    (1 < 8 ∧ judgeTrips ((w_145.lp 1).trips 64) = .good 800 ∧ 800 ≤ 819 ∧ w_145.isDm 1 = false) := by
  refine ⟨?_, ?_, ?_, ?_, ?_, ?_, ?_, ?_⟩ <;> decide

def w_146 : State := live.editLp 1 fun x => { x with wordLock := false }
def w_147 : State :=
  let s := live
  let s := s.put (Fd.LNK_STATUS_STATE 1) 7
  let s := s.editLp 1 fun x => { x with wordLock := true }
  s.editLp 1 fun x => { x with recent := List.replicate 15 true }
def w_148 : State := live.editLp 1 fun x => { x with descrOn := true }

/-- The hypotheses of the clauses of LinkWords are met. -/
theorem witness_LinkWords :
    (1 < 8 ∧ wordBad 1 = true ∧ ((w_146.lp 1).wordLock = false ∨ (((w_146.lp 1).recent.take 63).filter id).length < 15)) ∧
    (1 < 8 ∧ wordBad 1 = true ∧ w_147.linkState 1 = 7 ∧ (w_147.lp 1).wordLock = true ∧ 15 ≤ (((w_147.lp 1).recent.take 63).filter id).length) ∧
    ((1 / 2 ^ 28 % 4 = 0 ∨ 1 / 2 ^ 28 % 4 = 3)) ∧
    (1 < 8 ∧ (w_148.lp 1).descrOn = true) ∧
    (1 < 8 ∧ (w_148.lp 1).descrOn = true ∧ 1 ≠ (w_148.lp 1).descr % 2 ^ 16) ∧
    (1 < 8 ∧ knownCodes.contains 1 = false) ∧
    (1 < 8 ∧ knownCodes.contains 0x0F = true) ∧
    (1 < 8) := by
  refine ⟨?_, ?_, ?_, ?_, ?_, ?_, ?_, ?_⟩ <;> decide

def w_149 : State := live.put (Fd.LNK_STATUS_STATE 1) 7
def w_150 : State :=
  let s := live
  let s := s.put (Fd.LNK_STATUS_STATE 1) 8
  let s := s.editLp 1 fun x => { x with wordLock := true }
  let s := s.editLp 1 fun x => { x with ts1Seen := true }
  s.editLp 1 fun x => { x with ts2Rx := 16 }
def w_151 : State := live.editLp 1 fun x => { x with wordLock := false }
def w_152 : State :=
  let s := live
  let s := s.put (Fd.LNK_STATUS_STATE 1) 8
  s.editLp 1 fun x => { x with l0Next := false }
def w_153 : State := live.editLp 1 fun x => { x with pmReq := 1 }
def w_154 : State :=
  let s := live
  let s := { s with time := { s.time with frameNo := 256 } }
  let s := s.put (Fd.LNK_STATUS_STATE 1) 10
  s.put Fd.TRE_CTRL_AUTO_RESUME 0
def w_155 : State :=
  let s := live
  let s := { s with time := { s.time with frameNo := 256 } }
  let s := s.put (Fd.LNK_STATUS_STATE 1) 10
  s.editLp 1 fun x => { x with lowFrame := 0 }
def w_156 : State :=
  let s := live
  let s := { s with time := { s.time with frameNo := 256 } }
  let s := s.put (Fd.LNK_STATUS_STATE 1) 10
  let s := s.editLp 1 fun x => { x with absents := 1 }
  s.editLp 1 fun x => { x with lowFrame := 0 }

/-- The hypotheses of the clauses of LinkStatesAndRecalibration (part LinkStates) are met. -/
theorem witness_LinkStates :
    (1 < 8 ∧ w_149.linkState 1 = 7 ∧ w_149.isDm 1 = false) ∧
    (1 < 8 ∧ live.linkState 1 ≠ 7) ∧
    (1 < 8 ∧ w_150.linkState 1 = 8 ∧ (w_150.lp 1).wordLock = true ∧ (w_150.lp 1).ts1Seen = true ∧ 16 ≤ (w_150.lp 1).ts2Rx) ∧
    (((w_151.lp 1).wordLock = false ∨ (w_151.lp 1).ts1Seen = false ∨ (w_151.lp 1).ts2Rx < 16)) ∧
    (1 < 8 ∧ w_152.linkState 1 = 8 ∧ (w_152.lp 1).l0Next = false ∧ w_152.isDm 1 = false) ∧
    (1 < 8 ∧ (w_153.rxWords 1 1 0).isDm 1 = false ∧ ((w_153.rxWords 1 1 0).lp 1).pmReq = 1) ∧
    (1 < 8 ∧ (live.rxWords 1 1 0).isDm 1 = false) ∧
    (1 < 8) ∧
    (1 < 8 ∧ w_154.linkState 1 = 10 ∧ w_154.on Fd.TRE_CTRL_AUTO_RESUME = false) ∧
    (1 < 8 ∧ w_155.linkState 1 = 10 ∧ since32 w_155.frame (w_155.lp 1).lowFrame ≥ 256) ∧
    (1 < 8 ∧ w_156.linkState 1 = 10 ∧ since32 w_156.frame (w_156.lp 1).lowFrame ≥ 256 ∧ (w_156.lp 1).absents = 1) := by
  refine ⟨?_, ?_, ?_, ?_, ?_, ?_, ?_, ?_, ?_, ?_, ?_⟩ <;> decide

def w_157 : State :=
  let s := live
  let s := { s with time := { s.time with frameNo := 256 } }
  let s := s.put (Fd.LNK_STATUS_STATE 1) 7
  s.editLp 1 fun x => { x with ctrlEff := 0 }
def w_158 : State :=
  let s := live
  let s := s.editLp 1 fun x => { x with slot := some 1 }
  let s := s.editLp 1 fun x => { x with dlyDue := false }
  let s := s.editLp 1 fun x => { x with rxDue := false }
  { s with links := { s.links with recals := [] } }
def v_159 : Cmd := cmdOf 0x0108 [0, 0]
def w_160 : State :=
  let s := live
  let s := withCmd s v_159
  s.put (Fd.LNK_STATUS_STATE (v_159.link 0 3 4).port) 7
def w_161 : State := withCmd live v_159
def v_162 : Cmd := cmdOf 0x0109 []
def w_163 : State := withCmd live v_162
def v_164 : Cmd := cmdOf 0x0109 [9]
def w_165 : State := withCmd live v_164

/-- The hypotheses of the clauses of LinkStatesAndRecalibration (part Recalibration) are met. -/
theorem witness_Recalibration :
    (1 < 8 ∧ w_157.linkState 1 = 7 ∧ bits (w_157.lp 1).ctrlEff 19 16 = 0 ∧ since32 w_157.frame (w_157.lp 1).dlyBase ≥ 256) ∧
    (1 < 8 ∧ (w_158.lp 1).slot = some 1 ∧ (w_158.lp 1).dlyDue = false ∧ (w_158.lp 1).rxDue = false ∧ w_158.links.recals = []) ∧
    (1 < 8 ∧ live.reach live.boot.barPort .manager = .ok ∧ 1 < live.ports ∧ writable (Reg.LNK_CTRL 1) 4 = true ∧ live.bistHolds = false ∧
      bitAt 4 2 = true) ∧
    (w_160.Ready 1 0x0108 v_159 ∧ w_160.badLink (v_159.link 0 3 4) = false ∧ (v_159.link 0 3 4).hub = 0 ∧ v_159.u 1 1 = 0 ∧
      w_160.linkState (v_159.link 0 3 4).port = 7) ∧
    (w_161.Ready 1 0x0108 v_159 ∧ w_161.badLink (v_159.link 0 3 4) = false ∧ (v_159.link 0 3 4).hub = 0 ∧ v_159.u 1 1 = 0 ∧
      w_161.linkState (v_159.link 0 3 4).port ≠ 7) ∧
    (w_163.Ready 1 0x0109 v_162 ∧ w_163.badLink (v_162.link 0 1 2) = false ∧ (v_162.link 0 1 2).hub = 0) ∧
    (w_165.Ready 1 0x0109 v_164 ∧ w_165.badLink (v_164.link 0 1 2) = true) := by
  refine ⟨?_, ?_, ?_, ?_, ?_, ?_, ?_⟩ <;> decide

def w_166 : State :=
  let s := live
  let s := s.putSrc 1 { s.src 1 with st := .offered }
  s.putSrc 1 { s.src 1 with inQueues := [1], st := .offered }
def w_167 : State :=
  let s := live
  let s := s.putSrc 1 { s.src 1 with st := .inService }
  let s := s.putSrc 1 { s.src 1 with server := some 1 }
  s.putSrc 1 { s.src 1 with occ := 0 }
def w_168 : State :=
  let s := live
  let s := s.putSrc 1 { s.src 1 with st := .inService }
  let s := s.putSrc 1 { s.src 1 with server := some 1 }
  s.putSrc 1 { s.src 1 with occ := 1 }

/-- The hypotheses of the clauses of ClaimsAndCompletions are met. -/
theorem witness_ClaimsAndCompletions :
    (w_166.reach .h0 .manager = .ok ∧ w_166.queueVia .manager 1 = some 1 ∧ w_166.claimable 1 = some 1 ∧
      (w_166.src 1).inQueues.contains 1 = true ∧ (w_166.src 1).st = .offered) ∧
    (live.reach .h0 .manager = .ok ∧ live.queueVia .manager 1 = some 1 ∧ live.claimable 1 = none) ∧
    (w_167.reach .h0 .manager = .ok ∧ w_167.queueVia .manager 1 = some 1 ∧ (w_167.src 1).st = .inService ∧ (w_167.src 1).server = some 1 ∧
      1 < 1024 ∧ (srcLevel 1 = false ∨ w_167.levelArg 1 = 0) ∧ (w_167.src 1).occ = 0) ∧
    (w_168.reach .h0 .manager = .ok ∧ w_168.queueVia .manager 1 = some 1 ∧ (w_168.src 1).st = .inService ∧ (w_168.src 1).server = some 1 ∧
      1 < 1024 ∧ ((w_168.src 1).occ ≠ 0 ∨ (srcLevel 1 = true ∧ w_168.levelArg 1 ≠ 0))) ∧
    (live.reach .h0 .manager = .ok ∧ live.queueVia .manager 1 = some 1 ∧ 1 < 1024 ∧
      ((live.src 1).st ≠ .inService ∨ (live.src 1).server ≠ some 1)) := by
  refine ⟨?_, ?_, ?_, ?_, ?_⟩ <;> decide

def w_169 : State :=
  let s := live
  let s := s.putInst 0 { s.instOf 0 with queues := [1] }
  let s := s.put (Fd.EVQ_Q_CFG_LOG2 1) 6
  let s := s.put (Fd.EVQ_Q_CFG_EN 1) 1
  s.putSrc 1 { s.src 1 with st := .pending, mask := false, targets := 1 }
def w_170 : State := live.putSrc 1 { live.src 1 with commitAt := some 1 }
def w_171 : State :=
  let s := live
  let s := s.putSrc 1 { s.src 1 with quarDue := true }
  s.putSrc 1 { s.src 1 with quar := false }
def w_172 : State := live.put (Fd.EVQ_Q_PROD_PROD 1) 2

/-- The hypotheses of the clauses of EventDeliveryAndRecords (part EventDelivery) are met. -/
theorem witness_EventDelivery :
    (w_169.nextSource = some 1) ∧
    (live.nextSource = none) ∧
    ((w_170.src 1).commitAt = some 1 ∧ w_170.heldOff 1 = false) ∧
    ((w_171.src 1).quarDue = true ∧ (w_171.src 1).quar = false) ∧
    (w_172.reach .h0 .manager = .ok ∧ w_172.queueVia .manager 1 = some 1 ∧ 1 < 65536 ∧ (1 + 65536 - w_172.qCons 1) % 65536 ≤ w_172.qUsed 1) ∧
    (live.reach .h0 .manager = .ok ∧ live.queueVia .manager 1 = some 1 ∧ 1 < 65536 ∧ live.qUsed 1 < (1 + 65536 - live.qCons 1) % 65536) ∧
    (live.reach .h0 .manager = .ok ∧ live.srcVia .manager 1 = some 1 ∧ live.srcLive 1 = true) ∧
    (live.reach .h0 .manager = .ok ∧ live.srcVia .manager 1 = some 1) ∧
    (live.reach .h0 .manager = .ok ∧ live.queueVia .manager 1 = some 1 ∧ live.qEn 1 = false ∧ bitAt 0x80006000 31 = true ∧
      6 ≤ 0x80006000 / 2 ^ 12 % 16) := by
  refine ⟨?_, ?_, ?_, ?_, ?_, ?_, ?_, ?_, ?_⟩ <;> decide

def v_173 : EventRec := { default_EventRec with queue := 1, inst := 1 }
def w_174 : State :=
  let s := live
  let s := s.put Fd.GLB_STATUS_H0_UP 1
  let s := s.putInst 1 { s.instOf 1 with exist := true }
  let s := { s with evq := { s.evq with records := [v_173] } }
  s.putInst v_173.inst { s.instOf v_173.inst with exist := true }

/-- The hypotheses of the clauses of EventDeliveryAndRecords (part EventRecords) are met. -/
theorem witness_EventRecords :
    (w_174.nextEvent = some v_173 ∧ v_173.gen = (w_174.instOf v_173.inst).gen ∧ (w_174.instOf v_173.inst).exist = true ∧
      w_174.portUp (w_174.instOf v_173.inst).port = true ∧
      w_174.isoKind v_173.inst (pasidOf (w_174.rd (Reg.EVQ_Q_PASID v_173.queue)).toNat) = 0) := by
  decide

def w_175 : State :=
  let s := live
  let s := s.put ⟨Reg.EVQ_WAKE_CFG, 3, 2⟩ 1
  { s with boot := { s.boot with vaoOk := true } }
def w_176 : State := { live with evq := { live.evq with wakeCap := 2 } }

/-- The hypotheses of the clauses of WakeLatchesAndControlClaims (part WakeLatches) are met. -/
theorem witness_WakeLatches :
    (1 < 4 ∧ w_175.boot.vaoOk = true ∧
      wakeEdge (bits ((w_175.advance 1).rd Reg.EVQ_WAKE_CFG) (2 * 1 + 1) (2 * 1)) (bitAt (w_175.advance 1).evq.wakeIn 1) true = true) ∧
    (1 < 4 ∧ bitAt w_176.evq.wakeCap 1 = true ∧ 1 < 2 ^ 32) := by
  refine ⟨?_, ?_⟩ <;> decide

def w_177 : State := { live with mbx := { live.mbx with cpReqs := [.tick] } }
def w_178 : State := { live with mbx := { live.mbx with cpReqs := [.doorbell], rung := [(1, 1)], slots := Memory.write zeroByte live.mbx.slots (slotAddr 1 1) [0, 0x0F] } }
def w_179 : State := { live with mbx := { live.mbx with cpStack := (1, default_CpReq) :: (([] : List (Nat × CpReq))) } }

/-- The hypotheses of the clauses of WakeLatchesAndControlClaims (part ControlPairClaims) are met. -/
theorem witness_ControlPairClaims :
    (w_177.cpNext = some default_CpReq ∧ default_CpReq = .tick) ∧
    (live.cpNext = none) ∧
    (w_178.cpNext = some .doorbell ∧ w_178.fwServes = true ∧ nextRung w_178.mbx.rung = some (1, 1) ∧ 1 ≠ 0 ∧ 1 < 64 ∧ 1 < 8 ∧
      opInfo (w_178.slotNum 1 1 0 2) = some (true, 0, 0) ∧ w_178.slotNum 1 1 5 1 = 0 ∧ w_178.slotNum 1 1 4 1 ≤ 1 ∧ w_178.slotNum 1 1 6 2 ≤ 240) ∧
    (w_179.mbx.cpStack = (1, default_CpReq) :: (([] : List (Nat × CpReq)))) ∧
    (w_179.mbx.cpStack = (1, default_CpReq) :: (([] : List (Nat × CpReq))) ∧ CpReq.doorbell ≠ default_CpReq) := by
  refine ⟨?_, ?_, ?_, ?_, ?_⟩ <;> decide

def w_180 : State := live.putInst 1 { live.instOf 1 with exist := true }
def w_181 : State := live.putInst 0 { live.instOf 0 with port := .h0 }

/-- The hypotheses of the clauses of InstanceResets are met. -/
theorem witness_InstanceResets :
    (1 < 64 ∧ (w_180.instOf 1).exist = true ∧ w_180.inst.resetOn.contains 1 = false ∧ (∀ n, n ∈ (w_180.instOf 1).dma → n < 32) ∧
      (∀ q, q ∈ (w_180.instOf 1).queues → q < 256)) ∧
    (¬ (1 < 64 ∧ (live.instOf 1).exist = true)) ∧
    (0 ∈ w_181.instList ∧ (w_181.instOf 0).port = .h0) ∧
    (0 ∈ (live.portReset .h0).inst.resetAt) := by
  refine ⟨?_, ?_, ?_, ?_⟩ <;> decide

def v_182 : Cmd := cmdOf 0x0300 [1, 0, 0, 1]
def w_183 : State :=
  let s := live
  let s := withCmd s v_182
  s.putInst (v_182.u 0 1) { s.instOf (v_182.u 0 1) with exist := false }
def v_184 : Cmd := cmdOf 0x0300 [0, 0, 0, 1]
def w_185 : State := withCmd live v_184
def v_186 : Cmd := cmdOf 0x0301 [0]
def w_187 : State := withCmd live v_186
def v_188 : Cmd := cmdOf 0x0301 [1]
def w_189 : State :=
  let s := live
  let s := s.putInst 1 { s.instOf 1 with exist := true }
  let s := withCmd s v_188
  s.putInst (v_188.u 0 1) { s.instOf (v_188.u 0 1) with exist := true }
def v_190 : Cmd := cmdOf 0x0302 [1]
def w_191 : State :=
  let s := live
  let s := s.putInst 1 { s.instOf 1 with exist := true }
  let s := withCmd s v_190
  s.putInst (v_190.u 0 1) { s.instOf (v_190.u 0 1) with exist := true }
def w_192 : State :=
  let s := live
  let s := s.putInst 1 { s.instOf 1 with exist := true, gen := 1 }
  let s := { s with inst := { s.inst with portOn := [1], resetOn := [1] } }
  let s := withCmd s v_190
  s.putInst (v_190.u 0 1) { s.instOf (v_190.u 0 1) with exist := true }
def v_193 : Cmd := cmdOf 0x0302 [1, 9]
def w_194 : State :=
  let s := live
  let s := s.putInst 1 { s.instOf 1 with exist := true }
  let s := withCmd s v_193
  s.putInst (v_193.u 0 1) { s.instOf (v_193.u 0 1) with exist := true }
def v_195 : Cmd := { (cmdOf 0x0303 [1]) with mbx := 1 }
def w_196 : State := withCmd live v_195
def v_197 : Cmd := cmdOf 0x0304 [1, 0, 0, 0, 0, 0, 2, 0]
def w_198 : State :=
  let s := live
  let s := s.putInst 1 { s.instOf 1 with exist := true }
  let s := withCmd s v_197
  s.putInst (v_197.u 0 1) { s.instOf (v_197.u 0 1) with exist := true }
def v_199 : Cmd := cmdOf 0x0305 []
def w_200 : State := withCmd live v_199

/-- The hypotheses of the clauses of InstanceCommands are met. -/
theorem witness_InstanceCommands :
    (w_183.Ready 1 0x0300 v_182 ∧ v_182.u 0 1 ≠ 0 ∧ v_182.u 0 1 ≤ 63 ∧ (w_183.instOf (v_182.u 0 1)).exist = false ∧ v_182.u 1 1 ≤ 1 ∧
      v_182.u 2 1 ≤ w_183.freeDma.length ∧ v_182.u 3 1 ≠ 0 ∧ v_182.u 3 1 ≤ 16 ∧ v_182.u 3 1 ≤ w_183.freeQueues.length ∧ v_182.u 4 2 ≤ 16368 ∧
      v_182.u 4 2 ≤ w_183.freeEntries ∧ v_182.u 8 4 ≤ w_183.freeShare ∧ v_182.u 12 8 % 4096 = 0 ∧ windowOk (v_182.u 24 4) = true ∧
      tablePasidOk (v_182.u 20 4) (v_182.u 24 4) = true ∧ usedRanges (v_182.ranges 28) = []) ∧
    (w_185.Ready 1 0x0300 v_184 ∧ v_184.u 0 1 = 0 ∧ v_184.u 2 1 ≤ 32 ∧ v_184.u 3 1 ≠ 0 ∧ v_184.u 3 1 ≤ 16 ∧ v_184.u 4 2 ≤ 16368) ∧
    (w_187.Ready 1 0x0301 v_186 ∧ v_186.u 0 1 = 0) ∧
    (w_189.Ready 1 0x0301 v_188 ∧ v_188.u 0 1 ≠ 0 ∧ v_188.u 0 1 ≤ 63 ∧ (w_189.instOf (v_188.u 0 1)).exist = true ∧
      v_188.u 1 1 = (w_189.instOf (v_188.u 0 1)).gen ∧ w_189.inst.resetOn.contains (v_188.u 0 1) = false) ∧
    (w_191.Ready 1 0x0302 v_190 ∧ v_190.u 0 1 ≤ 63 ∧ (w_191.instOf (v_190.u 0 1)).exist = true ∧ v_190.u 1 1 = (w_191.instOf (v_190.u 0 1)).gen ∧
      w_191.inst.resetOn.contains (v_190.u 0 1) = false) ∧
    (w_192.Ready 1 0x0302 v_190 ∧ v_190.u 0 1 ≤ 63 ∧ (w_192.instOf (v_190.u 0 1)).exist = true ∧
      w_192.inst.portOn.contains (v_190.u 0 1) = true ∧ w_192.inst.resetOn.contains (v_190.u 0 1) = true ∧
      (v_190.u 1 1 + 1) % 256 = (w_192.instOf (v_190.u 0 1)).gen ∧ (w_192.instOf (v_190.u 0 1)).gen < 256) ∧
    (w_194.Ready 1 0x0302 v_193 ∧ v_193.u 0 1 ≤ 63 ∧ (w_194.instOf (v_193.u 0 1)).exist = true ∧ v_193.u 1 1 ≠ (w_194.instOf (v_193.u 0 1)).gen ∧
      w_194.inst.portOn.contains (v_193.u 0 1) = false) ∧
    (w_196.Ready 1 0x0303 v_195 ∧ v_195.mbx ≠ 0 ∧ (v_195.u 0 1 = v_195.mbx ∨ v_195.u 0 1 = 0xFF)) ∧
    (w_198.Ready 1 0x0304 v_197 ∧ v_197.u 0 1 ≠ 0 ∧ v_197.u 0 1 ≤ 63 ∧ (w_198.instOf (v_197.u 0 1)).exist = true ∧
      v_197.u 1 1 = (w_198.instOf (v_197.u 0 1)).gen ∧ v_197.u 6 2 = 2 ∧ v_197.u 8 4 ≤ (w_198.instOf (v_197.u 0 1)).share + w_198.freeShare ∧
      w_198.shareUsed w_198.alloc.grants (v_197.u 0 1) ≤ v_197.u 8 4) ∧
    (w_200.Ready 1 0x0305 v_199) := by
  refine ⟨?_, ?_, ?_, ?_, ?_, ?_, ?_, ?_, ?_, ?_⟩ <;> decide

def v_201 : Txn := { default_Txn with kind := .periodic, dirIn := true, abort := false, port := 1, addr := 1, key := 17, ep := 1, inst := 1, entry := 1 }
def v_202 : Svc := { default_Svc with dirIn := true, assured := false, key := 17, port := 1, addr := 1, ep := 1, inst := 1, entry := 1 }
def w_203 : State :=
  let s := live
  let s := { s with xfer := { s.xfer with opens := [v_201] } }
  let s := { s with xfer := { s.xfer with svcs := [v_202] } }
  { s with scree := { s.scree with injs := [] } }
def v_204 : Svc := { default_Svc with dirIn := true, assured := false, ready := true, key := 17, port := 1, addr := 1, ep := 1, inst := 1, entry := 1 }
def w_205 : State :=
  let s := live
  let s := { s with xfer := { s.xfer with opens := [v_201] } }
  let s := { s with xfer := { s.xfer with svcs := [v_204] } }
  { s with scree := { s.scree with injs := [] } }

/-- The hypotheses of the clauses of PeriodicAnswers (part SampledAnswers) are met. -/
theorem witness_SampledAnswers :
    (w_203.findTxn 1 1 = some v_201 ∧ v_201.kind = .periodic ∧ v_201.dirIn = true ∧ v_201.abort = false ∧ w_203.liveSvc v_201.key = some v_202 ∧
      v_202.dirIn = true ∧ v_202.entry ≠ 0 ∧ v_202.assured = false ∧ w_203.scree.injs = [] ∧
      w_203.judgePacket v_201 ((sopBody 1 0 1)) ([0xFFFFFF, 5, (packetCheck 1 1 (sopBody 1 0 1) [0xFFFFFF, 5])]) false true false = .data [5] 0 1) ∧
    (w_203.findTxn 1 1 = some v_201 ∧ v_201.kind = .periodic ∧ v_201.dirIn = true ∧ v_201.abort = false ∧ w_203.liveSvc v_201.key = some v_202 ∧
      v_202.dirIn = true ∧ v_202.entry ≠ 0 ∧ v_202.assured = false ∧ w_203.scree.injs = [] ∧
      w_203.judgePacket v_201 1 ([] : List Nat) true true true = .damaged) ∧
    (w_203.findTxn 1 1 = some v_201 ∧ v_201.kind = .periodic ∧ v_201.dirIn = true ∧ v_201.abort = false ∧ w_203.liveSvc v_201.key = some v_202 ∧
      v_202.dirIn = true ∧ v_202.entry ≠ 0 ∧ v_202.assured = false ∧ w_203.scree.injs = [] ∧ hskAnswer v_201 8721 = .nrdy 1) ∧
    (w_203.findTxn 1 1 = some v_201 ∧ v_201.kind = .periodic ∧ v_201.dirIn = true ∧ v_201.abort = false ∧ w_203.liveSvc v_201.key = some v_202 ∧
      v_202.dirIn = true ∧ v_202.entry ≠ 0 ∧ v_202.assured = false ∧ w_203.scree.injs = [] ∧ ((hskAnswer v_201 8720 = .nrdy 0 ∧
      v_202.ready = false) ∨ hskAnswer v_201 8720 = .err 1 ∨ hskAnswer v_201 8720 = .err 3)) ∧
    (w_205.findTxn 1 1 = some v_201 ∧ v_201.kind = .periodic ∧ v_201.dirIn = true ∧ v_201.abort = false ∧ w_205.liveSvc v_201.key = some v_204 ∧
      v_204.dirIn = true ∧ v_204.entry ≠ 0 ∧ v_204.assured = false ∧ w_205.scree.injs = [] ∧ hskAnswer v_201 8720 = .nrdy 0 ∧
      v_204.ready = true) ∧
    (w_203.findTxn 1 1 = some v_201 ∧ v_201.kind = .periodic ∧ v_201.dirIn = true ∧ v_201.abort = false ∧ w_203.liveSvc v_201.key = some v_202 ∧
      v_202.dirIn = true ∧ v_202.entry ≠ 0 ∧ v_202.assured = false ∧ w_203.scree.injs = []) := by
  refine ⟨?_, ?_, ?_, ?_, ?_, ?_⟩ <;> decide

def v_206 : Txn := { default_Txn with kind := .periodic, dirIn := true, abort := false, port := 1, addr := 1, key := 17, ep := 1, inst := 1, entry := 1 }
def v_207 : Svc := { default_Svc with dirIn := true, assured := true, key := 17, port := 1, addr := 1, ep := 1, inst := 1, entry := 1 }
def w_208 : State :=
  let s := live
  let s := { s with xfer := { s.xfer with opens := [v_206] } }
  let s := { s with xfer := { s.xfer with svcs := [v_207] } }
  { s with scree := { s.scree with injs := [] } }
def v_209 : Svc := { default_Svc with dirIn := true, assured := true, key := 17, port := 1, addr := 1, ep := 1, inst := 1, entry := 1, attempts := 9 }
def w_210 : State :=
  let s := live
  let s := { s with xfer := { s.xfer with opens := [v_206] } }
  let s := { s with xfer := { s.xfer with svcs := [v_209] } }
  { s with scree := { s.scree with injs := [] } }

/-- The hypotheses of the clauses of PeriodicAnswers (part AssuredAnswers) are met. -/
theorem witness_AssuredAnswers :
    (w_208.findTxn 1 1 = some v_206 ∧ v_206.kind = .periodic ∧ v_206.dirIn = true ∧ v_206.abort = false ∧ w_208.liveSvc v_206.key = some v_207 ∧
      v_207.dirIn = true ∧ v_207.entry ≠ 0 ∧ v_207.assured = true ∧ w_208.scree.injs = [] ∧ v_207.attempts < 1 + w_208.retryReserve) ∧
    (w_210.findTxn 1 1 = some v_206 ∧ v_206.kind = .periodic ∧ v_206.dirIn = true ∧ v_206.abort = false ∧ w_210.liveSvc v_206.key = some v_209 ∧
      v_209.dirIn = true ∧ v_209.entry ≠ 0 ∧ v_209.assured = true ∧ w_210.scree.injs = [] ∧ 1 + w_210.retryReserve ≤ v_209.attempts) ∧
    (w_208.findTxn 1 1 = some v_206 ∧ v_206.kind = .periodic ∧ v_206.dirIn = true ∧ v_206.abort = false ∧ w_208.liveSvc v_206.key = some v_207 ∧
      v_207.dirIn = true ∧ v_207.entry ≠ 0 ∧ v_207.assured = true ∧ w_208.scree.injs = [] ∧ hskAnswer v_206 8721 = .nrdy 1) ∧
    (w_208.findTxn 1 1 = some v_206 ∧ v_206.kind = .periodic ∧ v_206.dirIn = true ∧ v_206.abort = false ∧ w_208.liveSvc v_206.key = some v_207 ∧
      v_207.dirIn = true ∧ v_207.entry ≠ 0 ∧ v_207.assured = true ∧ w_208.scree.injs = [] ∧
      w_208.judgePacket v_206 ((sopBody 1 0 1)) ([0xFFFFFF, 5, (packetCheck 1 1 (sopBody 1 0 1) [0xFFFFFF, 5])]) false true false = .data [5] 0 1) := by
  refine ⟨?_, ?_, ?_, ?_⟩ <;> decide

def v_211 : Txn := { default_Txn with port := 1, addr := 1, key := 17, ep := 1, inst := 1, entry := 1 }
def v_212 : Txn := { default_Txn with port := 1, addr := 1, key := 17, ep := 1, inst := 1, entry := 1, kind := .bulk }

/-- The hypotheses of the clauses of PacketsOnTheWire are met. -/
theorem witness_PacketsOnTheWire :
    (([1, 2]).length ≠ 1 % 1024 + b2n v_211.stamped + 1) ∧
    (([1, 2]).length < 1024 ∧ v_212.stamped = false) ∧
    (([1, 2]).length < 1024 ∧ v_211.stamped = true) ∧
    (1 ≠ packetCheck v_211.addr v_211.ep 1 ([1, 2])) := by
  refine ⟨?_, ?_, ?_, ?_⟩ <;> decide

def v_213 : Svc := { default_Svc with key := 17, port := 1, addr := 1, ep := 1, inst := 1, entry := 1 }
def w_214 : State :=
  let s := live
  let s := { s with xfer := { s.xfer with svcs := [v_213] } }
  { s with time := { s.time with phase := .stopped } }
def w_215 : State :=
  let s := live
  let s := { s with xfer := { s.xfer with svcs := [v_213] } }
  { s with xfer := { s.xfer with opens := [{ default_Txn with port := 1, addr := 1, kind := .bulk }] } }
def v_216 : Svc := { default_Svc with dirIn := true, key := 17, port := 1, addr := 1, ep := 1, inst := 1, entry := 1 }
def w_217 : State :=
  let s := live
  let s := s.put (Fd.LNK_STATUS_STATE 1) 8
  { s with xfer := { s.xfer with svcs := [v_216] } }
def v_218 : Svc := { default_Svc with key := 17, port := 1, addr := 1, ep := 1, inst := 1, entry := 1, dirIn := true }
def v_219 : Ctx := { default_Ctx with valid := true, inst := 1, entry := 1, maxWords := 64, intent := 10 ^ 9 }
def w_220 : State :=
  let s := live
  let s := { s with xfer := { s.xfer with svcs := [v_218] } }
  let s := s.putCtxEnt v_218.key (some { (s.ctxEnt v_218.key).getD default_CtxEnt with ctx := v_219, st := .clean })
  s.putCtxEnt v_218.key (some { (s.ctxEnt v_218.key).getD default_CtxEnt with st := .clean })
def v_221 : Svc := { default_Svc with attempts := 0, port := 1, dirIn := true, key := 17, addr := 1, ep := 1, inst := 1, entry := 1 }
def v_222 : Ctx := { default_Ctx with valid := true, inst := 1, entry := 1, maxWords := 64 }
def w_223 : State :=
  let s := live
  let s := { s with xfer := { s.xfer with svcs := [v_221] } }
  let s := s.put (Fd.LNK_STATUS_STATE 1) 7
  let s := s.putCtxEnt v_221.key (some { (s.ctxEnt v_221.key).getD default_CtxEnt with ctx := v_222, st := .clean })
  let s := s.putCtxEnt v_221.key (some { (s.ctxEnt v_221.key).getD default_CtxEnt with st := .clean })
  { s with scree := { s.scree with injs := [] } }
def v_224 : Svc := { default_Svc with attempts := 0, port := 1, dirIn := false, assured := false, key := 17, addr := 1, ep := 1, inst := 1, entry := 1 }
def w_225 : State :=
  let s := live
  let s := { s with xfer := { s.xfer with svcs := [v_224] } }
  let s := s.put (Fd.LNK_STATUS_STATE 1) 7
  let s := s.putCtxEnt v_224.key (some { (s.ctxEnt v_224.key).getD default_CtxEnt with ctx := v_222, st := .clean })
  let s := s.putCtxEnt v_224.key (some { (s.ctxEnt v_224.key).getD default_CtxEnt with st := .clean })
  { s with scree := { s.scree with injs := [] } }
def v_226 : Svc := { default_Svc with attempts := 0, dirIn := true, key := 17, port := 1, addr := 1, ep := 1, inst := 1, entry := 1 }
def w_227 : State := { live with xfer := { live.xfer with svcs := [v_226] } }

/-- The hypotheses of the clauses of PeriodicLaunches are met. -/
theorem witness_PeriodicLaunches :
    (w_214.headSvc 1 = some v_213 ∧ w_214.time.phase = .stopped) ∧
    (w_215.headSvc 1 = some v_213 ∧ w_215.time.phase ≠ .stopped ∧ (w_215.findTxn 1 v_213.addr).isSome = true) ∧
    (w_217.headSvc 1 = some v_216 ∧ w_217.time.phase ≠ .stopped ∧ w_217.findTxn 1 v_216.addr = none ∧ w_217.pathRecovers 1 v_216.addr = true ∧
      v_216.entry ≠ 0 ∧ v_216.dirIn = true) ∧
    (w_220.headSvc 1 = some v_218 ∧ w_220.pathRecovers 1 v_218.addr = false ∧ w_220.ctx v_218.key = some v_219 ∧
      w_220.ctxReady v_218.key = true ∧ w_220.periodicFits 1 v_218.addr (w_220.svcNeed v_218 v_219) = false) ∧
    (w_223.headSvc 1 = some v_221 ∧ w_223.time.phase ≠ .stopped ∧ w_223.findTxn 1 v_221.addr = none ∧ w_223.linkState 1 = 7 ∧
      w_223.pathRecovers 1 v_221.addr = false ∧ w_223.ctx v_221.key = some v_222 ∧ w_223.ctxReady v_221.key = true ∧
      w_223.periodicFits 1 v_221.addr (w_223.svcNeed v_221 v_222) = true ∧ v_221.attempts = 0 ∧ w_223.scree.injs = [] ∧ v_221.port = 1 ∧
      v_221.dirIn = true) ∧
    (w_225.headSvc 1 = some v_224 ∧ w_225.time.phase ≠ .stopped ∧ w_225.findTxn 1 v_224.addr = none ∧ w_225.linkState 1 = 7 ∧
      w_225.pathRecovers 1 v_224.addr = false ∧ w_225.ctx v_224.key = some v_222 ∧ w_225.ctxReady v_224.key = true ∧
      w_225.periodicFits 1 v_224.addr (w_225.svcNeed v_224 v_222) = true ∧ v_224.attempts = 0 ∧ w_225.scree.injs = [] ∧ v_224.port = 1 ∧
      v_224.dirIn = false ∧ v_224.assured = false ∧ v_224.entry ≠ 0 ∧ 0 = 0) ∧
    (w_227.ctxReady 17 = false ∧ w_227.liveSvc 17 = some v_226 ∧ v_226.attempts = 0 ∧ v_226.entry ≠ 0 ∧ v_226.dirIn = true) := by
  refine ⟨?_, ?_, ?_, ?_, ?_, ?_, ?_⟩ <;> decide

def v_228 : HistRec := { default_HistRec with key := 17, inst := 1, entry := 1 }
def w_229 : State :=
  let s := live
  let s := s.put (Fd.LNK_STATUS_STATE 1) 7
  let s := { s with time := { s.time with phase := .running, ticking := true, counting := true, started := true } }
  let s := s.putDev 1 (some { default_Device with link := { port := 1, hport := 0, hub := 0 }, tier := 1 })
  let s := s.putCtxEnt 17 (some { default_CtxEnt with st := .clean })
  let s := { s with time := { s.time with frameNo := 1 } }
  let s := { s with time := { s.time with colWt := 20000 } }
  { s with xfer := { s.xfer with hists := [v_228] } }
def w_230 : State :=
  let s := live
  let s := s.put (Fd.LNK_STATUS_STATE 1) 7
  let s := { s with time := { s.time with phase := .running, ticking := true, counting := true, started := true } }
  let s := s.putDev 1 (some { default_Device with link := { port := 1, hport := 0, hub := 0 }, tier := 1 })
  let s := s.putCtxEnt 17 (some { default_CtxEnt with st := .clean })
  let s := { s with time := { s.time with frameNo := 1 } }
  let s := { s with xfer := { s.xfer with hists := [{ default_HistRec with key := 17, inst := 1, entry := 1 }] } }
  { s with time := { s.time with colWt := 20000 } }
def v_231 : SysCtl := { default_SysCtl with stage := .setup, port := 1, addr := 1 }
def w_232 : State :=
  let s := live
  let s := s.put (Fd.LNK_STATUS_STATE 1) 7
  let s := { s with time := { s.time with phase := .running, ticking := true, counting := true, started := true } }
  let s := s.putDev 1 (some { default_Device with link := { port := 1, hport := 0, hub := 0 }, tier := 1 })
  let s := { s with xfer := { s.xfer with ctls := [{ default_SysCtl with stage := .setup, port := 1, addr := 1 }] } }
  { s with time := { s.time with colWt := 20000 } }
def v_233 : Txn := { default_Txn with kind := .bulk, abort := false, port := 1, addr := 1, key := 17, ep := 1, inst := 1, entry := 1 }
def v_234 : Entry := { default_Entry with desc := some ({ default_Desc with bytes := List.replicate 32 0 }), closing := none }
def v_235 : Ctx := { default_Ctx with valid := true, inst := 1, entry := 1, maxWords := 64 }
def v_236 : Desc := { default_Desc with bytes := List.replicate 32 0 }
def w_237 : State :=
  let s := live
  let s := { s with xfer := { s.xfer with opens := [v_233] } }
  let s := { s with scree := { s.scree with injs := [] } }
  let s := s.putEntry v_233.inst v_233.entry (some v_234)
  s.putCtxEnt v_233.key (some { (s.ctxEnt v_233.key).getD default_CtxEnt with ctx := v_235, st := .clean })
def v_238 : GCmd := { default_GCmd with port := 1 }
def w_239 : State := { live with red := { live.red with cmds := [v_238] } }
def w_240 : State :=
  let s := live
  let s := s.put (Fd.LNK_STATUS_STATE 1) 7
  let s := { s with time := { s.time with phase := .running, ticking := true, counting := true, started := true } }
  let s := { s with time := { s.time with colWt := 20000 } }
  { s with red := { s.red with cmds := [v_238] } }
def v_241 : BulkW := { default_BulkW with inst := 1, entry := 1, key := 17 }
def w_242 : State :=
  let s := live
  let s := { s with time := { s.time with frameNo := 1 } }
  let s := s.put Fd.GLB_STATUS_H0_UP 1
  let s := { s with xfer := { s.xfer with bulkIn := [{ default_BulkW with inst := 1, entry := 1, key := 17 }] } }
  s.putEntry v_241.inst v_241.entry (some default_Entry)
def v_243 : Entry := { default_Entry with desc := some ({ default_Desc with stop := none, bytes := (List.replicate 8 0 ++ 9 :: List.replicate 23 0) }), kind := 1, live := true, closing := none }
def v_244 : Desc := { default_Desc with stop := none, bytes := (List.replicate 8 0 ++ 9 :: List.replicate 23 0) }
def w_245 : State :=
  let s := live
  let s := s.putCtxEnt 1 (some { (s.ctxEnt 1).getD default_CtxEnt with ctx := v_235, st := .clean })
  let s := s.putEntry 1 1 (some v_243)
  let s := { s with xfer := { s.xfer with bulkOut := [] } }
  { s with host := { s.host with reads := [] } }
def v_246 : SlotW := { default_SlotW with hist := false, key := 17, inst := 1, entry := 1 }
def w_247 : State :=
  let s := live
  let s := { s with time := { s.time with frameNo := 2 } }
  let s := { s with xfer := { s.xfer with slots := [v_246] } }
  { s with xfer := { s.xfer with bulkIn := [] } }
def v_248 : SysCtl := { default_SysCtl with begun := some 1, port := 1, addr := 1 }
def w_249 : State := { live with xfer := { live.xfer with ctls := [v_248] } }

/-- The hypotheses of the clauses of BulkRegion are met. -/
theorem witness_BulkRegion :
    (w_229.nextHist 1 = some v_228 ∧ w_229.bulkOpen 1 = true ∧ w_229.cmdWaits 1 = false) ∧
    (((w_230.nextHist 1).isSome = true ∨ w_230.cmdWaits 1 = true ∨ w_230.bulkOpen 1 = false)) ∧
    (w_232.bulkOpen 1 = true ∧ w_232.cmdWaits 1 = false ∧ w_232.nextHist 1 = none ∧ w_232.nextEp0 1 = some (1, .sys v_231) ∧
      v_231.stage = .setup) ∧
    (w_237.findTxn 1 1 = some v_233 ∧ v_233.kind = .bulk ∧ v_233.abort = false ∧ w_237.scree.injs = [] ∧
      w_237.entry v_233.inst v_233.entry = some v_234 ∧ w_237.ctx v_233.key = some v_235 ∧ v_234.desc = some v_236 ∧ v_234.closing = none ∧
      hskAnswer v_233 16912 = .stall) ∧
    (w_239.nextCmd 1 = some v_238 ∧ w_239.linkState 1 ≠ 7) ∧
    (w_240.nextCmd 1 = some v_238 ∧ w_240.bulkOpen 1 = true ∧ w_240.bulkFits 1 0 (w_240.cmdNeed 1 v_238) = true) ∧
    ((w_242.xfer.bulkIn.find? fun y => since32 w_242.frame y.bank == 1) = some v_241 ∧ w_242.mayDrain (w_242.instOf v_241.inst).port = true ∧
      v_241.gen = (w_242.instOf v_241.inst).gen ∧ w_242.entry v_241.inst v_241.entry = some default_Entry ∧
      w_242.isoKind v_241.inst (pasidOf default_Entry.pasid) = 0 ∧ w_242.portUp (w_242.instOf v_241.inst).port = true) ∧
    (w_245.boundEntry 1 = some (1, 1) ∧ w_245.ctx 1 = some v_235 ∧ w_245.entry 1 1 = some v_243 ∧ v_243.desc = some v_244 ∧ v_243.kind = 1 ∧
      v_243.live = true ∧ v_243.closing = none ∧ v_244.stop = none ∧ 0 < v_243.size ∧ v_244.dataIn v_243 = false ∧ v_244.dtype = 0 ∧
      v_244.moved < v_244.len ∧ w_245.xfer.bulkOut = [] ∧ w_245.host.reads = [] ∧ 0 < w_245.get Fd.XFR_CTRL_BULK_OUT_PKTS ∧
      w_245.mayDrain (w_245.instOf 1).port = true ∧
      (min (packetBytes v_235) (v_244.len - v_244.moved) + 2) / 3 ≤ 131072 - w_245.load bufMap ((w_245.frame + 1) % 2 ^ 32 % 64) ∧
      w_245.isoKind 1 (pasidOf v_243.pasid) = 0) ∧
    (w_247.xfer.slots = [v_246] ∧ w_247.xfer.bulkIn = [] ∧ 2 ≤ since32 w_247.frame v_246.bank ∧ v_246.gen = (w_247.instOf v_246.inst).gen ∧
      v_246.hist = false) ∧
    (w_249.sysAt 1 1 = some v_248 ∧ v_248.begun = some 1 ∧ w_249.msFrames 50 ≤ since32 w_249.frame 1 ∧ w_249.msFrames 5 ≤ w_249.msFrames 50) := by
  refine ⟨?_, ?_, ?_, ?_, ?_, ?_, ?_, ?_, ?_, ?_⟩ <;> decide

def w_250 : State :=
  let s := live
  let s := { s with tree := { s.tree with waiting := [(rootLink 1, false, 0, 0)] } }
  s.put Fd.TRE_CTRL_AUTO_ENUM 1
def w_251 : State :=
  let s := live
  let s := { s with tree := { s.tree with waiting := [(rootLink 1, false, 200000, 0)] } }
  s.put Fd.TRE_CTRL_AUTO_ENUM 1
def w_252 : State := { live with tree := { live.tree with enums := [{ default_Enum with link := rootLink 1 }] } }
def v_253 : Enum := { default_Enum with step := .config, pos := 0, link := rootLink 1, addr := 1 }
def v_254 : SysCtl := { default_SysCtl with result := some 0, setup := setupWords false 0 0 0x09 1 0 0, port := 1, addr := 1, use := .enumerate }
def w_255 : State :=
  let s := live
  let s := { s with tree := { s.tree with enums := [v_253] } }
  { s with xfer := { s.xfer with ctls := [v_254] } }
def v_256 : Enum := { default_Enum with addr := 0, link := rootLink 1 }
def v_257 : SysCtl := { default_SysCtl with result := some 1, port := 1, addr := 1, use := .enumerate }
def w_258 : State :=
  let s := live
  let s := { s with tree := { s.tree with enums := [v_256] } }
  { s with xfer := { s.xfer with ctls := [v_257] } }

/-- The hypotheses of the clauses of Enumeration are met. -/
theorem witness_Enumeration :
    (1 < 8 ∧ w_250.enumOn 1 = none ∧ w_250.nextEnum 1 = some (rootLink 1, false, 0, 0) ∧
      w_250.enumReason ({ link := rootLink 1, step := .route0, pos := 0, path := [], addr := 0, tier := 1, down := 0, turn := 0, hubInfo := false, dev := [], eps := [], hubd := [], repeats := 0, page := none, waiting := false }) = none) ∧
    (1 < 8 ∧ w_251.enumOn 1 = none ∧ w_251.nextEnum 1 = some (rootLink 1, false, 200000, 0) ∧
      w_251.enumReason ({ link := rootLink 1, step := .route0, pos := 0, path := [], addr := 0, tier := 1, down := 200000, turn := 0, hubInfo := false, dev := [], eps := [], hubd := [], repeats := 0, page := none, waiting := false }) = some 4) ∧
    ((w_252.enumOn 1).isSome = true) ∧
    (w_255.enumOn 1 = some v_253 ∧
      w_255.xfer.ctls.find? (fun c_b => c_b.use == SysUse.enumerate && c_b.port == 1 && c_b.result.isSome) = some v_254 ∧ v_253.step = .config ∧
      v_253.pos = 0 ∧ devIsHub v_253.dev = false ∧ v_254.result = some 0 ∧ v_254.setup = setupWords false 0 0 0x09 1 0 0) ∧
    (w_258.enumOn 1 = some v_256 ∧
      w_258.xfer.ctls.find? (fun c_b => c_b.use == SysUse.enumerate && c_b.port == 1 && c_b.result.isSome) = some v_257 ∧ v_257.result = some 1 ∧
      v_256.addr = 0 ∧ v_256.link = rootLink 1 ∧ 1 < 8) := by
  refine ⟨⟨by decide, by decide, by decide,
      enumReason_none _ _ 51200 (accBase_le _ _ (by decide) (by decide)) (by decide) (by decide) (by decide) (by decide) (by decide) (by decide) (by decide)⟩,
    ⟨by decide, by decide, by decide, enumReason_late _ _ 51200 (by decide) (by decide) (by decide) (by decide) (by decide)⟩, ?_, ?_, ?_⟩ <;> decide

def w_259 : State := live.editLp 1 fun x => { x with resetIdle := true }
def w_260 : State := live.editLp 1 fun x => { x with resetIdle := false }
def v_261 : Cmd := cmdOf 0x0100 []
def w_262 : State := withCmd live v_261
def v_263 : Cmd := { (cmdOf 0x0101 [0, 0]) with pend := false }
def w_264 : State := withCmd live v_263
def v_265 : Cmd := cmdOf 0x0102 []
def w_266 : State := withCmd live v_265
def v_267 : Cmd := cmdOf 0x0103 []
def w_268 : State := withCmd live v_267
def w_269 : State :=
  let s := live
  let s := withCmd s v_267
  let s := s.put (Fd.LNK_STATUS_STATE (v_267.u 0 1)) 7
  let s := s.editLp (v_267.u 0 1) fun x => { x with pmReq := 0 }
  s.editLp (v_267.u 0 1) fun x => { x with pmEnter := 0 }
def v_270 : Cmd := cmdOf 0x0104 []
def w_271 : State :=
  let s := live
  let s := withCmd s v_270
  s.put (Fd.LNK_STATUS_STATE (v_270.u 0 1)) 10
def v_272 : Cmd := cmdOf 0x0105 [0, 1]
def w_273 : State :=
  let s := live
  let s := withCmd s v_272
  { s with tree := { s.tree with dm := { s.tree.dm with on := false } } }
def v_274 : Cmd := cmdOf 0x0105 [1]
def w_275 : State :=
  let s := live
  let s := s.putDev 1 (some { default_Device with link := { port := 1, hport := 0, hub := 0 }, tier := 1 })
  withCmd s v_274
def v_276 : Device := { default_Device with link := { port := 1, hport := 0, hub := 0 }, tier := 1, owner := 1 }
def v_277 : Cmd := cmdOf 0x0106 []
def w_278 : State :=
  let s := live
  let s := withCmd s v_277
  s.putDev (v_277.u 0 2) (some v_276)
def v_279 : Cmd := cmdOf 0x0106 [1, 0, 0, 0, 0, 5, 0]
def w_280 : State :=
  let s := live
  let s := s.putDev 1 (some { default_Device with link := { port := 1, hport := 0, hub := 0 }, tier := 1 })
  withCmd s v_279
def v_281 : Cmd := cmdOf 0x0107 [1, 0]
def w_282 : State :=
  let s := live
  let s := withCmd s v_281
  s.putDev (v_281.u 0 2) (some v_276)

/-- The hypotheses of the clauses of TreeCommands are met. -/
theorem witness_TreeCommands :
    ((w_259.lp 1).resetIdle = true) ∧
    ((w_260.lp 1).resetIdle = false) ∧
    (w_262.Ready 1 0x0100 v_261 ∧ v_261.u 0 1 < w_262.ports) ∧
    (w_264.Ready 1 0x0101 v_263 ∧ v_263.u 0 1 < w_264.ports ∧ v_263.u 1 1 = 0 ∧ w_264.bistHolds = false ∧ v_263.pend = false) ∧
    (w_266.Ready 1 0x0102 v_265 ∧ v_265.link 0 1 2 = rootLink (v_265.u 0 1) ∧ v_265.u 0 1 < w_266.ports ∧ w_266.isDm (v_265.u 0 1) = false ∧
      w_266.bistHolds = false ∧ w_266.isOff (rootLink (v_265.u 0 1)) = false ∧ w_266.linkState (v_265.u 0 1) ≠ 9 ∧
      w_266.linkState (v_265.u 0 1) ≠ 10) ∧
    (w_268.Ready 1 0x0103 v_267 ∧ v_267.link 0 1 2 = rootLink (v_267.u 0 1) ∧ v_267.u 0 1 < w_268.ports ∧ w_268.linkState (v_267.u 0 1) ≠ 7) ∧
    (w_269.Ready 1 0x0103 v_267 ∧ v_267.link 0 1 2 = rootLink (v_267.u 0 1) ∧ v_267.u 0 1 < w_269.ports ∧ w_269.linkState (v_267.u 0 1) = 7 ∧
      (w_269.lp (v_267.u 0 1)).pmReq = 0 ∧ (w_269.lp (v_267.u 0 1)).pmEnter = 0 ∧
      (w_269.xfer.opens.any fun t => t.port == v_267.u 0 1) = false) ∧
    (w_271.Ready 1 0x0104 v_270 ∧ v_270.link 0 1 2 = rootLink (v_270.u 0 1) ∧ v_270.u 0 1 < w_271.ports ∧ w_271.linkState (v_270.u 0 1) = 10) ∧
    (w_273.Ready 1 0x0105 v_272 ∧ v_272.u 0 1 < w_273.ports ∧ v_272.u 1 1 = 1 ∧ w_273.portDevices (v_272.u 0 1) = [] ∧ w_273.tree.dm.on = false ∧
      w_273.bistHolds = false) ∧
    (w_275.Ready 1 0x0105 v_274 ∧ v_274.u 0 1 < w_275.ports ∧ v_274.u 1 1 ≤ 1 ∧ w_275.portDevices (v_274.u 0 1) ≠ []) ∧
    (w_278.Ready 1 0x0106 v_277 ∧ w_278.dev (v_277.u 0 2) = some v_276 ∧ v_277.u 10 3 / 2 ^ 12 ≤ 192 ∧ ownRequest (v_277.u 4 3) = false) ∧
    (w_280.Ready 1 0x0106 v_279 ∧ (w_280.dev (v_279.u 0 2)).isSome = true ∧ v_279.u 10 3 / 2 ^ 12 ≤ 192 ∧ ownRequest (v_279.u 4 3) = true) ∧
    (w_282.Ready 1 0x0107 v_281 ∧ w_282.dev (v_281.u 0 2) = some v_276 ∧ v_281.u 2 1 % 2 = 0) := by
  refine ⟨?_, ?_, ?_, ?_, ?_, ?_, ?_, ?_, ?_, ?_, ?_, ?_, ?_⟩ <;> decide

def w_283 : State := { live with tree := { live.tree with dm := { live.tree.dm with on := true } } }

/-- The hypotheses of the clauses of DeviceBusReset are met. -/
theorem witness_DeviceBusReset :
    (w_283.tree.dm.on = true ∧ w_283.tree.dm.port < 8) := by
  decide

def w_284 : State :=
  let s := live
  let s := { s with tree := { s.tree with dm := { s.tree.dm with on := true, port := 1 } } }
  let s := s.put (Fd.LNK_STATUS_STATE 1) 7
  s.put (Fd.TRE_DM_EP_CFG_VALID 1) 1
def w_285 : State :=
  let s := live
  let s := s.editLp 1 fun x => { x with wordLock := true }
  let s := { s with tree := { s.tree with dm := { s.tree.dm with on := true, port := 1 } } }
  let s := { s with tree := { s.tree with dm := { s.tree.dm with on := true } } }
  let s := { s with tree := { s.tree with dm := { s.tree.dm with strobeAt := some 1 } } }
  let s := { s with tree := { s.tree with dm := { s.tree.dm with lastSof := some 1 } } }
  s.editLp s.tree.dm.port fun x => { x with wordLock := true }
def w_286 : State :=
  let s := live
  let s := s.editLp 1 fun x => { x with wordLock := true }
  let s := { s with tree := { s.tree with dm := { s.tree.dm with on := true, port := 1 } } }
  let s := { s with tree := { s.tree with dm := { s.tree.dm with on := true } } }
  let s := { s with tree := { s.tree with dm := { s.tree.dm with strobeAt := none } } }
  let s := { s with tree := { s.tree with dm := { s.tree.dm with lastSof := some 1 } } }
  let s := { s with tree := { s.tree with dm := { s.tree.dm with lastStrobe := some 1 } } }
  s.editLp s.tree.dm.port fun x => { x with wordLock := true }
def w_287 : State := { live with tree := { live.tree with dm := { live.tree.dm with lastSof := none } } }
def w_288 : State :=
  let s := live
  let s := { s with tree := { s.tree with dm := { s.tree.dm with on := true, port := 1 } } }
  let s := s.put (Fd.LNK_STATUS_STATE 1) 7
  let s := s.put (Fd.TRE_DM_EP_CFG_VALID 1) 1
  let s := s.put (Fd.TRE_DM_EP_CFG_DIR 1) 1
  s.put (Fd.TRE_DM_EP_STAT_HALT 1) 1
def w_289 : State :=
  let s := live
  let s := { s with tree := { s.tree with dm := { s.tree.dm with on := true, port := 1 } } }
  let s := s.put (Fd.LNK_STATUS_STATE 1) 7
  let s := s.put (Fd.TRE_DM_EP_CFG_VALID 1) 1
  let s := s.put (Fd.TRE_DM_EP_CFG_DIR 1) 1
  s.put (Fd.TRE_DM_EP_CFG_TYPE 1) 1
def w_290 : State :=
  let s := live
  let s := { s with tree := { s.tree with dm := { s.tree.dm with on := true, port := 1 } } }
  let s := s.put (Fd.LNK_STATUS_STATE 1) 7
  let s := s.put (Fd.TRE_DM_EP_CFG_VALID 1) 1
  s.put (Fd.TRE_DM_EP_CFG_DIR 1) 1
def w_291 : State :=
  let s := live
  let s := { s with tree := { s.tree with dm := { s.tree.dm with on := true, port := 1 } } }
  let s := s.put (Fd.LNK_STATUS_STATE 1) 7
  let s := s.put (Fd.TRE_DM_EP_CFG_VALID 1) 1
  let s := s.put (Fd.TRE_DM_EP_CFG_DIR 1) 1
  s.put (Fd.TRE_DM_EP_STAT_FULL 1) 1
def w_292 : State :=
  let s := live
  let s := { s with tree := { s.tree with dm := { s.tree.dm with on := true, port := 1 } } }
  let s := s.put (Fd.LNK_STATUS_STATE 1) 7
  let s := s.put (Fd.TRE_DM_EP_CFG_VALID 1) 1
  let s := s.put (Fd.TRE_DM_EP_CFG_DIR 1) 1
  let s := s.put (Fd.TRE_DM_EP_STAT_FULL 1) 1
  let s := s.put (Fd.TRE_DM_EP_CFG_TYPE 1) 1
  { s with tree := { s.tree with dm := { s.tree.dm with lastSof := some 5, samples := [(4, false)] } } }
def w_293 : State := { live with tree := { live.tree with dm := { live.tree.dm with token := some (3, 0) } } }
def w_294 : State := { live with tree := { live.tree with dm := { live.tree.dm with token := some (2, 1) } } }
def w_295 : State :=
  let s := live
  let s := { s with tree := { s.tree with dm := { s.tree.dm with on := true, port := 1 } } }
  let s := s.put (Fd.LNK_STATUS_STATE 1) 7
  let s := s.put (Fd.TRE_DM_EP_CFG_VALID 1) 1
  let s := s.put (Fd.TRE_DM_EP_CFG_MAX_WORDS 1) 8
  { s with tree := { s.tree with dm := { s.tree.dm with token := some (2, 1) } } }
def w_296 : State :=
  let s := live
  let s := { s with tree := { s.tree with dm := { s.tree.dm with on := true, port := 1 } } }
  let s := s.put (Fd.LNK_STATUS_STATE 1) 7
  let s := s.put (Fd.TRE_DM_EP_CFG_VALID 1) 1
  let s := s.put (Fd.TRE_DM_EP_STAT_FULL 1) 1
  let s := { s with tree := { s.tree with dm := { s.tree.dm with on := true } } }
  { s with tree := { s.tree with dm := { s.tree.dm with await := some 1 } } }
def w_297 : State := { live with tree := { live.tree with dm := { live.tree.dm with on := true } } }
def w_298 : State :=
  let s := live
  let s := { s with tree := { s.tree with dm := { s.tree.dm with on := true, port := 1 } } }
  let s := s.put (Fd.LNK_STATUS_STATE 1) 7
  let s := s.put (Fd.TRE_DM_EP_CFG_VALID 1) 1
  let s := { s with tree := { s.tree with dm := { s.tree.dm with on := true } } }
  let s := s.put (Fd.LNK_STATUS_STATE s.tree.dm.port) 10
  let s := s.put Fd.TRE_DM_STATUS_REMOTE_WAKE_EN 1
  s.put (Fd.LNK_STATUS_STATE 1) 10

/-- The hypotheses of the clauses of DeviceMode are met. -/
theorem witness_DeviceMode :
    (sofContent ((let c := [0, 5, 0, 0, 0, 0, 0]; let k := sofCheck ((let k := sofCheck [0, 5, 0, 0, 0, 0, 0]; [0, 5, 0, 0, 0, k / 4096, k % 4096])); [0, 4096 + 5, 2 * 4096, 3 * 4096, 4 * 4096, 5 * 4096 + k / 4096, 6 * 4096 + k % 4096])) = some ((let k := sofCheck [0, 5, 0, 0, 0, 0, 0]; [0, 5, 0, 0, 0, k / 4096, k % 4096])) ∧
      ((w_284.advance 1).dmWords ((let c := [0, 5, 0, 0, 0, 0, 0]; let k := sofCheck ((let k := sofCheck [0, 5, 0, 0, 0, 0, 0]; [0, 5, 0, 0, 0, k / 4096, k % 4096])); [0, 4096 + 5, 2 * 4096, 3 * 4096, 4 * 4096, 5 * 4096 + k / 4096, 6 * 4096 + k % 4096])).length).tree.dm.on = true ∧
      ((w_284.advance 1).dmWords ((let c := [0, 5, 0, 0, 0, 0, 0]; let k := sofCheck ((let k := sofCheck [0, 5, 0, 0, 0, 0, 0]; [0, 5, 0, 0, 0, k / 4096, k % 4096])); [0, 4096 + 5, 2 * 4096, 3 * 4096, 4 * 4096, 5 * 4096 + k / 4096, 6 * 4096 + k % 4096])).length).linkState ((w_284.advance 1).dmWords ((let c := [0, 5, 0, 0, 0, 0, 0]; let k := sofCheck ((let k := sofCheck [0, 5, 0, 0, 0, 0, 0]; [0, 5, 0, 0, 0, k / 4096, k % 4096])); [0, 4096 + 5, 2 * 4096, 3 * 4096, 4 * 4096, 5 * 4096 + k / 4096, 6 * 4096 + k % 4096])).length).tree.dm.port = 7) ∧
    (sofContent [0] = none ∧ ((w_284.advance 1).dmWords [0].length).tree.dm.on = true) ∧
    (sofContent ((List.replicate 15 0 ++ [61440])) = none ∧
      ((w_284.advance 1).dmWords ((List.replicate 15 0 ++ [61440])).length).tree.dm.on = true ∧ ((List.replicate 15 0 ++ [61440])).length = 16 ∧
      ((List.replicate 15 0 ++ [61440])).getD 15 0 / 2 ^ 12 = 15) ∧
    (((live.advance 1).dmWords ([] : List Nat).length).tree.dm.on = false) ∧
    (w_285.tree.dm.on = true ∧ w_285.tree.dm.strobeAt = some 1 ∧ w_285.tree.dm.lastSof = some 1 ∧
      (w_285.lp w_285.tree.dm.port).wordLock = true) ∧
    (w_286.tree.dm.on = true ∧ w_286.tree.dm.strobeAt = none ∧ w_286.tree.dm.lastSof = some 1 ∧ w_286.tree.dm.lastStrobe = some 1 ∧
      (w_286.lp w_286.tree.dm.port).wordLock = true) ∧
    ((w_287.tree.dm.lastSof = none ∨ (w_287.tree.dm.strobeAt = none ∧
      w_287.tree.dm.lastStrobe = none) ∨ (w_287.lp w_287.tree.dm.port).wordLock = false)) ∧
    (live.reach .h0 .manager = .ok) ∧
    (live.dmTakes 1 9 1 = false) ∧
    (w_288.dmTakes 1 0 1 = true ∧ 1 ≠ 0 ∧ (w_288.dmWords 2).dmHalt 1 = true) ∧
    (w_289.dmTakes 1 0 1 = true ∧ 1 ≠ 0 ∧ (w_289.dmWords 2).dmHalt 1 = false ∧ (w_289.dmWords 2).dmSampled 1 = true ∧
      (w_289.dmWords 2).dmSample = none) ∧
    (w_290.dmTakes 1 0 1 = true ∧ 1 ≠ 0 ∧ (w_290.dmWords 2).dmHalt 1 = false ∧ (w_290.dmWords 2).dmFull 1 = false) ∧
    (w_291.dmTakes 1 0 1 = true ∧ 1 ≠ 0 ∧ (w_291.dmWords 2).dmHalt 1 = false ∧ (w_291.dmWords 2).dmFull 1 = true ∧
      (w_291.dmWords 2).dmSampled 1 = false) ∧
    (w_292.dmTakes 1 0 1 = true ∧ 1 ≠ 0 ∧ (w_292.dmWords 2).dmHalt 1 = false ∧ (w_292.dmWords 2).dmFull 1 = true ∧
      (w_292.dmWords 2).dmSampled 1 = true ∧ (w_292.dmWords 2).dmSample = some (((4, false) : Nat × Bool)) ∧ 1 < 16) ∧
    (w_293.tree.dm.token = some (3, 0) ∧ (0x900 / 2 ^ 21) % 4 = 0 ∧ (w_293.dmWords 6).dmFull 0 = false) ∧
    (w_294.tree.dm.token = some (2, 1) ∧ 1 < 16 ∧ 1 ≠ 0 ∧ w_294.dmSampled 1 = false ∧ w_294.dmDamaged 1 1 [5] false true true true = true) ∧
    (w_295.tree.dm.token = some (2, 1) ∧ 1 < 16 ∧ 1 ≠ 0 ∧ w_295.dmSampled 1 = false ∧
      w_295.dmDamaged 1 ((sopBody 2 0 1)) ([5, packetCheck 0 1 (sopBody 2 0 1) [5]]) false false true false = false ∧ w_295.dmHalt 1 = false ∧
      ((sopBody 2 0 1)) % 1024 ≤ w_295.dmMax 1 ∧ ((sopBody 2 0 1)) / 2 ^ 12 ≠ w_295.dmPid 1) ∧
    (w_295.tree.dm.token = some (2, 1) ∧ 1 < 16 ∧ 1 ≠ 0 ∧ w_295.dmSampled 1 = false ∧
      w_295.dmDamaged 1 ((sopBody 1 0 1)) ([5, packetCheck 0 1 (sopBody 1 0 1) [5]]) false false true false = false ∧ w_295.dmHalt 1 = false ∧
      ((sopBody 1 0 1)) % 1024 ≤ w_295.dmMax 1 ∧ ((sopBody 1 0 1)) / 2 ^ 12 = w_295.dmPid 1 ∧ (((sopBody 1 0 1)) / 2 ^ 10) % 4 ≠ 3 ∧
      w_295.dmFull 1 = false ∧ (w_295.dmWords (([5, packetCheck 0 1 (sopBody 1 0 1) [5]]).length + 1 + b2n true) (b2n false)).dmFull 1 = false ∧
      (w_295.dmWords (([5, packetCheck 0 1 (sopBody 1 0 1) [5]]).length + 1 + b2n true) (b2n false)).dmTog 1 ≤ 1) ∧
    (w_296.tree.dm.on = true ∧ w_296.tree.dm.await = some 1 ∧ 1 ≠ 0 ∧ 1 < 16 ∧ (w_296.dmWords 1).dmFull 1 = true ∧
      (w_296.dmWords 1).dmTog 1 ≤ 1) ∧
    ((1 ≠ 0 ∨ 1 ≠ live.dmAddr)) ∧
    (w_297.tree.dm.on = true ∧ w_297.tree.dm.port < 8) ∧
    (live.reach .h0 .manager = .ok ∧ 1 < 16 ∧ writable (Reg.TRE_DM_EP_STAT 1) 0x80000000 = true ∧ bitAt 0x80000000 31 = true) ∧
    (w_298.reach .h0 .manager = .ok ∧ writable Reg.TRE_DM_CTRL 4 = true ∧ bitAt 4 2 = true ∧ w_298.tree.dm.on = true ∧
      w_298.linkState w_298.tree.dm.port = 10 ∧ w_298.on Fd.TRE_DM_STATUS_REMOTE_WAKE_EN = true) := by
  refine ⟨?_, ?_, ?_, ?_, ?_, ?_, ?_, ?_, ?_, ?_, ?_, ?_, ?_, ?_, ?_, ?_, ?_, ?_, ?_, ?_, ?_, ?_, ?_⟩ <;> decide

def w_299 : State :=
  let s := live
  let s := s.putInst 1 { s.instOf 1 with exist := true, port := .h0, allot := 64, table := 0x1000 }
  { s with rings := { s.rings with doors := [] } }
def v_300 : Entry := { default_Entry with kind := 1, log2 := 6 }
def w_301 : State :=
  let s := live
  let s := s.putInst 1 { s.instOf 1 with exist := true, port := .h0, allot := 64, table := 0x1000 }
  let s := { s with rings := { s.rings with doors := [] } }
  s.putEntry 1 20 (some v_300)
def w_302 : State :=
  let s := live
  let s := s.putInst 1 { s.instOf 1 with exist := true, port := .h0, allot := 64, table := 0x1000 }
  let s := s.putEntry 1 20 (some { default_Entry with kind := 1, live := true, log2 := 6, cring := 1, sea := 17 })
  { s with rings := { s.rings with doors := [] } }
def w_303 : State :=
  let s := live
  let s := s.putInst 1 { s.instOf 1 with exist := true, port := .h0, allot := 64, table := 0x1000 }
  let s := { s with rings := { s.rings with crOpen := [(1, 1)] } }
  let s := { s with rings := { s.rings with doors := [] } }
  s.putEntry 1 1 (some default_Entry)

/-- The hypotheses of the clauses of EntryDoorbells are met. -/
theorem witness_EntryDoorbells :
    (w_299.reach .h0 (.page 1) = .ok ∧ 1 < 64 ∧ 1 < 16384 ∧ 1 < 65536 ∧ w_299.rings.doors = [] ∧ w_299.tableBusy 1 = false ∧
      w_299.doorReason { inst := 1, op := 0, entry := 1, value := 1 } = 1 + 1) ∧
    (w_299.reach .h0 (.page 1) = .ok ∧ 1 < 64 ∧ 1 < 16384 ∧ 1 < 65536 ∧ w_299.rings.doors = [] ∧ w_299.tableBusy 1 = false ∧
      w_299.doorReason { inst := 1, op := 1, entry := 1, value := 1 } = 1 + 1) ∧
    (w_299.reach .h0 (.page 1) = .ok ∧ 1 < 64 ∧ 1 < 16384 ∧ 1 < 65536 ∧ w_299.rings.doors = [] ∧ w_299.tableBusy 1 = false ∧
      w_299.doorReason { inst := 1, op := 2, entry := 1, value := 1 } = 1 + 1) ∧
    (w_299.reach .h0 (.page 1) = .ok ∧ 1 < 64 ∧ 1 < 16384 ∧ 1 < 65536 ∧ w_299.rings.doors = [] ∧ w_299.tableBusy 1 = false ∧
      w_299.doorReason { inst := 1, op := 3, entry := 1, value := 1 } = 2 + 1) ∧
    (w_299.reach .h0 (.page 1) = .ok ∧ 1 < 64 ∧ 1 < 16384 ∧ 1 < 65536 ∧ w_299.rings.doors = [] ∧ w_299.tableBusy 1 = false ∧ 1 < 256 ∧ 1 < 4) ∧
    (w_299.reach .h0 (.page 1) = .ok ∧ 1 < 64 ∧ 9999 < 16384 ∧ 1 < 65536 ∧ w_299.rings.doors = [] ∧ w_299.tableBusy 1 = false ∧
      w_299.entryCount 1 ≤ 9999) ∧
    (w_301.reach .h0 (.page 1) = .ok ∧ 1 < 64 ∧ 20 < 16384 ∧ 1 < 65536 ∧ w_301.rings.doors = [] ∧ w_301.tableBusy 1 = false ∧
      w_301.doorReason { inst := 1, op := 0, entry := 20, value := 1 } = 0 ∧ w_301.entry 1 20 = some v_300) ∧
    (w_299.reach .h0 (.page 1) = .ok ∧ 1 < 64 ∧ 20 < 16384 ∧ 0 < 65536 ∧ w_299.rings.doors = [] ∧ w_299.tableBusy 1 = false ∧
      w_299.doorReason { inst := 1, op := 1, entry := 20, value := 0 } = 0 ∧ w_299.isoKind 1 (pasidOf (w_299.instOf 1).tablePasid) = 0) ∧
    (w_302.reach .h0 (.page 1) = .ok ∧ 1 < 64 ∧ 20 < 16384 ∧ 0 < 65536 ∧ w_302.rings.doors = [] ∧ w_302.tableBusy 1 = false ∧
      w_302.doorReason { inst := 1, op := 2, entry := 20, value := 0 } = 0 ∧ 16 ≤ 20) ∧
    (w_303.reach .h0 (.page 1) = .ok ∧ 1 < 64 ∧ 1 < 16384 ∧ 0 < 65536 ∧ w_303.rings.doors = [] ∧ w_303.tableBusy 1 = false ∧
      w_303.doorReason { inst := 1, op := 2, entry := 1, value := 0 } = 0 ∧ 1 < 16 ∧ w_303.entry 1 1 = some default_Entry) ∧
    (w_303.reach .h0 (.page 1) = .ok ∧ 1 < 64 ∧ 1 < 16384 ∧ 0 < 65536 ∧ w_303.rings.doors = [] ∧ w_303.tableBusy 1 = false ∧
      w_303.doorReason { inst := 1, op := 3, entry := 1, value := 0 } = 0 ∧ w_303.entry 1 1 = some default_Entry) := by
  refine ⟨?_, ?_, ?_, ?_, ?_, ?_, ?_, ?_, ?_, ?_, ?_⟩ <;> decide

def v_304 : HostRead := { default_HostRead with use := .table, dead := false, tag := 1, key := 20, inst := 1 }
def w_305 : State :=
  let s := live
  let s := s.putInst 1 { s.instOf 1 with exist := true, port := .h0, allot := 64, table := 0x1000 }
  let s := { s with rings := { s.rings with crOpen := [(1, 1)] } }
  let s := s.putEntry 1 1 (some { default_Entry with kind := 0, live := true, log2 := 6 })
  let s := s.putDev 1 (some { default_Device with link := { port := 1, hport := 0, hub := 0 }, tier := 1, owner := 1, eps := [{ default_EpDesc with num := 1, dirIn := false, typ := 0, words := 64 }] })
  let s := s.putCtxEnt 17 (some { default_CtxEnt with st := .clean, ctx := { default_Ctx with valid := true, state := 2, inst := 1, maxWords := 64, k := 1 } })
  let s := { s with host := { s.host with reads := [v_304] } }
  { s with rings := { s.rings with doors := [] } }
def w_306 : State :=
  let s := live
  let s := s.putInst 1 { s.instOf 1 with exist := true, port := .h0, allot := 64, table := 0x1000 }
  let s := { s with rings := { s.rings with crOpen := [(1, 1)] } }
  let s := s.putEntry 1 1 (some { default_Entry with kind := 0, live := true, log2 := 6 })
  let s := s.putCtxEnt 17 (some { default_CtxEnt with st := .clean, ctx := { default_Ctx with valid := true, state := 2, inst := 1, maxWords := 64, k := 1 } })
  let s := { s with host := { s.host with reads := [v_304] } }
  { s with rings := { s.rings with doors := [] } }
def v_307 : Entry := { default_Entry with kind := 1, live := true, desc := none, fetch := false, log2 := 6, enq := 1, cring := 1, sea := 17, ringPrev := 1 }
def v_308 : Entry := { default_Entry with live := true, log2 := 6 }
def w_309 : State :=
  let s := live
  let s := s.putCtxEnt 17 (some { default_CtxEnt with st := .clean, ctx := { default_Ctx with valid := true, state := 2, inst := 1, maxWords := 64, k := 1 } })
  let s := s.putEntry 1 20 (some v_307)
  s.putEntry 1 v_307.cring (some v_308)
def v_310 : Entry := { default_Entry with desc := some ({ default_Desc with bytes := List.replicate 28 0 ++ [1, 0, 0, 0], started := some 0 }) }
def v_311 : Desc := { default_Desc with bytes := List.replicate 28 0 ++ [1, 0, 0, 0], started := some 0 }
def w_312 : State :=
  let s := live
  let s := { s with time := { s.time with frameNo := 1 } }
  s.putEntry 1 1 (some v_310)
def v_313 : Entry := { default_Entry with desc := some ({ default_Desc with bytes := List.replicate 32 0 }) }
def v_314 : Desc := { default_Desc with bytes := List.replicate 32 0 }
def w_315 : State := live.putEntry 1 1 (some v_313)
def v_316 : HostRead := { default_HostRead with use := .desc, dead := false, tag := 1 }
def v_317 : Entry := { default_Entry with fetch := true, closing := none }
def w_318 : State :=
  let s := live
  let s := { s with host := { s.host with reads := [v_316] } }
  s.putEntry v_316.inst v_316.key (some v_317)

/-- The hypotheses of the clauses of RingsAndRecords (part OpenAndDescriptors) are met. -/
theorem witness_OpenAndDescriptors :
    (w_305.findRead 1 = some v_304 ∧ v_304.use = .table ∧ v_304.dead = false ∧ w_305.rings.doors = [] ∧ 16 ≤ v_304.key ∧ v_304.key < 16384 ∧
      w_305.crOpened v_304.inst (entryOf ((leBytes 4 (2^30 + 2^24 + 17) ++ leBytes 4 (4 * 2^12) ++ zeros 24)) (w_305.instOf v_304.inst).gen).cring = true ∧
      w_305.openDetail v_304.inst v_304.key (entryOf ((leBytes 4 (2^30 + 2^24 + 17) ++ leBytes 4 (4 * 2^12) ++ zeros 24)) (w_305.instOf v_304.inst).gen) = 0) ∧
    (w_306.findRead 1 = some v_304 ∧ v_304.use = .table ∧ v_304.dead = false ∧ w_306.rings.doors = [] ∧ 16 ≤ v_304.key ∧ v_304.key < 16384 ∧
      w_306.crOpened v_304.inst (entryOf ((leBytes 4 (2^30 + 2^24 + 17) ++ leBytes 4 (4 * 2^12) ++ zeros 24)) (w_306.instOf v_304.inst).gen).cring = true ∧
      w_306.openDetail v_304.inst v_304.key (entryOf ((leBytes 4 (2^30 + 2^24 + 17) ++ leBytes 4 (4 * 2^12) ++ zeros 24)) (w_306.instOf v_304.inst).gen) = 1 + 1 ∧
      1 < 255) ∧
    (live.findRead 1 = none) ∧
    (w_309.entry 1 20 = some v_307 ∧ w_309.entry 1 v_307.cring = some v_308 ∧ v_307.cring ≠ 20 ∧ v_307.cring < 16 ∧ 20 < 16384 ∧ v_307.kind = 1 ∧
      v_307.live = true ∧ v_307.desc = none ∧ v_307.fetch = false ∧ w_309.pfiStops = false ∧ v_307.deq ≠ v_307.eligible w_309.frame ∧
      v_308.live = true ∧ 0 < v_308.room ∧ (w_309.ctx (seaKey v_307.sea)).map (·.state) = some 2 ∧ w_309.isoKind 1 (pasidOf v_307.pasid) = 0) ∧
    (w_312.entry 1 1 = some v_310 ∧ v_310.desc = some v_311 ∧ v_311.started = some 0 ∧ v_311.timeout ≠ 0 ∧
      v_311.timeout ≤ since32 w_312.frame 0 ∧ w_312.entryBusy 1 1 = false) ∧
    (w_315.entry 1 1 = some v_313 ∧ v_313.desc = some v_314 ∧ v_314.timeout = 0) ∧
    (w_318.findRead 1 = some v_316 ∧ v_316.use = .desc ∧ v_316.dead = false ∧ w_318.entry v_316.inst v_316.key = some v_317 ∧
      v_317.fetch = true ∧ v_317.closing = none) := by
  refine ⟨?_, ?_, ?_, ?_, ?_, ?_, ?_⟩ <;> decide

def v_319 : CRec := { default_CRec with resv := false, inst := 1, cring := 1, entry := 20 }
def v_320 : Entry := { default_Entry with live := true, log2 := 6 }
def w_321 : State :=
  let s := live
  let s := s.put Fd.GLB_STATUS_H0_UP 1
  let s := { s with rings := { s.rings with recs := [v_319] } }
  s.putEntry v_319.inst v_319.cring (some v_320)
def v_322 : SlotW := { default_SlotW with result := 0, key := 17, inst := 1, entry := 1, words := [5] }
def v_323 : Entry := { default_Entry with kind := 2, wrote := false }
def v_324 : Ctx := { default_Ctx with valid := true, inst := 1, entry := 1, maxWords := 64 }
def w_325 : State :=
  let s := live
  let s := s.put Fd.GLB_STATUS_H0_UP 1
  let s := { s with time := { s.time with frameNo := 1 } }
  let s := { s with xfer := { s.xfer with slots := [{ default_SlotW with key := 17, inst := 1, entry := 1, words := [5] }] } }
  let s := s.putEntry v_322.inst v_322.entry (some v_323)
  s.putCtxEnt v_322.key (some { (s.ctxEnt v_322.key).getD default_CtxEnt with ctx := v_324, st := .clean })
def v_326 : SlotW := { default_SlotW with key := 17, inst := 1, entry := 1 }
def v_327 : Entry := { default_Entry with kind := 2, wrote := true }
def v_328 : Ctx := { default_Ctx with valid := true, inst := 1, entry := 1, maxWords := 64, newest := 2 }
def w_329 : State :=
  let s := live
  let s := s.put Fd.GLB_STATUS_H0_UP 1
  let s := { s with time := { s.time with frameNo := 1 } }
  let s := { s with xfer := { s.xfer with slots := [{ default_SlotW with key := 17, inst := 1, entry := 1 }] } }
  let s := s.putEntry v_326.inst v_326.entry (some v_327)
  s.putCtxEnt v_326.key (some { (s.ctxEnt v_326.key).getD default_CtxEnt with ctx := v_328, st := .clean })
def v_330 : Ctx := { default_Ctx with valid := true, inst := 1, entry := 20, maxWords := 64 }
def v_331 : Entry := { default_Entry with kind := 2, live := true, log2 := 6 }
def w_332 : State :=
  let s := live
  let s := s.put Fd.GLB_STATUS_H0_UP 1
  let s := s.putDev 1 (some { default_Device with link := { port := 1, hport := 0, hub := 0 }, tier := 1, owner := 1, eps := [{ default_EpDesc with num := 1, dirIn := false, typ := 0, words := 64 }] })
  let s := { s with alloc := { s.alloc with grants := [{ default_Grant with key := 17 , system := true }] } }
  let s := s.putCtxEnt 17 (some { (s.ctxEnt 17).getD default_CtxEnt with ctx := v_330, st := .clean })
  s.putEntry 1 20 (some v_331)
def v_333 : HostRead := { default_HostRead with use := .slot, dead := false, tag := 1, key := 17, inst := 1, frame := 2 }
def v_334 : OutSvc := { default_OutSvc with key := 17, inst := 1, entry := 1, frame := 2 }
def w_335 : State :=
  let s := live
  let s := { s with host := { s.host with reads := [v_333] } }
  let s := s.putCtxEnt v_333.key (some { (s.ctxEnt v_333.key).getD default_CtxEnt with ctx := v_324, st := .clean })
  let s := s.putEntry v_334.inst v_334.entry (some default_Entry)
  { s with xfer := { s.xfer with outs := [{ default_OutSvc with key := 17, inst := 1, entry := 1, frame := 2 }] } }
def v_336 : OutRes := { default_OutRes with key := 17, inst := 1, entry := 1 }
def w_337 : State :=
  let s := live
  let s := s.put Fd.GLB_STATUS_H0_UP 1
  let s := { s with xfer := { s.xfer with results := v_336 :: (([] : List OutRes)) } }
  let s := s.putEntry v_336.inst v_336.entry (some default_Entry)
  s.putCtxEnt v_336.key (some { (s.ctxEnt v_336.key).getD default_CtxEnt with ctx := v_324, st := .clean })

/-- The hypotheses of the clauses of RingsAndRecords (part RecordsAndSlots) are met. -/
theorem witness_RecordsAndSlots :
    (w_321.nextRec w_321.rings.recs [] = some v_319 ∧ v_319.gen = (w_321.instOf v_319.inst).gen ∧ v_319.resv = false ∧
      w_321.entry v_319.inst v_319.cring = some v_320 ∧ w_321.isoKind v_319.inst (pasidOf v_320.pasid) = 0 ∧
      w_321.portUp (w_321.instOf v_319.inst).port = true) ∧
    ((w_325.xfer.slots.find? fun y => since32 w_325.frame y.bank == 1) = some v_322 ∧ w_325.mayDrain (w_325.instOf v_322.inst).port = true ∧
      v_322.gen = (w_325.instOf v_322.inst).gen ∧ w_325.entry v_322.inst v_322.entry = some v_323 ∧ w_325.ctx v_322.key = some v_324 ∧
      v_323.kind = 2 ∧ v_323.wrote = false ∧ w_325.isoKind v_322.inst (pasidOf v_323.pasid) = 0 ∧
      w_325.portUp (w_325.instOf v_322.inst).port = true ∧ v_322.result = 0 ∧ v_322.words ≠ []) ∧
    ((w_329.xfer.slots.find? fun y => since32 w_329.frame y.bank == 1) = some v_326 ∧ w_329.mayDrain (w_329.instOf v_326.inst).port = true ∧
      v_326.gen = (w_329.instOf v_326.inst).gen ∧ w_329.entry v_326.inst v_326.entry = some v_327 ∧ w_329.ctx v_326.key = some v_328 ∧
      v_327.kind = 2 ∧ v_327.wrote = true ∧ v_327.size ≤ belowNewest v_328.newest (svcIndex v_326.sframe v_328.k) v_328.k) ∧
    (w_332.boundEntry 17 = some (1, 20) ∧ w_332.ctx 17 = some v_330 ∧ w_332.entry 1 20 = some v_331 ∧ v_331.kind = 2 ∧ v_331.live = true ∧
      seaDir v_331.sea = false ∧ (w_332.alloc.grants.any fun g => g.key == 17 && w_332.serviceIn g ((w_332.frame + 1) % 2 ^ 32)) = true ∧
      w_332.omitted (17 / 16) = false ∧ (w_332.xfer.outs.any fun o => o.key == 17 && o.frame == ((w_332.frame + 1) % 2 ^ 32)) = false ∧
      w_332.mayDrain (w_332.instOf 1).port = true ∧ w_332.isoKind 1 (pasidOf v_331.pasid) = 0) ∧
    (w_335.findRead 1 = some v_333 ∧ v_333.use = .slot ∧ v_333.dead = false ∧
      (w_335.xfer.outs.find? fun o_b => o_b.key == v_333.key && o_b.frame == v_333.frame) = some v_334 ∧ w_335.ctx v_333.key = some v_324 ∧
      w_335.entry v_334.inst v_334.entry = some default_Entry ∧ w_335.isoKind v_334.inst (pasidOf default_Entry.pasid) = 0) ∧
    (w_337.xfer.results = v_336 :: ([] : List OutRes) ∧ w_337.mayDrain (w_337.instOf v_336.inst).port = true ∧
      v_336.gen = (w_337.instOf v_336.inst).gen ∧ w_337.entry v_336.inst v_336.entry = some default_Entry ∧ w_337.ctx v_336.key = some v_324 ∧
      w_337.isoKind v_336.inst (pasidOf default_Entry.pasid) = 0 ∧ w_337.portUp (w_337.instOf v_336.inst).port = true) := by
  refine ⟨?_, ?_, ?_, ?_, ?_, ?_⟩ <;> decide

def v_338 : Ask := { default_Ask with addr := 1, typ := 1, dirIn := true, k := 1, words := 1, owner := 1 }
def v_339 : MapRef := (MapRef.mk 1 true 1)
def w_340 : State := live.putDev 1 (some { default_Device with link := { port := 1, hport := 0, hub := 0 }, tier := 1, owner := 1, eps := [{ num := 1, dirIn := true, typ := 1, words := 8, minK := 0, hist := 0, fmt := 0 }] })
def v_341 : Device := { default_Device with link := { port := 1, hport := 0, hub := 0 }, tier := 1, owner := 1 }
def w_342 : State := live.putDev 1 (some v_341)
def v_343 : Device := { default_Device with link := { port := 1, hport := 1, hub := 3 }, tier := 3, owner := 1 }
def v_344 : Device := { default_Device with link := { port := 1, hport := 0, hub := 0 }, tier := 2, owner := 1, isHub := true }
def w_345 : State :=
  let s := live
  let s := s.putDev 2 (some v_343)
  s.putDev 3 (some v_344)
def v_346 : Device := { default_Device with isHub := false, link := { port := 1, hport := 0, hub := 0 }, tier := 3, owner := 1 }
def w_347 : State := live.putDev 1 (some v_346)

/-- The hypotheses of the clauses of ServiceCosts are met. -/
theorem witness_ServiceCosts :
    (v_339 ∈ w_340.linkMaps v_338.addr) ∧
    (w_342.dev 1 = some v_341) ∧
    (w_345.dev 2 = some v_343 ∧ 3 ∈ w_345.pathOf v_343.link ∧ w_345.dev 3 = some v_344 ∧ 2 ≤ v_344.tier) ∧
    (w_347.dev 1 = some v_346 ∧ v_346.isHub = false ∧ 2 ≤ v_346.tier) := by
  refine ⟨?_, ?_, ?_, ?_⟩ <;> decide

def v_348 : Ask := { default_Ask with addr := 1, typ := 1, dirIn := true, k := 1, words := 1, owner := 1 }
def w_349 : State :=
  let s := live
  let s := s.putDev 1 (some { default_Device with link := { port := 1, hport := 0, hub := 0 }, tier := 1, owner := 1, eps := [{ num := 1, dirIn := true, typ := 1, words := 8, minK := 0, hist := 0, fmt := 0 }] })
  let s := s.putInst 1 { s.instOf 1 with exist := true, share := 100000 }
  s.put Fd.SCH_CTRL_ALLOC_EN 1
def w_350 : State :=
  let s := live
  let s := s.putDev 1 (some { default_Device with link := { port := 1, hport := 0, hub := 0 }, tier := 1, owner := 1, eps := [{ num := 1, dirIn := true, typ := 1, words := 8, minK := 0, hist := 0, fmt := 0 }] })
  let s := s.putInst 1 { s.instOf 1 with exist := true, share := 100000 }
  let s := s.put Fd.SCH_CTRL_ALLOC_EN 1
  s.put Fd.SCH_POLICY1_CTX_PER_FRAME 0
def w_351 : State :=
  let s := live
  let s := s.putDev 1 (some { default_Device with link := { port := 1, hport := 0, hub := 0 }, tier := 1, owner := 1, eps := [{ num := 1, dirIn := true, typ := 1, words := 8, minK := 0, hist := 0, fmt := 0 }] })
  let s := s.putInst 1 { s.instOf 1 with exist := true, share := 100000 }
  let s := s.put Fd.SCH_CTRL_ALLOC_EN 1
  s.putCtxEnt 17 (some { default_CtxEnt with st := .clean, ctx := { default_Ctx with valid := true, state := 2, inst := 1, maxWords := 64, k := 1 } })

/-- The hypotheses of the clauses of PlacementsFit are met. -/
theorem witness_PlacementsFit :
    (w_349.bestPhase v_348 = some 0) ∧
    (w_349.bestPhase v_348 = some 0 ∧ 1 < 2 ^ min v_348.k 6 ∧ w_349.fitsAt v_348 1 = true) ∧
    (w_349.bestPhase v_348 = some 0 ∧ bufMap ∈ w_349.linkMaps v_348.addr ++ [bufMap, ctxMap] ∧ 2 < 64 ∧ chargesAt v_348.k 0 2 = true) ∧
    (w_350.bestPhase v_348 = none ∧ w_350.shareHolds v_348 = true ∧ 1 < 2 ^ min v_348.k 6) ∧
    ((w_351.judgeGrant ((2 ^ 23 + 17)) 1 1 1 false false ([] : List Grant)).result = 0) := by
  refine ⟨?_, ?_, ?_, ?_, ?_⟩ <;> decide

def w_352 : State := live.put Fd.SCH_ALLOC_RESP_BUSY 1
def w_353 : State :=
  let s := live
  let s := s.put Fd.SCH_ALLOC_RESP_BUSY 0
  s.put Fd.PAR_CTRL_MODE (b2n false * 2)
def v_354 : AllocReq := { default_AllocReq with op := 1, result := 0, refusal := 0, bwhat := 0, blink := 0, bport := 0, baddr := 0, sea := 2 ^ 23 + 17 }
def w_355 : State :=
  let s := live
  let s := s.putDev 1 (some { default_Device with link := { port := 1, hport := 0, hub := 0 }, tier := 1, owner := 1 })
  let s := s.putCtxEnt 17 (some { default_CtxEnt with st := .clean })
  let s := { s with alloc := { s.alloc with req := some v_354 } }
  s.put Fd.PAR_CTRL_MODE (b2n false * 2)
def v_356 : AllocReq := { default_AllocReq with op := 2, result := 3, old := 5 }
def v_357 : Grant := { default_Grant with handle := 5 }
def w_358 : State :=
  let s := live
  let s := { s with alloc := { s.alloc with grants := [{ default_Grant with handle := 5 }] } }
  let s := { s with alloc := { s.alloc with req := some v_356 } }
  s.put Fd.PAR_CTRL_MODE (b2n false * 2)
def v_359 : Grant := { default_Grant with leave := some 0 }
def w_360 : State := { live with alloc := { live.alloc with grants := [{ default_Grant with leave := some 0 }] } }
def w_361 : State :=
  let s := live
  let s := s.put Fd.PAR_CTRL_MODE 2
  let s := s.put Fd.PAR_CTRL_COUNT 4
  s.put Fd.PAR_LINK1_STATE 2
def v_362 : Device := { default_Device with covered := true, link := { port := 1, hport := 0, hub := 0 }, tier := 1, owner := 1, eps := [{ num := 1, dirIn := true, typ := 1, words := 8, minK := 0, hist := 0, fmt := 0 }] }
def v_363 : EpDesc := { default_EpDesc with num := 1, dirIn := true, typ := 1, words := 8 }
def w_364 : State :=
  let s := live
  let s := s.put Fd.PAR_CTRL_MODE 2
  let s := s.put Fd.PAR_CTRL_COUNT 4
  let s := s.put Fd.PAR_LINK1_STATE 2
  let s := s.putInst 1 { s.instOf 1 with exist := true, share := 100000 }
  let s := s.put Fd.SCH_CTRL_ALLOC_EN 1
  s.putDev (17 / 16) (some v_362)

/-- The hypotheses of the clauses of HandlesAndPolicy (part HandleRequests) are met. -/
theorem witness_HandleRequests :
    (w_352.reach .h0 .manager = .ok ∧ w_352.on Fd.SCH_ALLOC_RESP_BUSY = true) ∧
    (w_353.reach .h0 .manager = .ok ∧ w_353.on Fd.SCH_ALLOC_RESP_BUSY = false ∧ w_353.paired = false) ∧
    (w_355.alloc.req = some v_354 ∧ w_355.paired = false ∧ v_354.op = 1 ∧ v_354.result = 0 ∧ v_354.k ≤ 6 ∧ v_354.refusal = 0 ∧ v_354.bwhat = 0 ∧
      v_354.blink = 0 ∧ v_354.bport = 0 ∧ v_354.baddr = 0 ∧ v_354.sea < 2 ^ 24 ∧ (w_355.dev (seaAddr v_354.sea)).isSome = true ∧
      (w_355.ctxEnt (seaKey v_354.sea)).isSome = true) ∧
    (w_358.alloc.req = some v_356 ∧ w_358.paired = false ∧ v_356.op = 2 ∧ v_356.result = 3 ∧ v_357 ∈ w_358.alloc.grants ∧
      v_357.handle = v_356.old) ∧
    (v_359 ∈ w_360.alloc.grants ∧ v_359.leave = some 0 ∧ since32 w_360.frame 0 < 2 ^ 31) ∧
    (live.partnerLinked = false) ∧
    (w_361.partnerLinked = true ∧ ((w_361.dev (1 / 16)).map (·.covered)).getD false = false) ∧
    (w_364.partnerLinked = true ∧ w_364.dev (17 / 16) = some v_362 ∧ v_362.covered = true ∧ w_364.epDesc (17 / 16) (17 % 16) = some v_363 ∧
      (w_364.admitAsk { AllocReq.empty 1 (seaOf v_363.dirIn w_364.ctrlNo (17 / 16) v_363.num) with k := 1 } (askOf v_362 v_363 (17 / 16) 1 1 false (w_364.alloc.grants ++ w_364.pair.intents)) v_363.words 0 false).result = 0) := by
  refine ⟨?_, ?_, ?_, ?_, ?_, ?_, ?_, ?_⟩ <;> decide

def v_365 : Cmd := cmdOf 0x0200 []
def w_366 : State := withCmd live v_365
def v_367 : Cmd := cmdOf 0x0200 [80, 1, 64, 0, 12, 0, 64, 0, 100, 0, 0, 4]
def w_368 : State :=
  let s := live
  let s := s.putDev 1 (some { default_Device with link := { port := 1, hport := 0, hub := 0 }, tier := 1, owner := 1, eps := [{ num := 1, dirIn := true, typ := 1, words := 8, minK := 0, hist := 0, fmt := 0 }] })
  let s := s.putInst 1 { s.instOf 1 with exist := true, share := 100000 }
  let s := s.put Fd.SCH_CTRL_ALLOC_EN 1
  let s := { s with alloc := { s.alloc with grants := [{ default_Grant with key := 17, words := 2000000 }] } }
  withCmd s v_367
def w_369 : State := withCmd live v_367
def v_370 : Cmd := cmdOf 0x0201 []
def w_371 : State := withCmd live v_370
def v_372 : Cmd := cmdOf 0x0202 []
def w_373 : State := withCmd live v_372
def v_374 : CtxEnt := { default_CtxEnt with st := .clean }
def v_375 : Cmd := cmdOf 0x0202 [1, 0, 2, 0]
def w_376 : State :=
  let s := live
  let s := s.putDev 1 (some { default_Device with link := { port := 1, hport := 0, hub := 0 }, tier := 1, owner := 1, eps := [{ num := 1, dirIn := true, typ := 1, words := 8, minK := 0, hist := 0, fmt := 0 }] })
  let s := withCmd s v_375
  s.putCtxEnt 17 (some v_374)
def v_377 : Cmd := cmdOf 0x0203 [1, 0, 2, 0]
def w_378 : State :=
  let s := live
  let s := s.putDev 1 (some { default_Device with link := { port := 1, hport := 0, hub := 0 }, tier := 1, owner := 1, eps := [{ num := 1, dirIn := true, typ := 1, words := 8, minK := 0, hist := 0, fmt := 0 }] })
  let s := withCmd s v_377
  s.putCtxEnt 17 (some v_374)
def v_379 : Cmd := cmdOf 0x0204 [9]
def w_380 : State := withCmd live v_379
def v_381 : Cmd := cmdOf 0x0204 [0, 2]
def w_382 : State := withCmd live v_381

/-- The hypotheses of the clauses of HandlesAndPolicy (part PolicyCommands) are met. -/
theorem witness_PolicyCommands :
    (w_366.Ready 1 0x0200 v_365 ∧ w_366.badPolicy v_365.req = true) ∧
    (w_368.Ready 1 0x0200 v_367 ∧ w_368.badPolicy v_367.req = false ∧ w_368.policyOver v_367.req = true) ∧
    (w_369.Ready 1 0x0200 v_367 ∧ w_369.badPolicy v_367.req = false ∧ w_369.policyOver v_367.req = false ∧ w_369.explPins ≤ v_367.u 8 2) ∧
    (w_371.Ready 1 0x0201 v_370) ∧
    (w_373.Ready 1 0x0202 v_372 ∧ w_373.maskKeys (v_372.u 0 2) (v_372.u 2 2) = none) ∧
    (w_376.Ready 1 0x0202 v_375 ∧ w_376.maskKeys (v_375.u 0 2) (v_375.u 2 2) = some [17] ∧ w_376.ctxEnt 17 = some v_374 ∧
      w_376.pinnedCount < w_376.get Fd.SCH_POLICY1_PIN_LIMIT) ∧
    (w_378.Ready 1 0x0203 v_377 ∧ w_378.maskKeys (v_377.u 0 2) (v_377.u 2 2) = some [17] ∧ w_378.ctxEnt 17 = some v_374) ∧
    (w_380.Ready 1 0x0204 v_379 ∧ w_380.askedMap v_379 = none) ∧
    (w_382.Ready 1 0x0204 v_381 ∧ w_382.askedMap v_381 = some bufMap) := by
  refine ⟨?_, ?_, ?_, ?_, ?_, ?_, ?_, ?_, ?_⟩ <;> decide

def v_383 : CtxEnt := { default_CtxEnt with st := .free }
def w_384 : State :=
  let s := live
  let s := { s with pager := { s.pager with issue := [1] } }
  let s := s.putCtxEnt 1 (some v_383)
  let s := { s with pager := { s.pager with dirs := [] } }
  let s := { s with pager := { s.pager with dirWait := [] } }
  { s with host := { s.host with reads := [] } }
def w_385 : State := { live with pager := { live.pager with dirWait := [] } }
def w_386 : State := live.put Fd.SCH_POLICY0_PAGER_READS 0
def v_387 : HostRead := { default_HostRead with use := .page, dead := false, tag := 1 }
def v_388 : CtxEnt := { default_CtxEnt with st := .fetching, held := false, defer := 0 }
def w_389 : State :=
  let s := live
  let s := { s with host := { s.host with reads := [v_387] } }
  let s := s.putCtxEnt v_387.key (some v_388)
  { s with scree := { s.scree with injs := [] } }
def v_390 : CtxEnt := { default_CtxEnt with st := .fetching, fails := 1 }
def w_391 : State :=
  let s := live
  let s := { s with host := { s.host with reads := [v_387] } }
  s.putCtxEnt v_387.key (some v_390)
def v_392 : CtxEnt := { default_CtxEnt with st := .fetching, fails := 2 }
def w_393 : State :=
  let s := live
  let s := { s with host := { s.host with reads := [v_387] } }
  s.putCtxEnt v_387.key (some v_392)
def v_394 : CtxEnt := { default_CtxEnt with gone := false, st := .clean }
def w_395 : State :=
  let s := live
  let s := s.put Fd.GLB_STATUS_H0_UP 1
  let s := { s with time := { s.time with frameNo := 9 } }
  let s := { s with pager := { s.pager with wbRetry := [(1, 1)] } }
  s.putCtxEnt 1 (some v_394)
def v_396 : CtxEnt := { default_CtxEnt with st := .clean }
def w_397 : State :=
  let s := live
  let s := s.put Fd.GLB_STATUS_H0_UP 1
  let s := { s with time := { s.time with frameNo := 9 } }
  let s := { s with pager := { s.pager with wbRetry := [(1, 1)] } }
  s.putCtxEnt 1 (some v_396)
def v_398 : HostRead := { default_HostRead with use := .directory, dead := false, tag := 1, key := 0 }
def v_399 : CtxEnt := { default_CtxEnt with st := .fetching }
def w_400 : State :=
  let s := live
  let s := { s with pager := { s.pager with dirWait := [5] } }
  let s := { s with host := { s.host with reads := [v_398] } }
  let s := s.putCtxEnt 5 (some v_399)
  { s with tree := { s.tree with enums := [] } }

/-- The hypotheses of the clauses of ContextPager are met. -/
theorem witness_ContextPager :
    (w_384.pageQueue = 1 :: ([] : List Nat) ∧ w_384.pagerReads < w_384.get Fd.SCH_POLICY0_PAGER_READS ∧ w_384.cachedCount < 32768 ∧
      w_384.ctxEnt 1 = some v_383 ∧ v_383.st = .free ∧ w_384.pager.dirs = [] ∧ w_384.pager.dirWait = [] ∧ w_384.host.reads = []) ∧
    (w_385.pageQueue = [] ∧ w_385.pager.dirWait = []) ∧
    (w_386.get Fd.SCH_POLICY0_PAGER_READS ≤ w_386.pagerReads) ∧
    (w_389.findRead 1 = some v_387 ∧ v_387.use = .page ∧ v_387.dead = false ∧ w_389.ctxEnt v_387.key = some v_388 ∧ v_388.st = .fetching ∧
      (ctxOf ((let b := List.replicate 3 (0 : Byte) ++ [0x80] ++ zeros 56; b ++ leBytes 4 (crc32c b)))).valid = true ∧
      ctxGood ((let b := List.replicate 3 (0 : Byte) ++ [0x80] ++ zeros 56; b ++ leBytes 4 (crc32c b))) = true ∧ v_388.held = false ∧
      v_388.defer = 0 ∧ w_389.scree.injs = []) ∧
    (w_391.findRead 1 = some v_387 ∧ v_387.use = .page ∧ v_387.dead = false ∧ w_391.ctxEnt v_387.key = some v_390 ∧ v_390.st = .fetching ∧
      v_390.fails < 2) ∧
    (w_393.findRead 1 = some v_387 ∧ v_387.use = .page ∧ v_387.dead = false ∧ w_393.ctxEnt v_387.key = some v_392 ∧ v_392.st = .fetching ∧
      2 ≤ v_392.fails ∧ w_393.boundEntry v_387.key = none) ∧
    (w_395.pager.wbRetry = [(1, 1)] ∧ 1 ≠ w_395.frame ∧ w_395.ctxEnt 1 = some v_394 ∧ w_395.portUp w_395.boot.barPort = true ∧
      v_394.gone = false) ∧
    (w_397.pager.wbRetry = [(1, 1)] ∧ 1 ≠ w_397.frame ∧ w_397.ctxEnt 1 = some v_396) ∧
    (w_400.findRead 1 = some v_398 ∧ v_398.use = .directory ∧ v_398.dead = false ∧ (w_400.dropRead 1).dirWaiters v_398.key = [5] ∧
      0 < (w_400.dropRead 1).readsLeft ∧ w_400.ctxEnt 5 = some v_399 ∧ w_400.tree.enums = [] ∧ bitAt (leAt (([1] : List Byte)) 0 8) 0 = true) := by
  refine ⟨?_, ?_, ?_, ?_, ?_, ?_, ?_, ?_, ?_⟩ <;> decide

def w_401 : State := live.putCh 1 { live.ch 1 with prod := 1 }
def w_402 : State := live.put (Fd.DMA_CH_CTRL_EN 1) 0
def v_403 : DmaJob := { default_DmaJob with loaded := true, outcome := none }
def w_404 : State := live.putCh 1 { live.ch 1 with job := some v_403 }
def w_405 : State :=
  let s := live
  let s := s.putCh 1 { s.ch 1 with job := none }
  let s := s.putCh 1 { s.ch 1 with enq := s.dmaDeq 1 }
  s.putCh 1 { s.ch 1 with recs := [] }
def w_406 : State :=
  let s := live
  let s := s.put Fd.GLB_STATUS_H0_UP 1
  let s := s.putCh 1 { s.ch 1 with inst := some 1 }
  let s := s.put (Fd.DMA_CH_CTRL_EN 1) 1
  let s := s.put (Fd.DMA_CH_CTRL_STOP 1) 0
  let s := s.put Fd.DMA_CTRL_EN 1
  let s := { s with scree := { s.scree with bist := none } }
  let s := s.putCh 1 { s.ch 1 with job := none }
  s.putCh 1 { s.ch 1 with enq := 1 }
def v_407 : HostRead := { default_HostRead with use := .dmaSrc, dead := false, tag := 1, key := 1, inst := 1, frame := 5 }
def v_408 : DmaJob := { default_DmaJob with outcome := none, index := 5, loaded := true }
def w_409 : State :=
  let s := live
  let s := s.putInst 2 { s.instOf 2 with exist := true, port := .h1 }
  let s := { s with xfer := { s.xfer with results := [{ default_OutRes with inst := 1 }, { default_OutRes with inst := 2 }] } }
  let s := { s with host := { s.host with reads := [v_407] } }
  s.putCh v_407.key { s.ch v_407.key with job := some v_408 }
def v_410 : HostRead := { default_HostRead with use := .dmaSrc, dead := false, tag := 1, key := 1, inst := 1, frame := 5, off := 0 }
def v_411 : DmaJob := { default_DmaJob with outcome := none, got := [], index := 5, loaded := true, dir := 0, hi := 4, rhi := 0, rlo := 0, bytes := (zeros 16 ++ leBytes 4 4 ++ leBytes 4 (0 * 2 ^ 28) ++ zeros 8) }
def w_412 : State :=
  let s := live
  let s := s.put Fd.GLB_STATUS_H0_UP 1
  let s := s.putCh 1 { s.ch 1 with inst := some 1 }
  let s := { s with host := { s.host with reads := [v_410] } }
  let s := s.putCh v_410.key { s.ch v_410.key with job := some v_411 }
  let s := s.putCh v_410.key { s.ch v_410.key with inst := some v_410.inst }
  { s with host := { s.host with reads := [v_410] } }
def v_413 : DmaJob := { default_DmaJob with outcome := none, got := [], index := 5, loaded := true, dir := 0, hi := 4, rhi := 0, rlo := 0, bytes := (zeros 16 ++ leBytes 4 4 ++ leBytes 4 (2 * 2 ^ 28) ++ zeros 8) }
def w_414 : State :=
  let s := live
  let s := s.put Fd.GLB_STATUS_H0_UP 1
  let s := s.putCh 1 { s.ch 1 with inst := some 1 }
  let s := { s with host := { s.host with reads := [v_410] } }
  let s := s.putCh v_410.key { s.ch v_410.key with job := some v_413 }
  let s := s.putCh v_410.key { s.ch v_410.key with inst := some v_410.inst }
  { s with host := { s.host with reads := [v_410] } }
def v_415 : DmaJob := { default_DmaJob with outcome := some (1, 1) }
def w_416 : State :=
  let s := live
  let s := s.putCh 1 { s.ch 1 with inst := some 1 }
  s.putCh 1 { s.ch 1 with job := some v_415 }
def v_417 : DmaJob := { default_DmaJob with outcome := none, loaded := true, dir := 0, lo := 0, bytes := (zeros 16 ++ leBytes 4 8 ++ leBytes 4 (1 * 2 ^ 28) ++ zeros 8), hi := 8 }
def w_418 : State :=
  let s := live
  let s := s.put Fd.GLB_STATUS_H0_UP 1
  let s := s.putCh 1 { s.ch 1 with inst := some 1 }
  s.putCh 1 { s.ch 1 with job := some v_417 }
def v_419 : DmaRec := { default_DmaRec with inst := 1 }
def w_420 : State :=
  let s := live
  let s := s.put Fd.GLB_STATUS_H0_UP 1
  s.putCh 1 { s.ch 1 with recs := v_419 :: (([] : List DmaRec)) }

/-- The hypotheses of the clauses of DmaChannels are met. -/
theorem witness_DmaChannels :
    (live.reach .h0 .manager = .ok ∧ live.chVia .manager 1 = some 1 ∧ 1 < 32 ∧ 1 < 65536 ∧ since16 1 (live.dmaDeq 1) ≤ live.dmaSize 1) ∧
    (live.reach .h0 .manager = .ok ∧ live.chVia .manager 1 = some 1 ∧ 1 < 32 ∧ 50000 < 65536 ∧ live.dmaSize 1 < since16 50000 (live.dmaDeq 1)) ∧
    (w_401.reach .h0 .manager = .ok ∧ w_401.chVia .manager 1 = some 1 ∧ 1 < 32 ∧ 1 < 65536 ∧
      since16 1 (w_401.ch 1).cons ≤ since16 (w_401.ch 1).prod (w_401.ch 1).cons) ∧
    (live.reach .h0 .manager = .ok ∧ live.chVia .manager 1 = some 1 ∧ 1 < 32 ∧ 1 < 65536 ∧
      since16 (live.ch 1).prod (live.ch 1).cons < since16 1 (live.ch 1).cons) ∧
    (w_402.reach .h0 .manager = .ok ∧ w_402.chVia .manager 1 = some 1 ∧ 1 < 32 ∧ 1 < 65536 ∧ w_402.on (Fd.DMA_CH_CTRL_EN 1) = false) ∧
    (w_404.reach .h0 .manager = .ok ∧ w_404.chVia .manager 1 = some 1 ∧ 1 < 32 ∧ 1 < 65536 ∧ (w_404.ch 1).job = some v_403 ∧
      v_403.loaded = true ∧ v_403.outcome = none) ∧
    (w_405.reach .h0 .manager = .ok ∧ w_405.chVia .manager 1 = some 1 ∧ 1 < 32 ∧ 1 < 65536 ∧ (w_405.ch 1).job = none ∧
      (w_405.ch 1).enq = w_405.dmaDeq 1 ∧ (w_405.ch 1).recs = []) ∧
    (1 < 32 ∧ (w_406.ch 1).inst = some 1 ∧ w_406.on (Fd.DMA_CH_CTRL_EN 1) = true ∧ w_406.on (Fd.DMA_CH_CTRL_STOP 1) = false ∧
      w_406.on Fd.DMA_CTRL_EN = true ∧ w_406.scree.bist = none ∧ (w_406.ch 1).job = none ∧ (w_406.ch 1).enq ≠ w_406.dmaDeq 1 ∧
      since16 (w_406.ch 1).prod (w_406.ch 1).cons + (w_406.ch 1).resv < w_406.dmaCqSize 1 ∧ w_406.mayDma (w_406.instOf 1).port = true ∧
      w_406.isoKind 1 (w_406.dmaPasid 1) = 0 ∧ ((List.range 32).all fun m => (w_406.ch m).job.isNone) = true) ∧
    (w_409.findRead 1 = some v_407 ∧ v_407.use = .dmaSrc ∧ v_407.dead = false ∧ (w_409.ch v_407.key).job = some v_408 ∧ v_408.outcome = none ∧
      v_408.index = v_407.frame ∧ w_409.mayDma .h0 = false ∧ w_409.mayDma .h1 = false) ∧
    (w_412.findRead 1 = some v_410 ∧ v_410.use = .dmaSrc ∧ v_410.dead = false ∧ (w_412.ch v_410.key).job = some v_411 ∧ v_411.outcome = none ∧
      v_411.index = v_410.frame ∧ v_411.dir ≠ 1 ∧ v_411.loaded = true ∧ v_410.key < 32 ∧ (w_412.ch v_410.key).inst = some v_410.inst ∧
      ((List.range 32).all fun m => m == v_410.key || (w_412.ch m).job.isNone) = true ∧ w_412.host.reads = [v_410] ∧ v_411.got = [] ∧
      v_411.rlo = v_411.rhi ∧ v_410.off = v_411.lo ∧ w_412.mayDma (w_412.instOf v_410.inst).port = true ∧ v_411.op ≠ 1) ∧
    (w_412.findRead 1 = some v_410 ∧ v_410.use = .dmaSrc ∧ v_410.dead = false ∧ (w_412.ch v_410.key).job = some v_411 ∧ v_411.outcome = none ∧
      v_411.index = v_410.frame ∧ v_411.dir ≠ 1 ∧ v_411.loaded = true ∧ v_410.key < 32 ∧ (w_412.ch v_410.key).inst = some v_410.inst ∧
      ((List.range 32).all fun m => m == v_410.key || (w_412.ch m).job.isNone) = true ∧ w_412.host.reads = [v_410] ∧ v_411.got = [] ∧
      v_411.rlo = v_411.rhi ∧ v_410.off = v_411.lo ∧ w_412.mayDma (w_412.instOf v_410.inst).port = true ∧ v_411.op = 0 ∧
      w_412.isoKind v_410.inst v_411.dstPasid = 0 ∧ v_411.lo + v_411.block.2 = v_411.hi) ∧
    (w_414.findRead 1 = some v_410 ∧ v_410.use = .dmaSrc ∧ v_410.dead = false ∧ (w_414.ch v_410.key).job = some v_413 ∧ v_413.outcome = none ∧
      v_413.index = v_410.frame ∧ v_413.dir ≠ 1 ∧ v_413.loaded = true ∧ v_410.key < 32 ∧ (w_414.ch v_410.key).inst = some v_410.inst ∧
      ((List.range 32).all fun m => m == v_410.key || (w_414.ch m).job.isNone) = true ∧ w_414.host.reads = [v_410] ∧ v_413.got = [] ∧
      v_413.rlo = v_413.rhi ∧ v_410.off = v_413.lo ∧ w_414.mayDma (w_414.instOf v_410.inst).port = true ∧ v_413.op = 2 ∧
      v_413.lo + v_413.block.2 = v_413.hi) ∧
    (1 < 32 ∧ (w_416.ch 1).inst = some 1 ∧ (w_416.ch 1).job = some v_415 ∧ v_415.outcome = some (1, 1)) ∧
    (1 < 32 ∧ (w_418.ch 1).inst = some 1 ∧ (w_418.ch 1).job = some v_417 ∧ v_417.outcome = none ∧ v_417.loaded = true ∧ v_417.op = 1 ∧
      w_418.mayDma (w_418.instOf 1).port = true ∧ w_418.isoKind 1 v_417.dstPasid = 0 ∧ v_417.dir = 0 ∧ v_417.lo = 0 ∧ v_417.hi = v_417.len ∧
      0 < v_417.len ∧ v_417.dst % 128 + v_417.len ≤ 128 ∧ ((List.range 32).all fun m => m == 1 || (w_418.ch m).job.isNone) = true) ∧
    (1 < 32 ∧ (w_420.ch 1).recs = v_419 :: ([] : List DmaRec) ∧ w_420.mayRecord (w_420.instOf v_419.inst).port = true ∧
      v_419.gen = (w_420.instOf v_419.inst).gen ∧ w_420.isoKind v_419.inst (w_420.dmaPasid 1) = 0 ∧
      w_420.portUp (w_420.instOf v_419.inst).port = true) := by
  refine ⟨?_, ?_, ?_, ?_, ?_, ?_, ?_, ?_, ?_, ?_, ?_, ?_, ?_, ?_, ?_⟩ <;> decide

def v_421 : GNode := { default_GNode with op := 0x30, p := [0, 5] }

/-- The hypotheses of the clauses of ClusterArithmetic are met. -/
theorem witness_ClusterArithmetic :
    (-8388608 ≤ shiftEven ((0 : Int)) 1 ∧ shiftEven ((0 : Int)) 1 ≤ 8388607) ∧
    ((shiftEven 99999999999 1 < -8388608 ∨ 8388607 < shiftEven 99999999999 1)) ∧
    (2 * (3 - shiftEven 3 1 * 2 ^ 1).natAbs = 2 ^ 1) ∧
    (1 < max (([(1, true), (2, false)] : RVal)).length (([(1, true), (2, false)] : RVal)).length) ∧
    (1 < max (([(1, true), (2, false)] : RVal)).length (([(1, true), (2, false)] : RVal)).length ∧
      (((elemwise ([] : List Nat) default_GNode (([(1, true), (2, false)] : RVal)) (some (([(1, true), (2, false)] : RVal))) default_Sat).1).getD 1 (0, false)).2 = false) ∧
    (v_421.op ≠ 0x34 ∧ (validFrom 0 (([(1, true), (2, false)] : RVal))).length < v_421.minv) ∧
    (default_GNode.op ≠ 0x34 ∧ validFrom 0 (([(1, true), (2, false)] : RVal)) = validFrom 0 (([(1, true), (2, false)] : RVal))) := by
  refine ⟨?_, ?_, ?_, ?_, ?_, ?_, ?_⟩ <;> decide

def w_422 : State :=
  let s := live
  let s := { s with time := { s.time with frameNo := 9 } }
  { s with red := { s.red with live := [default_GRun] } }
def v_423 : GNode := { default_GNode with op := 1 }
def w_424 : State :=
  let s := live
  let s := { s with red := { s.red with active := some 0, bank0 := some ({ default_GBank with nodes := [{ default_GNode with op := 1 }, { default_GNode with op := 1 }] }), live := [default_GRun] } }
  { s with red := { s.red with clk := 0 } }
def w_425 : State :=
  let s := live
  let s := { s with red := { s.red with active := some 0, bank0 := some ({ default_GBank with nodes := [{ default_GNode with op := 2 }, { default_GNode with op := 2 }] }), live := [default_GRun] } }
  { s with red := { s.red.setCore 1 { s.red.core 1 with list := [default_GReady] } with enEff := 2 } }
def w_426 : State :=
  let s := live
  let s := { s with red := { s.red with active := some 0, bank0 := some ({ default_GBank with nodes := [{ default_GNode with op := 2 }, { default_GNode with op := 2 }] }), live := [default_GRun] } }
  { s with red := { s.red.setCore 2 { s.red.core 2 with list := [default_GReady, default_GReady], busy := some default_GBusy } with enEff := 7 } }
def v_427 : GNode := { default_GNode with op := 2 }
def w_428 : State :=
  let s := live
  let s := { s with red := { s.red with active := some 0, bank0 := some ({ default_GBank with nodes := [{ default_GNode with op := 2 }, { default_GNode with op := 2 }] }), live := [default_GRun] } }
  { s with red := s.red.setCore 1 { s.red.core 1 with busy := some default_GBusy } }
def v_429 : GSlot := { default_GSlot with result := 0, value := [(5, true)] }
def w_430 : State :=
  let s := live
  let s := s.put Fd.GLB_STATUS_H0_UP 1
  let s := s.putInst 0 { s.instOf 0 with exist := true }
  let s := { s with red := { s.red with slots := v_429 :: (([] : List GSlot)) } }
  s.putInst v_429.list.inst { s.instOf v_429.list.inst with exist := true }
def w_431 : State :=
  let s := live
  let s := s.put Fd.GLB_STATUS_H0_UP 1
  { s with red := { s.red with recs := default_GTraceRec :: (([] : List GTraceRec)) } }
def w_432 : State :=
  let s := live
  let s := { s with time := { s.time with frameNo := 9 } }
  let s := { s with red := { s.red with bank0 := some default_GBank } }
  { s with red := { s.red with swap := some (1, 1) } }

/-- The hypotheses of the clauses of ClusterRunsAndGraphs (part ClusterRuns) are met. -/
theorem witness_ClusterRuns :
    (w_422.red.live = [default_GRun] ∧ 3 ≤ since32 w_422.redNext.1 default_GRun.n ∧ since32 w_422.redNext.1 default_GRun.n < 2 ^ 31) ∧
    (w_424.red.nextGather = some (default_GRun, 0, v_423) ∧ w_424.cluOn = true ∧ w_424.red.run default_GRun.n = some default_GRun ∧
      w_424.isBad default_GRun.bank 0 = false ∧ v_423.op = 1 ∧ 1 < w_424.red.left default_GRun) ∧
    (1 < 16 ∧ w_425.cluOn = true ∧ bitAt w_425.red.enEff 1 = true ∧ (w_425.red.core 1).busy = none ∧ w_425.red.source 1 = some 1 ∧
      (w_425.red.core 1).list = default_GReady :: ([] : List GReady) ∧ w_425.red.run default_GReady.run = some default_GRun ∧
      (1 = 1 ∨ w_425.outrun 1 1 default_GReady = false)) ∧
    (w_426.red.source 1 = some 2 ∧ (w_426.red.core 2).list = default_GReady :: [default_GReady] ∧ 2 ≠ 1 ∧
      w_426.outrun 1 2 default_GReady = true) ∧
    ((w_428.red.core 1).busy = some default_GBusy ∧ w_428.red.run default_GBusy.run = some default_GRun ∧
      w_428.red.node default_GRun.bank default_GBusy.node = some v_427 ∧ w_428.cluOn = true ∧ 1 < w_428.red.left default_GRun) ∧
    (w_430.red.slots = v_429 :: ([] : List GSlot) ∧ w_430.mayDrain (w_430.instOf v_429.list.inst).port = true ∧
      v_429.list.gen = (w_430.instOf v_429.list.inst).gen ∧ (w_430.instOf v_429.list.inst).exist = true ∧
      w_430.isoKind v_429.list.inst (pasidOf v_429.list.pasid) = 0 ∧ w_430.portUp (w_430.instOf v_429.list.inst).port = true ∧ v_429.result = 0 ∧
      slotPayload v_429.list v_429.value ≠ []) ∧
    (w_431.red.recs = default_GTraceRec :: ([] : List GTraceRec) ∧ w_431.traceLate default_GTraceRec = false ∧ w_431.traceFree = true ∧
      w_431.portUp w_431.boot.barPort = true) ∧
    (w_432.red.swap = some (1, 1) ∧ since32 w_432.redNext.1 1 < 2 ^ 31 ∧ w_432.red.bank w_432.red.idleBank = some default_GBank ∧
      w_432.red.idleBank ≤ 1 ∧ w_432.findCmd 1 = none) := by
  refine ⟨?_, ?_, ?_, ?_, ?_, ?_, ?_, ?_⟩ <;> decide

def v_433 : Cmd := cmdOf 0x0700 []
def w_434 : State := withCmd live v_433
def v_435 : Cmd := cmdOf 0x0700 [1, 0, 0, 0, 0, 0, 0, 0]
def w_436 : State := withCmd live v_435
def v_437 : GBank := { default_GBank with dying := false }
def v_438 : Cmd := cmdOf 0x0701 []
def w_439 : State :=
  let s := live
  let s := { s with red := { s.red with bank0 := some default_GBank } }
  let s := withCmd s v_438
  { s with red := { s.red with swap := none } }
def w_440 : State := withCmd live v_438
def v_441 : Cmd := cmdOf 0x0702 [2]
def w_442 : State := withCmd live v_441
def v_443 : Cmd := cmdOf 0x0702 []
def w_444 : State :=
  let s := live
  let s := { s with red := { s.red with swap := some (1, 1) } }
  withCmd s v_443
def v_445 : Cmd := cmdOf 0x0702 [0]
def w_446 : State :=
  let s := live
  let s := withCmd s v_445
  { s with red := { s.red with swap := none } }
def v_447 : Cmd := cmdOf 0x0702 [1]
def w_448 : State :=
  let s := live
  let s := withCmd s v_447
  let s := { s with red := { s.red with swap := none } }
  let s := { s with red := { s.red with active := some 1 } }
  { s with red := { s.red with live := [] } }
def v_449 : Cmd := cmdOf 0x0703 [0]
def w_450 : State := withCmd live v_449
def v_451 : Cmd := cmdOf 0x0703 [1]
def w_452 : State := withCmd live v_451
def v_453 : Cmd := cmdOf 0x0704 [0, 0, 0, 0, 0, 0, 0, 0, 0]
def w_454 : State := withCmd live v_453
def v_455 : Cmd := cmdOf 0x0704 [0, 0, 0, 0, 0, 0, 0, 0, 8]
def w_456 : State := withCmd live v_455

/-- The hypotheses of the clauses of ClusterRunsAndGraphs (part GraphCommands) are met. -/
theorem witness_GraphCommands :
    (w_434.Ready 1 0x0700 v_433 ∧ v_433.u 0 8 % 4 = 0 ∧ v_433.u 20 1 ≤ 16 ∧ v_433.u 21 1 ≤ 1 ∧ v_433.u 24 4 < 2 ^ 20) ∧
    (w_436.Ready 1 0x0700 v_435 ∧ (v_435.u 0 8 % 4 ≠ 0 ∨ 16 < v_435.u 20 1 ∨ 1 < v_435.u 21 1)) ∧
    (w_439.ReadyNow 1 0x0701 v_438 ∧ w_439.red.bank w_439.red.idleBank = some v_437 ∧ v_437.dying = false ∧ w_439.red.swap = none) ∧
    (w_440.ReadyNow 1 0x0701 v_438 ∧ w_440.red.bank w_440.red.idleBank = none) ∧
    (w_442.Ready 1 0x0702 v_441 ∧ 1 < v_441.u 0 1) ∧
    (w_444.Ready 1 0x0702 v_443 ∧ v_443.u 0 1 ≤ 1 ∧ w_444.red.swap.isSome = true) ∧
    (w_446.Ready 1 0x0702 v_445 ∧ v_445.u 0 1 = 0 ∧ w_446.red.swap = none ∧ (w_446.red.live.any fun x => x.bank == w_446.red.idleBank) = false) ∧
    (w_448.Ready 1 0x0702 v_447 ∧ v_447.u 0 1 = 1 ∧ w_448.red.swap = none ∧ w_448.red.active = some 1 ∧ w_448.red.live = []) ∧
    (w_450.Ready 1 0x0703 v_449 ∧ v_449.u 0 1 = 0) ∧
    (w_452.Ready 1 0x0703 v_451 ∧ v_451.u 0 1 = 1) ∧
    (w_454.Ready 1 0x0704 v_453 ∧ v_453.u 0 8 % 64 = 0 ∧ v_453.u 9 1 ≤ 3 ∧ v_453.u 12 4 < 2 ^ 20 ∧ v_453.u 8 1 = 0) ∧
    (w_456.Ready 1 0x0704 v_455 ∧ v_455.u 0 8 % 64 = 0 ∧ v_455.u 9 1 ≤ 3 ∧ v_455.u 12 4 < 2 ^ 20 ∧ 8 ≤ v_455.u 8 1 ∧ v_455.u 8 1 ≤ 16) := by
  refine ⟨?_, ?_, ?_, ?_, ?_, ?_, ?_, ?_, ?_, ?_, ?_, ?_⟩ <;> decide

def w_457 : State := live.setPState 1 1
def w_458 : State := live.setPState 1 2
def w_459 : State :=
  let s := live
  let s := s.setPState 1 2
  s.editPp 1 fun x => { x with term := .rp }
def w_460 : State :=
  let s := live
  let s := s.setPState 1 2
  s.editPp 1 fun x => { x with term := .rd }
def w_461 : State :=
  let s := live
  let s := s.editPp 1 fun x => { x with attached := true }
  let s := s.editPp 1 fun x => { x with frsSig := false }
  let s := s.editPp 1 fun x => { x with cmds := [] }
  s.put (Fd.LNK_STATUS_STATE 1) 0
def w_462 : State := live.editPp 1 fun x => { x with frsSig := true }
def w_463 : State :=
  let s := live
  let s := s.setPState 1 1
  s.put (Fd.PPW_P_CFG_ROLE_CAP 1) 2
def w_464 : State :=
  let s := live
  let s := s.setPState 0 0
  { s with power := { s.power with begun := false } }
def w_465 : State :=
  let s := live
  let s := s.setStage (if true then .running else .held)
  let s := s.put (Fd.PPW_P_STATUS_PROLE 1) (b2n true)
  let s := s.setPState 1 3
  let s := s.editPp 1 fun x => { x with capsSent := 0 }
  let s := s.editPp 1 fun x => { x with tx := none }
  s.editPp 1 fun x => { x with cut := false }
def v_466 : SnsMsg := { default_SnsMsg with typ := 10 }
def w_467 : State :=
  let s := live
  let s := s.setStage (if true then .running else .held)
  let s := s.put (Fd.PPW_P_STATUS_PROLE 1) (b2n true)
  let s := s.setPState 1 3
  s.editPp 1 fun x => { x with tx := some v_466 }
def w_468 : State :=
  let s := live
  let s := s.setStage (if true then .running else .held)
  let s := s.put (Fd.PPW_P_STATUS_PROLE 1) (b2n true)
  let s := s.setPState 1 3
  let s := s.editPp 1 fun x => { x with tx := some v_466 }
  let s := s.editPp 1 fun x => { x with capsOpen := 30 }
  s.editPp 1 fun x => { x with waiting := [] }
def v_469 : SnsMsg := { default_SnsMsg with id := 3 }
def v_470 : SnsHead := (hd 0 [])
def w_471 : State :=
  let s := live
  let s := s.editPp 1 fun x => { x with tx := some v_469 }
  s.editPp 1 fun x => { x with waiting := [] }
def v_472 : SnsHead := (hd 1 [])
def w_473 : State := live.editPp 1 fun x => { x with tx := some default_SnsMsg }
def w_474 : State :=
  let s := live
  let s := s.editPp 1 fun x => { x with tx := some v_466 }
  s.setStage .held
def w_475 : State :=
  let s := live
  let s := s.editPp 1 fun x => { x with tx := some default_SnsMsg }
  s.editPp 1 fun x => { x with backoff := false }
def w_476 : State :=
  let s := live
  let s := s.editPp 1 fun x => { x with tx := some default_SnsMsg }
  let s := s.editPp 1 fun x => { x with backoff := false }
  let s := s.editPp 1 fun x => { x with tries := 2 }
  let s := s.setStage (if true then .running else .held)
  s.editPp 1 fun x => { x with cut := false }
def v_477 : SnsMsg := { default_SnsMsg with typ := 8 }
def w_478 : State :=
  let s := live
  let s := s.editPp 1 fun x => { x with tx := some v_477 }
  let s := s.editPp 1 fun x => { x with backoff := false }
  let s := s.editPp 1 fun x => { x with tries := 2 }
  let s := s.setStage (if true then .running else .held)
  let s := s.editPp 1 fun x => { x with attached := true }
  s.editPp 1 fun x => { x with cmds := [] }
def w_479 : State :=
  let s := live
  let s := s.editPp 1 fun x => { x with tx := some default_SnsMsg }
  s.editPp 1 fun x => { x with backoff := true }
def v_480 : SnsHead := (hd 10 [0x05000000])
def w_481 : State :=
  let s := live
  let s := s.editPp 1 fun x => { x with tx := none }
  let s := s.editPp 1 fun x => { x with cmds := [] }
  let s := s.editPp 1 fun x => { x with attached := true, rxId := none }
  let s := s.put (Fd.PPW_P_STATUS_PROLE 1) (b2n false)
  let s := s.setPState 1 7
  s.editPp 1 fun x => { x with cut := false }
def v_482 : SnsHead := (hd 11 [0x05000000])
def w_483 : State :=
  let s := live
  let s := s.editPp 1 fun x => { x with tx := none }
  let s := s.editPp 1 fun x => { x with cmds := [] }
  s.editPp 1 fun x => { x with attached := true, rxId := none }
def v_484 : SnsHead := (hd 12 [0x20281400])
def w_485 : State :=
  let s := live
  let s := s.editPp 1 fun x => { x with tx := none }
  let s := s.editPp 1 fun x => { x with cmds := [] }
  let s := s.editPp 1 fun x => { x with attached := true, rxId := none }
  let s := s.put (Fd.PPW_P_STATUS_PROLE 1) (b2n true)
  let s := s.setPState 1 3
  let s := s.editPp 1 fun x => { x with waiting := [] }
  s.editPp 1 fun x => { x with cut := false }
def v_486 : SnsHead := (hd 12 [1])
def w_487 : State :=
  let s := live
  let s := s.editPp 1 fun x => { x with tx := none }
  let s := s.editPp 1 fun x => { x with cmds := [] }
  let s := s.editPp 1 fun x => { x with attached := true, rxId := none }
  let s := s.put (Fd.PPW_P_STATUS_PROLE 1) (b2n true)
  let s := s.editPp 1 fun x => { x with cut := false }
  s.setPState 1 4
def w_488 : State :=
  let s := live
  let s := s.editPp 1 fun x => { x with tx := none }
  s.editPp 1 fun x => { x with cmds := [] }
def w_489 : State :=
  let s := live
  let s := s.editPp 1 fun x => { x with tx := none }
  let s := s.editPp 1 fun x => { x with cmds := [] }
  let s := s.editPp 1 fun x => { x with attached := true, rxId := none }
  s.setPState 1 8
def v_490 : SnsHead := (hd 2 [])
def v_491 : SnsHead := (hd 9 [])
def v_492 : SnsHead := (hd 15 (([] : List Nat)))
def w_493 : State :=
  let s := live
  let s := s.editPp 1 fun x => { x with tx := none }
  let s := s.editPp 1 fun x => { x with cmds := [] }
  let s := s.editPp 1 fun x => { x with attached := true, rxId := none }
  s.editPp 1 fun x => { x with cut := false }
def v_494 : SnsHead := (hd 3 [])
def v_495 : SnsHead := (hd 4 [])
def w_496 : State :=
  let s := live
  let s := s.editPp 1 fun x => { x with tx := none }
  let s := s.editPp 1 fun x => { x with cmds := [] }
  let s := s.editPp 1 fun x => { x with attached := true, rxId := none }
  let s := s.setPState 1 9
  s.put (Fd.PPW_P_STATUS_PROLE 1) (b2n false)
def v_497 : SnsHead := (hd 5 [])
def v_498 : SnsHead := (hd 6 [])
def w_499 : State :=
  let s := live
  let s := s.editPp 1 fun x => { x with tx := none }
  let s := s.editPp 1 fun x => { x with cmds := [] }
  let s := s.editPp 1 fun x => { x with attached := true, rxId := none }
  let s := s.editPp 1 fun x => { x with cut := false }
  s.editPp 1 fun x => { x with snkPdos := [0x05000000] }
def v_500 : SnsHead := (hd 8 [])
def w_501 : State :=
  let s := live
  let s := s.editPp 1 fun x => { x with tx := none }
  let s := s.editPp 1 fun x => { x with cmds := [] }
  let s := s.editPp 1 fun x => { x with attached := true, rxId := none }
  let s := s.put (Fd.PPW_P_STATUS_PROLE 1) (b2n true)
  s.editPp 1 fun x => { x with cut := false }
def v_502 : SnsHead := (hd 13 [1])
def v_503 : SnsHead := (hd 10 [])
def w_504 : State :=
  let s := live
  let s := s.editPp 1 fun x => { x with attached := true }
  s.editPp 1 fun x => { x with rxId := some (snsId v_503) }
def v_505 : SnsHead := (hd 12 [])
def w_506 : State :=
  let s := live
  let s := s.editPp 1 fun x => { x with attached := true }
  s.editPp 1 fun x => { x with rxId := some (snsId v_505) }
def w_507 : State :=
  let s := live
  let s := s.editPp 1 fun x => { x with attached := true }
  s.editPp 1 fun x => { x with rxId := some (snsId v_495) }
def v_508 : SnsHead := (hd 7 [])
def w_509 : State :=
  let s := live
  let s := s.editPp 1 fun x => { x with attached := true }
  s.editPp 1 fun x => { x with rxId := some (snsId v_508) }
def w_510 : State :=
  let s := live
  let s := s.editPp 1 fun x => { x with attached := true }
  s.editPp 1 fun x => { x with rxId := some (snsId v_500) }
def w_511 : State :=
  let s := live
  let s := s.setStage (if true then .running else .held)
  let s := s.editPp 1 fun x => { x with cmds := [] }
  let s := s.editPp 1 fun x => { x with tx := none }
  let s := s.setPState 1 5
  let s := s.put (Fd.PPW_P_STATUS_PROLE 1) (b2n true)
  let s := s.editPp 1 fun x => { x with lowAt := none }
  s.editPp 1 fun x => { x with cut := false }
def w_512 : State :=
  let s := live
  let s := s.setStage (if true then .running else .held)
  let s := s.editPp 1 fun x => { x with cmds := [] }
  let s := s.editPp 1 fun x => { x with tx := none }
  let s := s.editPp 1 fun x => { x with again := some (12, [1]) }
  let s := s.setPState 1 7
  s.editPp 1 fun x => { x with cut := false }
def w_513 : State :=
  let s := live
  let s := s.setStage (if true then .running else .held)
  let s := s.editPp 1 fun x => { x with cmds := [] }
  let s := s.editPp 1 fun x => { x with tx := none }
  let s := s.setPState 1 9
  s.editPp 1 fun x => { x with attached := true }
def w_514 : State :=
  let s := live
  let s := s.setStage (if true then .running else .held)
  let s := s.editPp 1 fun x => { x with cmds := [] }
  let s := s.editPp 1 fun x => { x with tx := none }
  let s := s.setPState 1 6
  let s := s.editPp 1 fun x => { x with dropped := true }
  s.editPp 1 fun x => { x with attached := true }
def w_515 : State :=
  let s := live
  let s := s.editPp 1 fun x => { x with cut := true }
  s.editPp 1 fun x => { x with attached := true, rxId := none }

/-- The hypotheses of the clauses of PowerContracts are met. -/
theorem witness_PowerContracts :
    (1 < 8 ∧ 1 < w_457.ports ∧ w_457.pState 1 = 1) ∧
    (1 < 8 ∧ 1 < w_458.ports ∧ w_458.pState 1 = 2 ∧ 1 < 4) ∧
    (1 < 8 ∧ 1 < w_459.ports ∧ w_459.pState 1 = 2 ∧ (w_459.pp 1).term = .rp) ∧
    (1 < 8 ∧ 1 < w_460.ports ∧ w_460.pState 1 = 2 ∧ (w_460.pp 1).term = .rd ∧ 1 < 1080) ∧
    (1 < 8 ∧ 1 < w_460.ports ∧ w_460.pState 1 = 2 ∧ (w_460.pp 1).term = .rd ∧ 1080 ≤ 1080) ∧
    (1 < 8 ∧ 1 < w_461.ports ∧ (w_461.pp 1).attached = true ∧ (w_461.pp 1).frsSig = false ∧ 2 ≠ 1 ∧ 2 < 4 ∧ (w_461.pp 1).cmds = [] ∧
      w_461.pState 1 < 14 ∧ w_461.linkState 1 = 0) ∧
    (1 < 8 ∧ 1 < w_462.ports ∧ (w_462.pp 1).frsSig = true) ∧
    (1 < 8 ∧ 1 < w_463.ports ∧ w_463.pState 1 = 1 ∧ w_463.roleCap 1 = 2) ∧
    (1 < 8 ∧ 1 < live.ports ∧ live.roleCap 1 ≠ 2) ∧
    (w_464.pState 0 = 0 ∧ w_464.power.begun = false) ∧
    (1 < 8 ∧ 1 < w_465.ports ∧ w_465.dieRuns = true ∧ w_465.isSource 1 = true ∧ w_465.pState 1 = 3 ∧ (w_465.pp 1).capsSent = 0 ∧
      (w_465.pp 1).tx = none ∧ (w_465.pp 1).cut = false) ∧
    (1 < 8 ∧ 1 < w_467.ports ∧ w_467.dieRuns = true ∧ w_467.isSource 1 = true ∧ w_467.pState 1 = 3 ∧ (w_467.pp 1).tx = some v_466 ∧
      v_466.typ = 10 ∧ (w_467.pp 1).capsOpen < 30) ∧
    (1 < 8 ∧ 1 < w_468.ports ∧ w_468.dieRuns = true ∧ w_468.isSource 1 = true ∧ w_468.pState 1 = 3 ∧ (w_468.pp 1).tx = some v_466 ∧
      v_466.typ = 10 ∧ 30 ≤ (w_468.pp 1).capsOpen ∧ (w_468.pp 1).waiting = []) ∧
    (1 < 8 ∧ 1 < w_471.ports ∧ (w_471.pp 1).tx = some v_469 ∧ snsGood v_470 [] = true ∧ snsType v_470 = 0 ∧ snsId v_470 = v_469.id ∧
      v_469.typ ≠ 8 ∧ (w_471.pp 1).waiting = []) ∧
    (1 < 8 ∧ 1 < w_473.ports ∧ (w_473.pp 1).tx = some default_SnsMsg ∧
      (snsGood v_472 [] = false ∨ snsType v_472 ≠ 0 ∨ snsId v_472 ≠ default_SnsMsg.id)) ∧
    (1 < 8 ∧ 1 < w_474.ports ∧ (w_474.pp 1).tx = some v_466 ∧ w_474.maySend v_466.typ = false) ∧
    (1 < 8 ∧ 1 < w_475.ports ∧ (w_475.pp 1).tx = some default_SnsMsg ∧ default_SnsMsg.typ ≠ 10 ∧ w_475.maySend default_SnsMsg.typ = true ∧
      (w_475.pp 1).backoff = false ∧ (w_475.pp 1).tries < 2) ∧
    (1 < 8 ∧ 1 < w_476.ports ∧ (w_476.pp 1).tx = some default_SnsMsg ∧ default_SnsMsg.typ ≠ 10 ∧ default_SnsMsg.typ ≠ 8 ∧
      (w_476.pp 1).backoff = false ∧ (w_476.pp 1).tries = 2 ∧ w_476.dieRuns = true ∧ (w_476.pp 1).cut = false) ∧
    (1 < 8 ∧ 1 < w_478.ports ∧ (w_478.pp 1).tx = some v_477 ∧ v_477.typ = 8 ∧ (w_478.pp 1).backoff = false ∧ (w_478.pp 1).tries = 2 ∧
      w_478.dieRuns = true ∧ (w_478.pp 1).attached = true ∧ w_478.pState 1 < 11 ∧ (w_478.pp 1).cmds = []) ∧
    (1 < 8 ∧ 1 < w_473.ports ∧ (w_473.pp 1).tx = some default_SnsMsg) ∧
    (1 < 8 ∧ 1 < w_479.ports ∧ (w_479.pp 1).tx = some default_SnsMsg ∧ (w_479.pp 1).backoff = true ∧ w_479.maySend default_SnsMsg.typ = true) ∧
    (1 < 8 ∧ (w_481.pp 1).tx = none ∧ (w_481.pp 1).cmds = [] ∧ w_481.Hears 1 10 v_480 [0x05000000] ∧ w_481.isSource 1 = false ∧
      (w_481.pState 1 = 7 ∨ w_481.pState 1 = 10) ∧ 1 ≤ [0x05000000].length ∧ [0x05000000].length ≤ 4 ∧ (w_481.pp 1).cut = false) ∧
    (1 < 8 ∧ (w_483.pp 1).tx = none ∧ (w_483.pp 1).cmds = [] ∧ w_483.Hears 1 11 v_482 [0x05000000] ∧ 1 ≤ [0x05000000].length ∧
      [0x05000000].length ≤ 4) ∧
    (1 < 8 ∧ (w_485.pp 1).tx = none ∧ (w_485.pp 1).cmds = [] ∧ w_485.Hears 1 12 v_484 [0x20281400] ∧ w_485.isSource 1 = true ∧
      (w_485.pState 1 = 3 ∨ w_485.pState 1 = 6) ∧ (w_485.pp 1).waiting = [] ∧ (w_485.pp 1).cut = false ∧ w_485.acceptable 1 0x20281400 = true) ∧
    (1 < 8 ∧ (w_485.pp 1).tx = none ∧ (w_485.pp 1).cmds = [] ∧ w_485.Hears 1 12 v_486 [1] ∧ w_485.isSource 1 = true ∧
      (w_485.pState 1 = 3 ∨ w_485.pState 1 = 6) ∧ (w_485.pp 1).waiting = [] ∧ (w_485.pp 1).cut = false ∧ w_485.acceptable 1 1 = false) ∧
    (1 < 8 ∧ (w_487.pp 1).tx = none ∧ (w_487.pp 1).cmds = [] ∧ w_487.Hears 1 12 v_486 [1] ∧ w_487.isSource 1 = true ∧ w_487.busyNeg 1 = true ∧
      (w_487.pp 1).cut = false) ∧
    (1 < 8 ∧ (w_488.pp 1).tx = none ∧ (w_488.pp 1).cmds = []) ∧
    (1 < 8 ∧ (w_489.pp 1).tx = none ∧ (w_489.pp 1).cmds = [] ∧ w_489.Hears 1 1 v_472 [] ∧ w_489.pState 1 = 8) ∧
    (1 < 8 ∧ (w_489.pp 1).tx = none ∧ (w_489.pp 1).cmds = [] ∧ w_489.Hears 1 2 v_490 [] ∧ w_489.pState 1 = 8 ∧ (w_489.pp 1).prior < 16) ∧
    (1 < 8 ∧ (w_489.pp 1).tx = none ∧ (w_489.pp 1).cmds = [] ∧ w_489.Hears 1 9 v_491 [] ∧ w_489.pState 1 = 8 ∧ (w_489.pp 1).prior < 16) ∧
    (1 < 8 ∧ (w_493.pp 1).tx = none ∧ (w_493.pp 1).cmds = [] ∧ (w_493.Hears 1 15 v_492 ([] : List Nat) ∨ (w_493.Hears 1 9 v_492 ([] : List Nat) ∧
      ([] : List Nat) ≠ [])) ∧ (w_493.pp 1).cut = false) ∧
    (1 < 8 ∧ (w_489.pp 1).tx = none ∧ (w_489.pp 1).cmds = [] ∧ w_489.Hears 1 3 v_494 [] ∧ w_489.pState 1 = 8 ∧ (w_489.pp 1).prior < 16) ∧
    (1 < 8 ∧ (w_496.pp 1).tx = none ∧ (w_496.pp 1).cmds = [] ∧ w_496.Hears 1 4 v_495 [] ∧ w_496.pState 1 = 9 ∧ w_496.isSource 1 = false) ∧
    (1 < 8 ∧ (w_493.pp 1).tx = none ∧ (w_493.pp 1).cmds = [] ∧ w_493.Hears 1 5 v_497 [] ∧ (w_493.pp 1).srcPdos ≠ [] ∧ (w_493.pp 1).cut = false) ∧
    (1 < 8 ∧ (w_499.pp 1).tx = none ∧ (w_499.pp 1).cmds = [] ∧ w_499.Hears 1 6 v_498 [] ∧ (w_499.pp 1).snkPdos ≠ [] ∧ (w_499.pp 1).cut = false) ∧
    (1 < 8 ∧ (w_501.pp 1).tx = none ∧ (w_501.pp 1).cmds = [] ∧ w_501.Hears 1 8 v_500 [] ∧ w_501.busyNeg 1 = false ∧ w_501.isSource 1 = true ∧
      (w_501.pp 1).cut = false) ∧
    (1 < 8 ∧ (w_483.pp 1).tx = none ∧ (w_483.pp 1).cmds = [] ∧ w_483.Hears 1 13 v_502 [1]) ∧
    (1 < w_504.ports ∧ (w_504.pp 1).attached = true ∧ (w_504.pp 1).rxId = some (snsId v_503) ∧ snsGood v_503 ([] : List Nat) = true ∧
      snsType v_503 = 10) ∧
    (1 < w_506.ports ∧ (w_506.pp 1).attached = true ∧ (w_506.pp 1).rxId = some (snsId v_505) ∧ snsGood v_505 ([] : List Nat) = true ∧
      snsType v_505 = 12) ∧
    (1 < w_507.ports ∧ (w_507.pp 1).attached = true ∧ (w_507.pp 1).rxId = some (snsId v_495) ∧ snsGood v_495 ([] : List Nat) = true ∧
      snsType v_495 = 4) ∧
    (1 < w_509.ports ∧ (w_509.pp 1).attached = true ∧ (w_509.pp 1).rxId = some (snsId v_508) ∧ snsGood v_508 ([] : List Nat) = true ∧
      snsType v_508 = 7) ∧
    (1 < w_510.ports ∧ (w_510.pp 1).attached = true ∧ (w_510.pp 1).rxId = some (snsId v_500) ∧ snsGood v_500 ([] : List Nat) = true ∧
      snsType v_500 = 8) ∧
    (snsGood default_SnsHead ([] : List Nat) = false) ∧
    (1 < 8 ∧ 1 < w_511.ports ∧ w_511.dieRuns = true ∧ (w_511.pp 1).cmds = [] ∧ (w_511.pp 1).tx = none ∧ w_511.pState 1 = 5 ∧
      w_511.isSource 1 = true ∧ (w_511.pp 1).lowAt = none ∧ (w_511.pp 1).cut = false) ∧
    (1 < 8 ∧ 1 < w_512.ports ∧ w_512.dieRuns = true ∧ (w_512.pp 1).cmds = [] ∧ (w_512.pp 1).tx = none ∧ (w_512.pp 1).again = some (12, [1]) ∧
      (w_512.pState 1 = 7 ∨ w_512.pState 1 = 10) ∧ (w_512.pp 1).cut = false) ∧
    (1 < 8 ∧ 1 < w_513.ports ∧ w_513.dieRuns = true ∧ (w_513.pp 1).cmds = [] ∧ (w_513.pp 1).tx = none ∧ w_513.pState 1 = 9 ∧
      (w_513.pp 1).attached = true) ∧
    (1 < 8 ∧ 1 < w_514.ports ∧ w_514.dieRuns = true ∧ (w_514.pp 1).cmds = [] ∧ (w_514.pp 1).tx = none ∧ w_514.pState 1 = 6 ∧
      (w_514.pp 1).dropped = true ∧ (w_514.pp 1).attached = true) ∧
    (1 < 8 ∧ (w_515.pp 1).cut = true ∧ w_515.Hears 1 5 v_497 []) ∧
    (1 < 8 ∧ (w_515.pp 1).cut = true ∧ w_515.Hears 1 6 v_498 []) := by
  refine ⟨?_, ?_, ?_, ?_, ?_, ?_, ?_, ?_, ?_, ?_, ?_, ?_, ?_, ?_, ?_, ?_, ?_, ?_, ?_, ?_, ?_, ?_, ?_, ?_, ?_, ?_, ?_, ?_, ?_, ?_, ?_, ?_, ?_, ?_, ?_, ?_, ?_, ?_, ?_, ?_, ?_, ?_, ?_, ?_, ?_, ?_, ?_, ?_, ?_⟩ <;> decide

def v_516 : SnsHead := (hd 7 [])
def w_517 : State :=
  let s := live
  let s := s.editPp 1 fun x => { x with tx := none }
  let s := s.editPp 1 fun x => { x with cmds := [] }
  let s := s.editPp 1 fun x => { x with attached := true, rxId := none }
  let s := s.put (Fd.PPW_P_CFG_ACCEPT_SWAP 1) 0
  s.editPp 1 fun x => { x with cut := false }
def w_518 : State :=
  let s := live
  let s := s.editPp 1 fun x => { x with tx := none }
  let s := s.editPp 1 fun x => { x with cmds := [] }
  let s := s.editPp 1 fun x => { x with attached := true, rxId := none }
  let s := s.put (Fd.PPW_P_CFG_ACCEPT_SWAP 1) 1
  let s := s.editPp 1 fun x => { x with cut := false }
  s.setPState 1 4
def w_519 : State :=
  let s := live
  let s := s.editPp 1 fun x => { x with partnerDrp := true }
  let s := s.editPp 1 fun x => { x with tx := none }
  let s := s.editPp 1 fun x => { x with cmds := [] }
  let s := s.editPp 1 fun x => { x with attached := true, rxId := none }
  let s := s.put (Fd.PPW_P_CFG_ACCEPT_SWAP 1) 1
  let s := s.editPp 1 fun x => { x with swap := .none }
  let s := s.put (Fd.PPW_P_STATUS_PROLE 1) (b2n true)
  let s := s.editPp 1 fun x => { x with cut := false }
  let s := s.put (Fd.PPW_P_CFG_ROLE_CAP 1) 2
  s.setPState 1 6
def w_520 : State :=
  let s := live
  let s := s.editPp 1 fun x => { x with partnerDrp := true }
  let s := s.editPp 1 fun x => { x with tx := none }
  let s := s.editPp 1 fun x => { x with cmds := [] }
  let s := s.editPp 1 fun x => { x with attached := true, rxId := none }
  let s := s.put (Fd.PPW_P_CFG_ACCEPT_SWAP 1) 1
  let s := s.editPp 1 fun x => { x with swap := .none }
  let s := s.put (Fd.PPW_P_STATUS_PROLE 1) (b2n false)
  let s := s.put (Fd.PPW_P_CFG_ROLE_CAP 1) 2
  s.setPState 1 6
def v_521 : SnsHead := (hd 4 [])
def w_522 : State :=
  let s := live
  let s := s.editPp 1 fun x => { x with tx := none }
  let s := s.editPp 1 fun x => { x with cmds := [] }
  let s := s.editPp 1 fun x => { x with attached := true, rxId := none }
  let s := s.setPState 1 11
  s.editPp 1 fun x => { x with swap := .waitOld }
def w_523 : State :=
  let s := live
  let s := s.editPp 1 fun x => { x with tx := none }
  let s := s.editPp 1 fun x => { x with cmds := [] }
  let s := s.editPp 1 fun x => { x with attached := true, rxId := none }
  let s := s.setPState 1 11
  let s := s.editPp 1 fun x => { x with swap := .oldSource }
  s.editPp 1 fun x => { x with fast := false }
def v_524 : SnsHead := (hd 14 [])
def w_525 : State :=
  let s := live
  let s := s.editPp 1 fun x => { x with tx := none }
  let s := s.editPp 1 fun x => { x with cmds := [] }
  let s := s.editPp 1 fun x => { x with attached := true, rxId := none }
  let s := s.setPState 1 12
  let s := s.editPp 1 fun x => { x with swap := .turnOn }
  let s := s.editPp 1 fun x => { x with frsVp := true }
  s.editPp 1 fun x => { x with cut := false }
def w_526 : State :=
  let s := live
  let s := s.editPp 1 fun x => { x with tx := none }
  let s := s.editPp 1 fun x => { x with cmds := [] }
  let s := s.editPp 1 fun x => { x with attached := true, rxId := none }
  let s := s.setPState 1 12
  let s := s.editPp 1 fun x => { x with swap := .waitOld }
  s.editPp 1 fun x => { x with cut := false }
def w_527 : State :=
  let s := live
  let s := s.editPp 1 fun x => { x with cmds := [] }
  let s := s.editPp 1 fun x => { x with attached := true }
  let s := s.setPState 1 11
  let s := s.editPp 1 fun x => { x with swap := .turnOn }
  let s := s.editPp 1 fun x => { x with fast := false }
  let s := s.editPp 1 fun x => { x with tx := none }
  let s := s.setStage (if true then .running else .held)
  let s := s.editPp 1 fun x => { x with lowAt := none }
  s.editPp 1 fun x => { x with cut := false }
def w_528 : State :=
  let s := live
  let s := s.editPp 1 fun x => { x with cmds := [] }
  let s := s.editPp 1 fun x => { x with attached := true }
  let s := s.setPState 1 11
  let s := s.editPp 1 fun x => { x with swap := .oldSource }
  s.setStage (if true then .running else .held)
def w_529 : State :=
  let s := live
  let s := s.editPp 1 fun x => { x with cmds := [] }
  let s := s.editPp 1 fun x => { x with attached := true }
  let s := s.editPp 1 fun x => { x with swap := .newContract }
  let s := s.editPp 1 fun x => { x with fast := false }
  s.put (Fd.PPW_P_STATUS_PROLE 1) (b2n true)
def w_530 : State :=
  let s := live
  let s := s.editPp 1 fun x => { x with cmds := [] }
  let s := s.editPp 1 fun x => { x with attached := true }
  s.put (Fd.PPW_P_STATUS_FRS_RELY 1) 1
def w_531 : State :=
  let s := live
  let s := s.editPp 1 fun x => { x with cmds := [] }
  let s := s.editPp 1 fun x => { x with attached := true }
  s.put (Fd.PPW_P_STATUS_FRS_RELY 1) 0
def w_532 : State :=
  let s := live
  let s := s.editPp 1 fun x => { x with cmds := [] }
  let s := s.editPp 1 fun x => { x with attached := true }
  let s := s.editPp 1 fun x => { x with frsSig := true }
  let s := s.setStage (if true then .running else .held)
  let s := s.editPp 1 fun x => { x with tx := none }
  s.editPp 1 fun x => { x with cut := false }
def w_533 : State :=
  let s := live
  let s := s.editPp 1 fun x => { x with cmds := [] }
  let s := s.editPp 1 fun x => { x with attached := true }
  s.put (Fd.PPW_P_STATUS_FRS_ARMED 1) 1
def w_534 : State :=
  let s := live
  let s := s.editPp 1 fun x => { x with cmds := [] }
  let s := s.editPp 1 fun x => { x with attached := true }
  let s := s.setPState 1 12
  s.editPp 1 fun x => { x with swap := .waitOld }
def w_535 : State :=
  let s := live
  let s := s.editPp 1 fun x => { x with cmds := [] }
  let s := s.editPp 1 fun x => { x with attached := true }
  let s := s.editPp 1 fun x => { x with fast := true }
  let s := s.editPp 1 fun x => { x with swap := .newContract }
  let s := s.setStage (if true then .running else .held)
  s.setPState 1 3
def w_536 : State :=
  let s := live
  let s := s.editPp 1 fun x => { x with cmds := [] }
  s.editPp 1 fun x => { x with attached := true }
def w_537 : State :=
  let s := live
  let s := s.editPp 1 fun x => { x with cmds := [] }
  let s := s.editPp 1 fun x => { x with attached := true }
  s.setPState 1 13
def w_538 : State :=
  let s := live
  let s := s.editPp 1 fun x => { x with cmds := [] }
  let s := s.editPp 1 fun x => { x with ramp := false }
  s.setPState 1 3
def w_539 : State :=
  let s := live
  let s := s.editPp 1 fun x => { x with cmds := [] }
  s.put (Fd.PPW_P_STATUS_PROLE 1) (b2n false)
def w_540 : State :=
  let s := live
  let s := s.editPp 1 fun x => { x with cmds := [] }
  s.setPState 1 11
def w_541 : State :=
  let s := live
  let s := s.editPp 1 fun x => { x with cmds := [] }
  s.editPp 1 fun x => { x with calm := some 1 }
def w_542 : State :=
  let s := live
  let s := s.editPp 1 fun x => { x with cmds := [] }
  s.editPp 1 fun x => { x with swapAt := some 1 }
def w_543 : State :=
  let s := live
  let s := s.editPp 1 fun x => { x with cmds := [] }
  let s := s.setPState 1 14
  s.put (Fd.LNK_STATUS_STATE 1) 0
def w_544 : State :=
  let s := live
  let s := s.editPp 1 fun x => { x with cmds := [] }
  s.setPState 1 15

/-- The hypotheses of the clauses of PowerSwapsAndFaults are met. -/
theorem witness_PowerSwapsAndFaults :
    (1 < 8 ∧ (w_517.pp 1).tx = none ∧ (w_517.pp 1).cmds = [] ∧ w_517.Hears 1 7 v_516 [] ∧ w_517.on (Fd.PPW_P_CFG_ACCEPT_SWAP 1) = false ∧
      (w_517.pp 1).cut = false) ∧
    (1 < 8 ∧ (w_518.pp 1).tx = none ∧ (w_518.pp 1).cmds = [] ∧ w_518.Hears 1 7 v_516 [] ∧ w_518.on (Fd.PPW_P_CFG_ACCEPT_SWAP 1) = true ∧
      w_518.busyNeg 1 = true ∧ (w_518.pp 1).cut = false) ∧
    (1 < 8 ∧ (w_519.pp 1).tx = none ∧ (w_519.pp 1).cmds = [] ∧ w_519.Hears 1 7 v_516 [] ∧ w_519.on (Fd.PPW_P_CFG_ACCEPT_SWAP 1) = true ∧
      w_519.maySwap 1 = true ∧ (w_519.pp 1).swap = .none ∧ w_519.isSource 1 = true ∧ (w_519.pp 1).cut = false) ∧
    (1 < 8 ∧ (w_520.pp 1).tx = none ∧ (w_520.pp 1).cmds = [] ∧ w_520.Hears 1 7 v_516 [] ∧ w_520.on (Fd.PPW_P_CFG_ACCEPT_SWAP 1) = true ∧
      w_520.maySwap 1 = true ∧ (w_520.pp 1).swap = .none ∧ w_520.isSource 1 = false) ∧
    (1 < 8 ∧ (w_522.pp 1).tx = none ∧ (w_522.pp 1).cmds = [] ∧ w_522.Hears 1 4 v_521 [] ∧ w_522.pState 1 = 11 ∧ (w_522.pp 1).swap = .waitOld) ∧
    (1 < 8 ∧ (w_523.pp 1).tx = none ∧ (w_523.pp 1).cmds = [] ∧ w_523.Hears 1 4 v_521 [] ∧ w_523.pState 1 = 11 ∧ (w_523.pp 1).swap = .oldSource ∧
      (w_523.pp 1).fast = false) ∧
    (1 < 8 ∧ (w_525.pp 1).tx = none ∧ (w_525.pp 1).cmds = [] ∧ w_525.Hears 1 14 v_524 [] ∧ w_525.pState 1 = 12 ∧ (w_525.pp 1).swap = .turnOn ∧
      (w_525.pp 1).frsVp = true ∧ (w_525.pp 1).cut = false) ∧
    (1 < 8 ∧ (w_526.pp 1).tx = none ∧ (w_526.pp 1).cmds = [] ∧ w_526.Hears 1 14 v_524 [] ∧ w_526.pState 1 = 12 ∧ (w_526.pp 1).swap = .waitOld ∧
      (w_526.pp 1).cut = false) ∧
    (1 < 8 ∧ 1 < w_527.ports ∧ (w_527.pp 1).cmds = [] ∧ (w_527.pp 1).attached = true ∧ w_527.pState 1 = 11 ∧ (w_527.pp 1).swap = .turnOn ∧
      (w_527.pp 1).fast = false ∧ (w_527.pp 1).tx = none ∧ w_527.dieRuns = true ∧ (w_527.pp 1).lowAt = none ∧ (w_527.pp 1).cut = false) ∧
    (1 < 8 ∧ 1 < w_528.ports ∧ (w_528.pp 1).cmds = [] ∧ (w_528.pp 1).attached = true ∧ w_528.pState 1 = 11 ∧ (w_528.pp 1).swap = .oldSource ∧
      w_528.dieRuns = true) ∧
    (1 < 8 ∧ 1 < w_529.ports ∧ (w_529.pp 1).cmds = [] ∧ (w_529.pp 1).attached = true ∧ (w_529.pp 1).swap = .newContract ∧
      (w_529.pp 1).fast = false ∧ w_529.isSource 1 = true ∧ w_529.pState 1 < 13) ∧
    (1 < 8 ∧ 1 < w_530.ports ∧ (w_530.pp 1).cmds = [] ∧ (w_530.pp 1).attached = true ∧ w_530.on (Fd.PPW_P_STATUS_FRS_RELY 1) = true ∧
      w_530.pState 1 < 11 ∧ (10 * 1 < 9 * (1200 * 2 ^ w_530.get (Fd.PPW_P_STATUS_VOLT 1)) ∨ (false = true ∧
      w_530.on (Fd.PPW_P_CFG_FRS_ON_PFI 1) = true))) ∧
    (1 < 8 ∧ 1 < w_531.ports ∧ (w_531.pp 1).cmds = [] ∧ (w_531.pp 1).attached = true ∧ w_531.on (Fd.PPW_P_STATUS_FRS_RELY 1) = false) ∧
    (1 < 8 ∧ 1 < w_532.ports ∧ (w_532.pp 1).cmds = [] ∧ (w_532.pp 1).attached = true ∧ (w_532.pp 1).frsSig = true ∧ w_532.dieRuns = true ∧
      (w_532.pp 1).tx = none ∧ (w_532.pp 1).cut = false) ∧
    (1 < 8 ∧ 1 < w_533.ports ∧ (w_533.pp 1).cmds = [] ∧ (w_533.pp 1).attached = true ∧ w_533.on (Fd.PPW_P_STATUS_FRS_ARMED 1) = true ∧
      w_533.pState 1 < 12) ∧
    (1 < 8 ∧ 1 < w_534.ports ∧ (w_534.pp 1).cmds = [] ∧ (w_534.pp 1).attached = true ∧ w_534.pState 1 = 12 ∧ (w_534.pp 1).swap = .waitOld ∧
      (w_534.pp 1).frs < 512) ∧
    (1 < 8 ∧ 1 < w_534.ports ∧ (w_534.pp 1).cmds = [] ∧ (w_534.pp 1).attached = true ∧ w_534.pState 1 = 12 ∧ (w_534.pp 1).swap = .waitOld) ∧
    (1 < 8 ∧ 1 < w_535.ports ∧ (w_535.pp 1).cmds = [] ∧ (w_535.pp 1).attached = true ∧ (w_535.pp 1).fast = true ∧
      (w_535.pp 1).swap = .newContract ∧ w_535.dieRuns = true ∧ w_535.pState 1 = 3) ∧
    (1 < 8 ∧ 1 < w_536.ports ∧ (w_536.pp 1).cmds = [] ∧ (w_536.pp 1).attached = true ∧ w_536.pState 1 < 11) ∧
    (1 < 8 ∧ 1 < w_537.ports ∧ (w_537.pp 1).cmds = [] ∧ (w_537.pp 1).attached = true ∧ w_537.pState 1 = 13) ∧
    (1 < 8 ∧ 1 < w_538.ports ∧ (w_538.pp 1).cmds = [] ∧ 1 ≤ 1 ∧ 1 ≤ 7 ∧ w_538.pState 1 ≠ 0 ∧ w_538.pState 1 < 11 ∧
      (1 = 3 → w_538.isSource 1 = true) ∧ w_538.pState 1 ≠ 5 ∧ (w_538.pp 1).ramp = false ∧
      (∀ c, (w_538.pp 1).calm = some c → 1 = 3 → c + 8000000 ≤ w_538.time.cyc) ∧
      (∀ c, (w_538.pp 1).swapAt = some c → 1 = 6 → c + 2000000 ≤ w_538.time.cyc)) ∧
    (1 < 8 ∧ 1 < w_539.ports ∧ (w_539.pp 1).cmds = [] ∧ 3 = 3 ∧
      (w_539.isSource 1 = false ∨ (w_539.pp 1).ramp = true ∨ w_539.pState 1 = 5 ∨ w_539.pState 1 = 11 ∨ w_539.pState 1 = 12)) ∧
    (1 < 8 ∧ 1 < w_540.ports ∧ (w_540.pp 1).cmds = [] ∧ 6 = 6 ∧ (w_540.pState 1 = 11 ∨ w_540.pState 1 = 12)) ∧
    (1 < 8 ∧ 1 < w_541.ports ∧ (w_541.pp 1).cmds = [] ∧ (w_541.pp 1).calm = some 1 ∧ 3 = 3 ∧ w_541.time.cyc < 1 + 8000000) ∧
    (1 < 8 ∧ 1 < w_542.ports ∧ (w_542.pp 1).cmds = [] ∧ (w_542.pp 1).swapAt = some 1 ∧ 6 = 6 ∧ w_542.time.cyc < 1 + 2000000) ∧
    (1 < 8 ∧ 1 < w_543.ports ∧ (w_543.pp 1).cmds = [] ∧ w_543.pState 1 = 14 ∧ w_543.linkState 1 = 0) ∧
    (1 < 8 ∧ 1 < w_544.ports ∧ (w_544.pp 1).cmds = [] ∧ w_544.pState 1 = 15) := by
  refine ⟨?_, ?_, ?_, ?_, ?_, ?_, ?_, ?_, ?_, ?_, ?_, ?_, ?_, ?_, ?_, ?_, ?_, ?_, ?_, ?_, ?_, ?_, ?_, ?_, ?_, ?_, ?_⟩ <;> decide

def v_545 : Cmd := cmdOf 0x0500 []
def w_546 : State := withCmd live v_545
def v_547 : Cmd := cmdOf 0x0500 [7]
def w_548 : State :=
  let s := live
  let s := { s with part := .k4 }
  withCmd s v_547
def v_549 : Cmd := cmdOf 0x0501 [0, 0, 1, 1, 0, 0, 0, 0, 0, 0, 0, 5]
def w_550 : State :=
  let s := live
  let s := withCmd s v_549
  let s := s.setPState 0 0
  let s := s.put (Fd.PPW_P_CFG_EN 0) 0
  let s := s.put (Fd.PPW_P_STATUS_DB 0) 0
  s.editPp 0 fun x => { x with attached := false }
def v_551 : Cmd := cmdOf 0x0501 [0, 2, 0, 1, 0, 0, 0, 0, 0, 0, 0, 5]
def w_552 : State := withCmd live v_551
def v_553 : Cmd := { (cmdOf 0x0502 [0, 1, 50, 0]) with pend := false }
def w_554 : State :=
  let s := live
  let s := withCmd s v_553
  let s := s.editPp 0 fun x => { x with attached := true }
  let s := s.put (Fd.PPW_P_STATUS_PROLE 0) (b2n false)
  let s := s.setPState 0 10
  let s := s.editPp 0 fun x => { x with tx := none }
  let s := s.editPp 0 fun x => { x with cut := false }
  s.setStage (if true then .running else .held)
def v_555 : Cmd := { (cmdOf 0x0503 []) with pend := false }
def w_556 : State :=
  let s := live
  let s := withCmd s v_555
  let s := s.put (Fd.PPW_P_CFG_ROLE_CAP 0) 2
  let s := s.editPp 0 fun x => { x with partnerDrp := true }
  let s := s.setPState 0 6
  let s := s.editPp 0 fun x => { x with tx := none }
  let s := s.editPp 0 fun x => { x with cut := false }
  s.setStage (if true then .running else .held)
def v_557 : Cmd := cmdOf 0x0504 []
def w_558 : State :=
  let s := live
  let s := withCmd s v_557
  s.setPState 0 15
def w_559 : State :=
  let s := live
  let s := withCmd s v_557
  let s := s.editPp 0 fun x => { x with attached := true }
  s.editPp 0 fun x => { x with cmds := [] }
def v_560 : Cmd := cmdOf 0x0505 [0, 120, 10, 2, 44, 1, 50, 0, 20]
def w_561 : State := withCmd live v_560
def v_562 : Cmd := cmdOf 0x0505 [0, 120, 10, 2, 100, 0, 50, 0, 20]
def w_563 : State := withCmd live v_562
def w_564 : State :=
  let s := live
  let s := withCmd s v_560
  s.setPState 0 3
def v_565 : Cmd := cmdOf 0x0506 [0, 0]
def w_566 : State :=
  let s := live
  let s := withCmd s v_565
  let s := s.editPp 0 fun x => { x with cmds := [] }
  s.put (Fd.LNK_STATUS_STATE 0) 0
def v_567 : Cmd := cmdOf 0x0506 [0, 1]
def w_568 : State :=
  let s := live
  let s := withCmd s v_567
  s.setPState 0 0

/-- The hypotheses of the clauses of PowerCommands are met. -/
theorem witness_PowerCommands :
    (0 < 8 ∧ w_546.Ready 1 0x0500 v_545 ∧ 0 < w_546.ports) ∧
    (7 < 8 ∧ w_548.Ready 1 0x0500 v_547 ∧ w_548.ports ≤ 7) ∧
    (0 < 8 ∧ w_550.Ready 1 0x0501 v_549 ∧ 0 < w_550.ports ∧ v_549.u 1 1 = 0 ∧ v_549.u 2 1 = 1 ∧ v_549.u 3 1 = 1 ∧ v_549.u 4 1 = 0 ∧
      v_549.u 6 2 ≤ 511 ∧ badPdo (v_549.u 8 4) = false ∧ pdoVolt (v_549.u 8 4) = 0 ∧ w_550.pState 0 = 0 ∧ w_550.on (Fd.PPW_P_CFG_EN 0) = false ∧
      w_550.on (Fd.PPW_P_STATUS_DB 0) = false ∧ (w_550.pp 0).attached = false) ∧
    (0 < 8 ∧ w_552.Ready 1 0x0501 v_551 ∧ 0 < w_552.ports ∧ v_551.u 1 1 = 2 ∧ v_551.u 3 1 = 1 ∧ v_551.u 4 1 = 0 ∧ v_551.u 6 2 ≤ 511 ∧
      badPdo (v_551.u 8 4) = false ∧ pdoVolt (v_551.u 8 4) = 0) ∧
    (0 < 8 ∧ w_554.Ready 1 0x0502 v_553 ∧ 0 < w_554.ports ∧ v_553.pend = false ∧ v_553.u 1 1 ≠ 0 ∧ v_553.u 1 1 ≤ 4 ∧ v_553.u 2 2 ≠ 0 ∧
      v_553.u 2 2 ≤ 500 ∧ (w_554.pp 0).attached = true ∧ w_554.isSource 0 = false ∧ w_554.pState 0 = 10 ∧ (w_554.pp 0).tx = none ∧
      (w_554.pp 0).cut = false ∧ w_554.dieRuns = true ∧ v_553.mbx < 64) ∧
    (0 < 8 ∧ w_556.Ready 1 0x0503 v_555 ∧ 0 < w_556.ports ∧ v_555.pend = false ∧ w_556.roleCap 0 = 2 ∧ (w_556.pp 0).partnerDrp = true ∧
      (w_556.pState 0 = 6 ∨ w_556.pState 0 = 10) ∧ (w_556.pp 0).tx = none ∧ (w_556.pp 0).cut = false ∧ w_556.dieRuns = true ∧ v_555.mbx < 64) ∧
    (0 < 8 ∧ w_558.Ready 1 0x0504 v_557 ∧ 0 < w_558.ports ∧ w_558.pState 0 = 15) ∧
    (0 < 8 ∧ w_559.Ready 1 0x0504 v_557 ∧ 0 < w_559.ports ∧ w_559.pState 0 < 11 ∧ (w_559.pp 0).attached = true ∧ (w_559.pp 0).cmds = []) ∧
    (0 < 8 ∧ w_561.Ready 1 0x0505 v_560 ∧ 0 < w_561.ports ∧ 105 ≤ v_560.u 1 1 ∧ v_560.u 1 1 ≤ 150 ∧ 5 ≤ v_560.u 2 1 ∧ v_560.u 2 1 ≤ 100 ∧
      v_560.u 3 1 ≤ 7 ∧ 10 ≤ v_560.u 6 2 ∧ v_560.u 6 2 ≤ 200 ∧ 1 ≤ v_560.u 8 1 ∧ v_560.u 8 1 ≤ 100 ∧ 200 ≤ v_560.u 4 2 ∧ v_560.u 4 2 ≤ 1000 ∧
      w_561.pState 0 ≤ 1) ∧
    (0 < 8 ∧ w_563.Ready 1 0x0505 v_562 ∧ 0 < w_563.ports ∧ 105 ≤ v_562.u 1 1 ∧ v_562.u 1 1 ≤ 150 ∧ 5 ≤ v_562.u 2 1 ∧ v_562.u 2 1 ≤ 100 ∧
      v_562.u 3 1 ≤ 7 ∧ 10 ≤ v_562.u 6 2 ∧ v_562.u 6 2 ≤ 200 ∧ 1 ≤ v_562.u 8 1 ∧ v_562.u 8 1 ≤ 100 ∧ v_562.u 4 2 < 200) ∧
    (0 < 8 ∧ w_564.Ready 1 0x0505 v_560 ∧ 0 < w_564.ports ∧ 105 ≤ v_560.u 1 1 ∧ v_560.u 1 1 ≤ 150 ∧ 5 ≤ v_560.u 2 1 ∧ v_560.u 2 1 ≤ 100 ∧
      v_560.u 3 1 ≤ 7 ∧ 10 ≤ v_560.u 6 2 ∧ v_560.u 6 2 ≤ 200 ∧ 1 ≤ v_560.u 8 1 ∧ v_560.u 8 1 ≤ 100 ∧ 200 ≤ v_560.u 4 2 ∧ v_560.u 4 2 ≤ 1000 ∧
      v_560.u 4 2 ≠ w_564.get (Fd.PPW_P_SENSE_SENSE 0) ∧ 1 < w_564.pState 0) ∧
    (0 < 8 ∧ w_566.Ready 1 0x0506 v_565 ∧ 0 < w_566.ports ∧ v_565.u 1 1 = 0 ∧ (w_566.pp 0).cmds = [] ∧ w_566.linkState 0 = 0) ∧
    (0 < 8 ∧ w_568.Ready 1 0x0506 v_567 ∧ 0 < w_568.ports ∧ v_567.u 1 1 = 1 ∧ w_568.pState 0 = 0) := by
  refine ⟨?_, ?_, ?_, ?_, ?_, ?_, ?_, ?_, ?_, ?_, ?_, ?_, ?_⟩ <;> decide

def w_569 : State :=
  let s := live
  let s := s.put Fd.MNS_CTRL_EN 1
  s.put Fd.MNS_STATUS_FREQ_LOCK (b2n false)
def w_570 : State := live.put Fd.MNS_STATUS_FREQ_LOCK (b2n false)
def w_571 : State :=
  let s := live
  let s := s.put Fd.MNS_STATUS_FREQ_LOCK (b2n true)
  let s := { s with mains := { s.mains with wiring := 0 } }
  let s := s.putBit Reg.MNS_CTRL (4 + 0) true
  { s with mains := { s.mains with marks := [5, 0] } }
def w_572 : State := { live with mains := { live.mains with rise := none } }
def w_573 : State :=
  let s := live
  let s := { s with mains := { s.mains with rise := some 0 } }
  let s := s.put Fd.MNS_STATUS_FREQ_LOCK (b2n false)
  { s with mains := { s.mains with good := 3 } }
def w_574 : State :=
  let s := live
  let s := { s with mains := { s.mains with rise := some 0 } }
  s.put Fd.MNS_STATUS_FREQ_LOCK (b2n false)
def w_575 : State :=
  let s := live
  let s := { s with mains := { s.mains with rise := some 0 } }
  s.put Fd.MNS_STATUS_FREQ_LOCK (b2n true)
def w_576 : State := { live with mains := { live.mains with tenCyc := 12 } }
def w_577 : State :=
  let s := live
  let s := { s with mains := { s.mains with secN := 5 } }
  let s := { s with mains := { s.mains with secA := some 1 } }
  { s with mains := { s.mains with secJump := s.time.jumps } }
def w_578 : State := { live with mains := { live.mains with secJump := 9 } }
def w_579 : State := { live with mains := { live.mains with cal := some default_MainsCal } }
def v_580 : MainsCal := { default_MainsCal with cmd := 1, cycles := 50 }
def w_581 : State :=
  let s := live
  let s := withCmd s (cmdOf 0 [])
  let s := { s with mains := { s.mains with cal := some v_580 } }
  withCmd s (cmdOf 0 [])
def v_582 : MainsCal := { default_MainsCal with cmd := 1, cycles := 50, vref := 1000, groups := [(10 ^ 12, 1)] }
def w_583 : State :=
  let s := live
  let s := withCmd s (cmdOf 0 [])
  let s := { s with mains := { s.mains with cal := some v_582 } }
  let s := withCmd s (cmdOf 0 [])
  s.setMains (s.mains.putCh 0 { s.mains.ch 0 with udin := 1000, fsv := 1000 })
def v_584 : Cmd := cmdOf 0x0600 [0, 0, 0, 1, 252, 8, 64, 31]
def w_585 : State :=
  let s := live
  let s := withCmd s v_584
  { s with mains := { s.mains with cal := none } }
def v_586 : Cmd := cmdOf 0x0600 [0, 0, 0, 1, 252, 8, 100, 0]
def w_587 : State := withCmd live v_586
def v_588 : Cmd := cmdOf 0x0601 []
def w_589 : State := withCmd live v_588
def v_590 : Cmd := cmdOf 0x0602 [40, 35, 248, 42, 244, 1, 200, 0, 232, 3, 232, 3]
def w_591 : State := withCmd live v_590
def v_592 : Cmd := cmdOf 0x0602 [172, 38, 116, 39, 244, 1, 244, 1, 232, 3, 232, 3]
def w_593 : State := withCmd live v_592
def v_594 : Cmd := cmdOf 0x0603 [0, 0, 252, 8]
def w_595 : State :=
  let s := live
  let s := withCmd s v_594
  let s := s.putBit Reg.MNS_CTRL (4 + (v_594.u 0 1)) true
  let s := s.put Fd.MNS_STATUS_FREQ_LOCK (b2n true)
  let s := { s with mains := { s.mains with exc := none } }
  let s := s.putBit Reg.MNS_CTRL 4 true
  s.setMains (s.mains.putCh 0 { s.mains.ch 0 with udin := 2300 })
def v_596 : Cmd := cmdOf 0x0603 []
def w_597 : State :=
  let s := live
  let s := withCmd s v_596
  s.putBit Reg.MNS_CTRL (4 + (v_596.u 0 1)) false

/-- The hypotheses of the clauses of MainsObserver are met. -/
theorem witness_MainsObserver :
    ((w_569.advance 1).mnsLocked = false) ∧
    ((w_570.advance 1).mnsLocked = false) ∧
    ((w_571.advance 1).mnsLocked = true ∧ (w_571.advance 1).mains.wiring = 0 ∧ (w_571.advance 1).mnsEn 0 = true ∧
      (w_571.advance 1).mains.marks[1]? = some 0) ∧
    ((w_572.advance 1).mains.rise = none) ∧
    ((w_573.advance 8000000).mains.rise = some 0 ∧ (w_573.advance 8000000).mnsLocked = false ∧
      cycleGood (w_573.advance 8000000).mnsNom ((w_573.advance 8000000).nowNsAll - 0) = true ∧ (w_573.advance 8000000).mains.good = 3) ∧
    ((w_574.advance 8000000).mains.rise = some 0 ∧ (w_574.advance 8000000).mnsLocked = false ∧
      cycleGood (w_574.advance 8000000).mnsNom ((w_574.advance 8000000).nowNsAll - 0) = true ∧ (w_574.advance 8000000).mains.good < 3) ∧
    ((w_574.advance 1).mains.rise = some 0 ∧ (w_574.advance 1).mnsLocked = false ∧
      cycleGood (w_574.advance 1).mnsNom ((w_574.advance 1).nowNsAll - 0) = false) ∧
    ((w_575.advance 1).mains.rise = some 0 ∧ (w_575.advance 1).mnsLocked = true ∧
      cycleGood (w_575.advance 1).mnsNom ((w_575.advance 1).nowNsAll - 0) = false) ∧
    ((w_575.advance 8000000).mains.rise = some 0 ∧ (w_575.advance 8000000).mnsLocked = true ∧
      cycleGood (w_575.advance 8000000).mnsNom ((w_575.advance 8000000).nowNsAll - 0) = true) ∧
    (live.mains.tenCyc < (if live.mnsNom = 60 then 12 else 10)) ∧
    ((if w_576.mnsNom = 60 then 12 else 10) ≤ w_576.mains.tenCyc) ∧
    (w_577.mains.secA = some 1 ∧ w_577.mains.secN ≠ 0 ∧ w_577.mains.secJump = w_577.time.jumps) ∧
    (w_578.mains.secJump ≠ w_578.time.jumps) ∧
    (live.reach .h0 .manager = .ok) ∧
    (w_579.mains.cal = some default_MainsCal ∧ default_MainsCal.cycles < 50) ∧
    (w_581.mains.cal = some v_580 ∧ v_580.cycles = 50 ∧ w_581.findCmd v_580.cmd = some (cmdOf 0 []) ∧
      (v_580.groups.foldl (fun r g => (r.1 + g.1, r.2 + g.2)) (0, 0)).1 = 0) ∧
    (w_583.mains.cal = some v_582 ∧ v_582.cycles = 50 ∧ w_583.findCmd v_582.cmd = some (cmdOf 0 []) ∧ 0 < (w_583.mains.ch v_582.ch).fsv ∧
      let all := v_582.groups.foldl (fun r g => (r.1 + g.1, r.2 + g.2)) (0, 0); 0 < all.1 ∧
      all.1 * ((w_583.mains.ch v_582.ch).fsv * (w_583.mains.ch v_582.ch).fsv) = v_582.vref * v_582.vref * 10 ^ 12 * all.2 ∧
      (∀ g, g ∈ v_582.groups → ({ w_583.mains.ch v_582.ch with ppm := 0 } : MainsCh).mag g.1 g.2 = 10000)) ∧
    (w_585.Ready 1 0x0600 v_584 ∧ v_584.u 0 1 = 0 ∧ v_584.u 1 1 ≤ 1 ∧ v_584.u 2 1 = 0 ∧ v_584.u 3 1 = 1 ∧ 100 ≤ v_584.udin 0 ∧
      v_584.udin 0 ≤ 10000 ∧ 8 * (v_584.udin 0 * v_584.udin 0) ≤ v_584.fsv 0 * v_584.fsv 0 ∧ w_585.mains.cal = none) ∧
    (w_587.Ready 1 0x0600 v_586 ∧ v_586.u 0 1 = 0 ∧ v_586.u 1 1 ≤ 1 ∧ v_586.u 2 1 = 0 ∧ v_586.u 3 1 = 1 ∧ 100 ≤ v_586.udin 0 ∧
      v_586.udin 0 ≤ 10000 ∧ v_586.fsv 0 * v_586.fsv 0 < 8 * (v_586.udin 0 * v_586.udin 0)) ∧
    (w_589.Ready 1 0x0601 v_588) ∧
    (w_591.Ready 1 0x0602 v_590 ∧ 5000 ≤ v_590.u 0 2 ∧ v_590.u 0 2 ≤ 9900 ∧ 10100 ≤ v_590.u 2 2 ∧ v_590.u 2 2 ≤ 20000 ∧ 100 ≤ v_590.u 4 2 ∧
      v_590.u 4 2 ≤ 1000 ∧ 10 ≤ v_590.u 6 2 ∧ v_590.u 6 2 ≤ 500 ∧ 100 ≤ v_590.u 8 2 ∧ v_590.u 8 2 ≤ 5000 ∧ 100 ≤ v_590.u 10 2 ∧
      v_590.u 10 2 ≤ 5000 ∧ v_590.u 4 2 + v_590.u 6 2 < v_590.u 0 2 ∧ v_590.u 0 2 + 2 * v_590.u 6 2 < v_590.u 2 2) ∧
    (w_593.Ready 1 0x0602 v_592 ∧ 5000 ≤ v_592.u 0 2 ∧ v_592.u 0 2 ≤ 9900 ∧ 10100 ≤ v_592.u 2 2 ∧ v_592.u 2 2 ≤ 20000 ∧ 100 ≤ v_592.u 4 2 ∧
      v_592.u 4 2 ≤ 1000 ∧ 10 ≤ v_592.u 6 2 ∧ v_592.u 6 2 ≤ 500 ∧ 100 ≤ v_592.u 8 2 ∧ v_592.u 8 2 ≤ 5000 ∧ 100 ≤ v_592.u 10 2 ∧
      v_592.u 10 2 ≤ 5000 ∧ v_592.u 2 2 ≤ v_592.u 0 2 + 2 * v_592.u 6 2) ∧
    (w_595.Ready 1 0x0603 v_594 ∧ v_594.u 0 1 ≤ 3 ∧ w_595.mnsEn (v_594.u 0 1) = true ∧ w_595.mnsLocked = true ∧ w_595.mains.busy = false ∧
      w_595.mains.exc = none ∧ (w_595.mains.ch (v_594.u 0 1)).udin ≤ 2 * v_594.u 2 2 ∧
      5 * v_594.u 2 2 ≤ 6 * (w_595.mains.ch (v_594.u 0 1)).udin ∧ v_594.mbx < 64) ∧
    (w_597.Ready 1 0x0603 v_596 ∧ v_596.u 0 1 ≤ 3 ∧ w_597.mnsEn (v_596.u 0 1) = false) := by
  refine ⟨?_, ?_, ?_, ?_, ?_, ?_, ?_, ?_, ?_, ?_, ?_, ?_, ?_, ?_, ?_, ?_, ?_, ?_, ?_, ?_, ?_, ?_, ?_, ?_⟩ <;> decide

def w_598 : State :=
  let s := live
  let s := s.put Fd.PAR_CTRL_MODE 2
  let s := s.put Fd.PAR_CTRL_COUNT 4
  let s := if 1 = 0 then s.put Fd.PAR_LINK0_STATE 2 else s.put Fd.PAR_LINK1_STATE 2
  let s := s.put Fd.PAR_CTRL_MODE (b2n true * 2)
  s.put Fd.PAR_STATUS_PARTNER 0
def w_599 : State :=
  let s := live
  let s := if 1 = 0 then s.put Fd.PAR_LINK0_STATE 2 else s.put Fd.PAR_LINK1_STATE 2
  let s := s.put Fd.PAR_CTRL_MODE (b2n false * 2)
  let s := s.put Fd.PAR_CTRL_MODE 1
  s.put Fd.PAR_CTRL_COUNT 4
def w_600 : State :=
  let s := live
  let s := s.put Fd.PAR_CTRL_MODE (b2n true * 2)
  s.put Fd.PAR_CTRL_AUTO_TAKEOVER 0
def w_601 : State :=
  let s := live
  let s := s.put Fd.PAR_CTRL_MODE 2
  let s := s.put Fd.PAR_CTRL_COUNT 4
  let s := s.putDev 5 (some { default_Device with link := { port := 1, hport := 0, hub := 0 }, tier := 1, isHub := true, dual := true, covered := true })
  let s := s.put Fd.PAR_STATUS_JOINED 1
  let s := { s with pair := { s.pair with moves := [{ hub := 5, target := 9, tries := 0, sel := false, told := false }] } }
  let s := s.put Fd.PAR_CTRL_MODE (b2n true * 2)
  let s := s.put Fd.PAR_CTRL_AUTO_TAKEOVER 0
  s.put Fd.PAR_STATUS_JOINED 1
def w_602 : State :=
  let s := live
  let s := s.putDev 5 (some { default_Device with link := { port := 1, hport := 0, hub := 0 }, tier := 1, isHub := true, dual := true, covered := true })
  let s := s.put Fd.PAR_STATUS_JOINED 1
  let s := s.put Fd.PAR_CTRL_MODE (b2n true * 2)
  let s := s.put Fd.PAR_CTRL_AUTO_TAKEOVER 1
  s.put Fd.PAR_STATUS_JOINED 1
def w_603 : State := live.put Fd.PAR_CTRL_MODE (b2n false * 2)
def w_604 : State :=
  let s := live
  let s := s.put Fd.PAR_CTRL_MODE 2
  let s := s.put Fd.PAR_CTRL_COUNT 4
  let s := s.put Fd.PAR_STATUS_ACTIVE_SRC 1
  let s := if 1 = 0 then s.put Fd.PAR_LINK0_STATE 2 else s.put Fd.PAR_LINK1_STATE 2
  let s := s.put Fd.PAR_STATUS_SOURCE (b2n false)
  let s := { s with pair := { s.pair with usedTime := false } }
  let s := s.put Fd.TIM_STATUS_STATE 4
  { s with pair := { s.pair with holds := false } }
def w_605 : State :=
  let s := live
  let s := s.put Fd.PAR_CTRL_MODE 2
  let s := s.put Fd.PAR_CTRL_COUNT 4
  let s := s.put Fd.PAR_STATUS_ACTIVE_SRC 1
  let s := if 1 = 0 then s.put Fd.PAR_LINK0_STATE 2 else s.put Fd.PAR_LINK1_STATE 2
  let s := s.put Fd.PAR_STATUS_SOURCE (b2n false)
  let s := { s with pair := { s.pair with usedTime := false } }
  let s := s.put Fd.TIM_STATUS_STATE 4
  let s := { s with pair := { s.pair with holds := false } }
  { s with pair := { s.pair with fresh := true } }
def w_606 : State :=
  let s := live
  let s := s.put Fd.PAR_CTRL_MODE 2
  let s := s.put Fd.PAR_CTRL_COUNT 4
  let s := s.put Fd.PAR_STATUS_ACTIVE_SRC 1
  let s := if 1 = 0 then s.put Fd.PAR_LINK0_STATE 2 else s.put Fd.PAR_LINK1_STATE 2
  let s := s.put Fd.PAR_STATUS_SOURCE (b2n false)
  let s := { s with pair := { s.pair with usedTime := false } }
  let s := s.put Fd.TIM_STATUS_STATE 4
  let s := { s with pair := { s.pair with holds := false } }
  let s := { s with pair := { s.pair with fresh := false } }
  let s := s.put Fd.PAR_CTRL_JOIN 1
  { s with pair := { s.pair with joinRun := 15 } }
def w_607 : State :=
  let s := live
  let s := s.put Fd.PAR_CTRL_MODE 2
  let s := s.put Fd.PAR_CTRL_COUNT 4
  let s := s.put Fd.PAR_STATUS_ACTIVE_SRC 1
  let s := if 1 = 0 then s.put Fd.PAR_LINK0_STATE 2 else s.put Fd.PAR_LINK1_STATE 2
  let s := s.put Fd.PAR_STATUS_SOURCE (b2n false)
  let s := { s with pair := { s.pair with usedTime := false } }
  s.put Fd.TIM_STATUS_STATE 4
def w_608 : State := live.put Fd.TIM_STATUS_STATE 4
def w_609 : State :=
  let s := live
  let s := s.put Fd.PAR_CTRL_MODE 2
  let s := s.put Fd.PAR_CTRL_COUNT 4
  let s := s.put Fd.PAR_CTRL_TIME_SRC0 1
  { s with pair := { s.pair with heardPrev := [1] } }
def w_610 : State := { live with time := { live.time with boundary := 5 } }
def v_611 : Device := { default_Device with covered := false, link := { port := 1, hport := 0, hub := 0 }, tier := 1, owner := 1 }
def w_612 : State :=
  let s := live
  let s := s.put Fd.PAR_CTRL_MODE 2
  let s := s.put Fd.PAR_CTRL_COUNT 4
  let s := s.put Fd.PAR_LINK1_STATE 2
  let s := s.put Fd.PAR_CTRL_MODE (b2n true * 2)
  s.putDev default_MirrorDev.addr (some v_611)
def v_613 : Device := { default_Device with covered := true, link := { port := 1, hport := 0, hub := 0 }, tier := 1, owner := 1, eps := [{ num := 1, dirIn := true, typ := 1, words := 8, minK := 0, hist := 0, fmt := 0 }] }
def v_614 : EpDesc := { default_EpDesc with num := 1, dirIn := true, typ := 1, words := 8 }
def w_615 : State :=
  let s := live
  let s := s.put Fd.PAR_CTRL_MODE 2
  let s := s.put Fd.PAR_CTRL_COUNT 4
  let s := s.put Fd.PAR_LINK1_STATE 2
  let s := s.put Fd.PAR_CTRL_MODE (b2n true * 2)
  s.putDev (17 / 16) (some v_613)
def v_616 : Device := { default_Device with covered := true, link := { port := 1, hport := 0, hub := 0 }, tier := 1, owner := 1 }
def v_617 : Ctx := { default_Ctx with state := 2, valid := true, inst := 1, entry := 1, maxWords := 64 }
def w_618 : State :=
  let s := live
  let s := s.put Fd.PAR_CTRL_MODE 2
  let s := s.put Fd.PAR_CTRL_COUNT 4
  let s := s.put Fd.PAR_LINK1_STATE 2
  let s := s.put Fd.PAR_CTRL_MODE (b2n true * 2)
  let s := s.putDev (1 / 16) (some v_616)
  s.putCtxEnt 1 (some { (s.ctxEnt 1).getD default_CtxEnt with ctx := v_617, st := .clean })
def w_619 : State :=
  let s := live
  let s := s.put Fd.PAR_CTRL_MODE 2
  let s := s.put Fd.PAR_CTRL_COUNT 4
  let s := s.put Fd.PAR_LINK1_STATE 2
  let s := if 1 = 0 then s.put Fd.PAR_LINK0_STATE 2 else s.put Fd.PAR_LINK1_STATE 2
  let s := s.put Fd.PAR_CTRL_MODE (b2n false * 2)
  s.put Fd.PAR_CTRL_MODE 2
def w_620 : State :=
  let s := live
  let s := s.put Fd.PAR_CTRL_MODE 2
  let s := s.put Fd.PAR_CTRL_COUNT 4
  s.put Fd.PAR_LINK1_STATE 2
def w_621 : State :=
  let s := live
  let s := s.put Fd.PAR_CTRL_MODE 2
  let s := s.put Fd.PAR_CTRL_COUNT 4
  let s := s.put Fd.PAR_LINK1_STATE 2
  let s := s.putDev 5 (some { default_Device with link := { port := 1, hport := 0, hub := 0 }, tier := 1, isHub := true, dual := true, covered := true })
  { s with pair := { s.pair with moves := [] } }
def w_622 : State :=
  let s := live
  let s := s.put Fd.PAR_CTRL_MODE 2
  let s := s.put Fd.PAR_CTRL_COUNT 4
  let s := s.put Fd.PAR_LINK1_STATE 2
  let s := s.putDev 5 (some { default_Device with link := { port := 1, hport := 0, hub := 0 }, tier := 1, isHub := true, dual := true, covered := true })
  let s := s.put Fd.PAR_STATUS_JOINED 1
  s.put Fd.PAR_STATUS_JOINED 1
def w_623 : State :=
  let s := live
  let s := s.put Fd.PAR_CTRL_MODE 2
  let s := s.put Fd.PAR_CTRL_COUNT 4
  let s := s.put Fd.PDM_STATE_TPHY 3
  s.put Fd.MBX_FW_STATE_MODE 0
def w_624 : State :=
  let s := live
  let s := s.put Fd.PAR_CTRL_MODE 2
  let s := s.put Fd.PAR_CTRL_COUNT 4
  let s := s.put Fd.PDM_STATE_TPHY 3
  let s := s.put Fd.MBX_FW_STATE_MODE 0
  if 1 = 0 then s.put Fd.PAR_LINK0_STATE 2 else s.put Fd.PAR_LINK1_STATE 2
def w_625 : State :=
  let s := live
  let s := s.put Fd.PAR_CTRL_MODE 2
  let s := s.put Fd.PAR_CTRL_COUNT 4
  let s := s.put Fd.PDM_STATE_TPHY 3
  let s := s.put Fd.MBX_FW_STATE_MODE 0
  if 1 = 0 then s.put Fd.PAR_LINK0_STATE 0 else s.put Fd.PAR_LINK1_STATE 0

/-- The hypotheses of the clauses of PairRing are met. -/
theorem witness_PairRing :
    (1 ≤ 1 ∧ w_598.parMode ≠ 0 ∧ w_598.sadState 1 = 2 ∧ 1 < w_598.parCount ∧ 1 ≠ w_598.ctrlNo ∧ 1 = w_598.partnerNo ∧ w_598.paired = true ∧
      w_598.partner = 0 ∧ false = false ∧ 0 = w_598.frame ∧ 0 < 2 ^ 32) ∧
    (1 ≤ 1 ∧ w_599.parMode ≠ 0 ∧ w_599.sadState 1 = 2 ∧ 1 < w_599.parCount ∧ 1 ≠ w_599.ctrlNo ∧ w_599.paired = false ∧
      1 % 2 ^ 32 ≠ w_599.frame) ∧
    (w_600.paired = true ∧ (w_600.pair.heard.any fun x => x.2 == w_600.partnerNo) = false ∧ w_600.partner ≤ 1 ∧
      w_600.on Fd.PAR_CTRL_AUTO_TAKEOVER = false ∧ w_600.comingHubs = []) ∧
    (w_601.paired = true ∧ (w_601.pair.heard.any fun x => x.2 == w_601.partnerNo) = false ∧ w_601.partner ≤ 1 ∧
      w_601.on Fd.PAR_CTRL_AUTO_TAKEOVER = false ∧ w_601.on Fd.PAR_STATUS_JOINED = true ∧ w_601.comingHubs ≠ [] ∧ w_601.takingHubs = [] ∧
      (w_601.comingHubs.all fun h => (w_601.dualHubs true).contains h) = true) ∧
    (w_602.paired = true ∧ (w_602.pair.heard.any fun x => x.2 == w_602.partnerNo) = false ∧ w_602.partner ≤ 1 ∧
      w_602.on Fd.PAR_CTRL_AUTO_TAKEOVER = true ∧ w_602.on Fd.PAR_STATUS_JOINED = true ∧ w_602.dualHubs true ≠ [] ∧ w_602.takingHubs = []) ∧
    (w_603.paired = false) ∧
    (1 ≤ 1 ∧ w_604.parMode ≠ 0 ∧ w_604.sadState 1 = 2 ∧ 1 ≠ w_604.ctrlNo ∧ 1 = w_604.activeSrc ∧ w_604.isSource' = false ∧
      w_604.pair.usedTime = false ∧ w_604.discState = 4 ∧ w_604.pair.holds = false ∧ 2 * 1 ≤ w_604.parCount ∧ 1 ≠ 0) ∧
    (1 ≤ 1 ∧ w_605.parMode ≠ 0 ∧ w_605.sadState 1 = 2 ∧ 1 ≠ w_605.ctrlNo ∧ 1 = w_605.activeSrc ∧ w_605.isSource' = false ∧
      w_605.pair.usedTime = false ∧ w_605.discState = 4 ∧ w_605.pair.holds = false ∧ 2 * 1 ≤ w_605.parCount ∧ w_605.pair.fresh = true ∧
      1000 < (followErr 1 1 0 1).natAbs) ∧
    (1 ≤ 1 ∧ w_606.parMode ≠ 0 ∧ w_606.sadState 1 = 2 ∧ 1 ≠ w_606.ctrlNo ∧ 1 = w_606.activeSrc ∧ w_606.isSource' = false ∧
      w_606.pair.usedTime = false ∧ w_606.discState = 4 ∧ w_606.pair.holds = false ∧ 2 * 1 ≤ w_606.parCount ∧ w_606.pair.fresh = false ∧
      (followErr 0 0 0 0).natAbs ≤ 100 ∧ w_606.on Fd.PAR_CTRL_JOIN = true ∧ w_606.pair.joinRun = 15) ∧
    (1 ≤ 1 ∧ w_607.parMode ≠ 0 ∧ w_607.sadState 1 = 2 ∧ 1 ≠ w_607.ctrlNo ∧ 1 = w_607.activeSrc ∧ w_607.isSource' = false ∧
      w_607.pair.usedTime = false ∧ w_607.discState = 4 ∧ w_607.parCount < 2 * 3) ∧
    (live.sadState 1 ≠ 2) ∧
    ((w_608.advance 440000000).discState = 4 ∧ (w_608.advance 440000000).pair.lastMsg + 440000000 ≤ (w_608.advance 440000000).time.cyc) ∧
    ((live.advance 1).time.cyc < (live.advance 1).pair.lastMsg + 440000000) ∧
    (w_609.parMode ≠ 0 ∧ w_609.activeSrc ≠ 1 ∧ w_609.hears 1 = true ∧ w_609.time.boundary % 1000000000 = 0) ∧
    (w_610.time.boundary % 1000000000 ≠ 0) ∧
    (w_612.paired = true ∧ w_612.partnerLinkUp = true ∧ w_612.dev default_MirrorDev.addr = some v_611 ∧ v_611.covered = false) ∧
    (w_615.paired = true ∧ w_615.partnerLinkUp = true ∧ w_615.dev (17 / 16) = some v_613 ∧ w_615.epDesc (17 / 16) (17 % 16) = some v_614 ∧
      v_613.covered = true ∧ w_615.mirrorFits 17 1 1 1 = true) ∧
    (w_618.paired = true ∧ w_618.partnerLinkUp = true ∧ w_618.dev (1 / 16) = some v_616 ∧ v_616.covered = true ∧ w_618.ctx 1 = some v_617 ∧
      v_617.state = 2) ∧
    (1 ≤ 1 ∧ w_619.parMode ≠ 0 ∧ w_619.sadState 1 = 2 ∧ 3 ≠ w_619.ctrlNo ∧ (w_619.paired = false ∨ 3 ≠ w_619.partnerNo)) ∧
    ((live.sadState 1 ≠ 2 ∨ 0 = live.ctrlNo)) ∧
    (w_620.partnerLinked = true ∧ (([] : List Nat).filter fun h => (w_620.dualHubs true).contains h) = []) ∧
    (w_621.partnerLinked = true ∧ ([5].all fun h => (w_621.dualHubs true).contains h) = true ∧ w_621.pair.moves = [] ∧
      1 ≤ since32 7 w_621.frame ∧ since32 7 w_621.frame < 2 ^ 31) ∧
    (live.partnerLinked = false) ∧
    (w_622.partnerLinked = true ∧ 5 ∈ w_622.dualHubs true ∧ w_622.takingHubs = [] ∧ w_622.on Fd.PAR_STATUS_JOINED = true) ∧
    (w_620.partnerLinked = true) ∧
    (live.phyOn = false) ∧
    (1 ≤ 1 ∧ w_623.parMode ≠ 0 ∧ 1 < 64 ∧ w_623.phyOn = true ∧ (1 ≠ w_623.parCount ∨ 1 ≠ w_623.parMode ∨ 1 ≠ w_623.wantNeighbour 1)) ∧
    (1 ≤ 1 ∧ w_623.parMode ≠ 0 ∧ 1 < 64 ∧ w_623.phyOn = true ∧ 1 = w_623.wantNeighbour 1) ∧
    (1 ≤ 1 ∧ w_624.parMode ≠ 0 ∧ 1 < 64 ∧ w_624.phyOn = true ∧ w_624.sadState 1 = 2) ∧
    (1 ≤ 1 ∧ w_625.parMode ≠ 0 ∧ 1 < 64 ∧ w_625.phyOn = true ∧ w_625.sadState 1 = 0) := by
  refine ⟨?_, ?_, ?_, ?_, ?_, ?_, ?_, ?_, ?_, ?_, ?_, ?_, ?_, ?_, ?_, ?_, ?_, ?_, ?_, ?_, ?_, ?_, ?_, ?_, ?_, ?_, ?_, ?_, ?_, ?_⟩ <;> decide

def v_626 : Cmd := cmdOf 0x0800 [2, 4, 0, 0, 0, 0, 0, 0]
def w_627 : State :=
  let s := live
  let s := withCmd s v_626
  s.put Fd.TRE_STATUS_DEVICES 0
def v_628 : Cmd := cmdOf 0x0800 [0, 1, 0, 0, 0, 0, 0, 0]
def w_629 : State :=
  let s := live
  let s := withCmd s v_628
  s.put Fd.TRE_STATUS_DEVICES 0
def v_630 : Cmd := cmdOf 0x0800 [2, 5, 0, 0, 0, 0, 0, 0]
def w_631 : State :=
  let s := live
  let s := withCmd s v_630
  s.put Fd.TRE_STATUS_DEVICES 0
def v_632 : Cmd := cmdOf 0x0801 []
def w_633 : State := withCmd live v_632
def v_634 : Cmd := cmdOf 0x0802 []
def w_635 : State := withCmd live v_634
def w_636 : State :=
  let s := live
  let s := withCmd s v_634
  if 0 = 0 then s.put Fd.PAR_LINK0_STATE 2 else s.put Fd.PAR_LINK1_STATE 2
def v_637 : Cmd := cmdOf 0x0803 [0]
def w_638 : State :=
  let s := live
  let s := s.putDev 5 (some { default_Device with link := { port := 1, hport := 0, hub := 0 }, tier := 1, isHub := true, dual := true, covered := true })
  let s := s.put Fd.PAR_STATUS_JOINED 1
  let s := withCmd s v_637
  let s := s.put Fd.PAR_CTRL_MODE (b2n true * 2)
  let s := s.put Fd.PAR_STATUS_PARTNER 2
  s.put Fd.PAR_STATUS_JOINED 1
def w_639 : State :=
  let s := live
  let s := withCmd s v_637
  let s := s.put Fd.PAR_CTRL_MODE (b2n true * 2)
  let s := s.put Fd.PAR_STATUS_PARTNER 2
  s.put Fd.PAR_STATUS_JOINED 0
def v_640 : Cmd := { (cmdOf 0x0803 [0]) with target := some 1 }
def w_641 : State :=
  let s := live
  let s := s.put Fd.PAR_LINK1_STATE 2
  let s := withCmd s v_640
  let s := s.put Fd.PAR_CTRL_MODE (b2n true * 2)
  s.put Fd.PAR_STATUS_PARTNER 1
def w_642 : State :=
  let s := live
  let s := withCmd s v_637
  let s := s.put Fd.PAR_CTRL_MODE (b2n false * 2)
  s.put Fd.PAR_STATUS_PARTNER 0
def v_643 : Cmd := { (cmdOf 0x0804 [0]) with target := some 1 }
def w_644 : State :=
  let s := live
  let s := s.put Fd.PAR_LINK1_STATE 2
  let s := withCmd s v_643
  let s := s.put Fd.PAR_CTRL_MODE (b2n true * 2)
  let s := s.put Fd.PAR_STATUS_PARTNER 1
  s.put Fd.PAR_STATUS_JOINED 1
def v_645 : Cmd := cmdOf 0x0804 []
def w_646 : State := withCmd live v_645
def v_647 : Cmd := cmdOf 0x0805 []
def w_648 : State :=
  let s := live
  let s := s.putDev 5 (some { default_Device with link := { port := 1, hport := 0, hub := 0 }, tier := 1, isHub := true, dual := true, covered := true })
  let s := s.put Fd.PAR_STATUS_JOINED 1
  let s := withCmd s v_647
  let s := s.put Fd.PAR_CTRL_MODE (b2n true * 2)
  let s := s.put Fd.PAR_STATUS_PARTNER 2
  s.put Fd.PAR_STATUS_JOINED 1
def w_649 : State :=
  let s := live
  let s := withCmd s v_647
  let s := s.put Fd.PAR_CTRL_MODE (b2n false * 2)
  s.put Fd.PAR_STATUS_PARTNER 0

/-- The hypotheses of the clauses of PairCommands are met. -/
theorem witness_PairCommands :
    (w_627.Ready 1 0x0800 v_626 ∧ v_626.u 4 1 ≤ 1 ∧ w_627.get Fd.TRE_STATUS_DEVICES = 0 ∧ w_627.ctrlNo < v_626.u 1 1 ∧
      v_626.u 2 1 < v_626.u 1 1 ∧ v_626.u 3 1 < v_626.u 1 1 ∧ v_626.u 1 1 ≤ 64 ∧ (v_626.u 6 2 = 0 ∨ (v_626.u 6 2 ≤ v_626.u 8 2 ∧
      v_626.u 8 2 ≤ w_627.topAddr)) ∧ v_626.u 0 1 = 2 ∧ v_626.u 1 1 % 2 = 0) ∧
    (w_629.Ready 1 0x0800 v_628 ∧ v_628.u 4 1 ≤ 1 ∧ w_629.get Fd.TRE_STATUS_DEVICES = 0 ∧ w_629.ctrlNo < v_628.u 1 1 ∧
      v_628.u 2 1 < v_628.u 1 1 ∧ v_628.u 3 1 < v_628.u 1 1 ∧ v_628.u 1 1 ≤ 64 ∧ (v_628.u 6 2 = 0 ∨ (v_628.u 6 2 ≤ v_628.u 8 2 ∧
      v_628.u 8 2 ≤ w_629.topAddr)) ∧ v_628.u 0 1 = 0 ∧ v_628.u 1 1 = 1) ∧
    (w_631.Ready 1 0x0800 v_630 ∧ v_630.u 4 1 ≤ 1 ∧ w_631.get Fd.TRE_STATUS_DEVICES = 0 ∧ w_631.ctrlNo < v_630.u 1 1 ∧
      v_630.u 2 1 < v_630.u 1 1 ∧ v_630.u 3 1 < v_630.u 1 1 ∧ v_630.u 1 1 ≤ 64 ∧ (v_630.u 6 2 = 0 ∨ (v_630.u 6 2 ≤ v_630.u 8 2 ∧
      v_630.u 8 2 ≤ w_631.topAddr)) ∧ v_630.u 0 1 = 2 ∧ v_630.u 1 1 % 2 = 1) ∧
    (w_633.Ready 1 0x0801 v_632) ∧
    (w_635.Ready 1 0x0802 v_634 ∧ v_634.u 0 1 ≤ 63 ∧ w_635.sadState 0 ≠ 2 ∧ w_635.sadState 1 ≠ 2) ∧
    (w_636.Ready 1 0x0802 v_634 ∧ v_634.u 0 1 ≤ 63 ∧ w_636.sadState 0 = 2) ∧
    (w_638.ReadyNow 1 0x0803 v_637 ∧ v_637.mbx < 64 ∧ v_637.u 0 1 = 0 ∧ w_638.paired = true ∧ w_638.partner = 2 ∧ w_638.dualHubs true ≠ [] ∧
      w_638.takingHubs = [] ∧ w_638.on Fd.PAR_STATUS_JOINED = true) ∧
    (w_639.ReadyNow 1 0x0803 v_637 ∧ v_637.mbx < 64 ∧ v_637.u 0 1 = 0 ∧ w_639.paired = true ∧ w_639.partner = 2 ∧
      w_639.on Fd.PAR_STATUS_JOINED = false) ∧
    (w_641.ReadyNow 1 0x0803 v_640 ∧ v_640.mbx < 64 ∧ v_640.u 0 1 = 0 ∧ w_641.paired = true ∧ w_641.partner = 1 ∧ w_641.partnerLinkUp = true ∧
      since32 v_640.moveFrame w_641.frame = 1) ∧
    (w_642.ReadyNow 1 0x0803 v_637 ∧ v_637.u 0 1 = 0 ∧ w_642.paired = false ∧ w_642.partner = 0) ∧
    (w_644.ReadyNow 1 0x0804 v_643 ∧ v_643.mbx < 64 ∧ v_643.u 0 1 = 0 ∧ w_644.paired = true ∧ w_644.partner = 1 ∧ w_644.partnerLinkUp = true ∧
      w_644.on Fd.PAR_STATUS_JOINED = true ∧ since32 v_643.moveFrame w_644.frame = 1) ∧
    (w_646.ReadyNow 1 0x0804 v_645 ∧ since32 v_645.moveFrame w_646.frame ≠ 1) ∧
    (w_648.ReadyNow 1 0x0805 v_647 ∧ v_647.mbx < 64 ∧ w_648.paired = true ∧ w_648.partner = 2 ∧ w_648.dualHubs true ≠ [] ∧
      w_648.takingHubs = [] ∧ w_648.on Fd.PAR_STATUS_JOINED = true) ∧
    (w_649.ReadyNow 1 0x0805 v_647 ∧ w_649.paired = false ∧ w_649.partner = 0) := by
  refine ⟨?_, ?_, ?_, ?_, ?_, ?_, ?_, ?_, ?_, ?_, ?_, ?_, ?_, ?_⟩ <;> decide

def w_650 : State := { live with pdm := { live.pdm with en := 1 } }
def w_651 : State := { live with pdm := { live.pdm with lost := true } }
def w_652 : State := { live with pdm := { live.pdm with lost := false } }
def v_653 : DvsChange := { default_DvsChange with begun := false, target := 0, old := 2 }
def w_654 : State := { live with pdm := { live.pdm with dvs := some v_653 } }
def v_655 : DvsChange := { default_DvsChange with begun := false, target := 2, old := 0 }
def w_656 : State := { live with pdm := { live.pdm with dvs := some v_655 } }
def v_657 : DvsChange := { default_DvsChange with begun := false, cmd := none }
def w_658 : State := { live with pdm := { live.pdm with dvs := some v_657 } }
def v_659 : DvsChange := { default_DvsChange with begun := true, pg := none, cmd := none, target := 2, old := 0 }
def w_660 : State := { live with pdm := { live.pdm with dvs := some v_659 } }
def v_661 : DvsChange := { default_DvsChange with begun := true, pg := none }
def w_662 : State := { live with pdm := { live.pdm with dvs := some v_661 } }
def v_663 : DvsChange := { default_DvsChange with begun := true, pg := none, cmd := none }
def w_664 : State := { live with pdm := { live.pdm with dvs := some v_663 } }
def w_665 : State := { live with pdm := { live.pdm with dvs := none } }
def w_666 : State := { live with pair := { live.pair with pfi := some 0 } }
def w_667 : State :=
  let s := live
  let s := { s with pair := { s.pair with pfi := none } }
  let s := s.setStage (if false then .running else .held)
  { s with pdm := { s.pdm with waking := false } }
def w_668 : State :=
  let s := live
  let s := { s with pair := { s.pair with pfi := none } }
  s.setStage (if true then .running else .held)
def w_669 : State :=
  let s := live
  let s := { s with pair := { s.pair with pfi := none } }
  let s := s.setStage (if false then .running else .held)
  let s := { s with pdm := { s.pdm with waking := true } }
  { s with boot := { s.boot with stage := .pll } }
def w_670 : State := { live with pair := { live.pair with pfi := none } }
def w_671 : State :=
  let s := live
  let s := { s with pair := { s.pair with pfi := some 0 } }
  { s with pdm := { s.pdm with pfiStop := false } }
def w_672 : State :=
  let s := live
  let s := { s with pair := { s.pair with pfi := some 0 } }
  { s with pdm := { s.pdm with pfiStop := true } }

/-- The hypotheses of the clauses of SuppliesAndDvfs are met. -/
theorem witness_SuppliesAndDvfs :
    (1 ≤ 1 ∧ bitAt w_650.pdm.en (1 - 1) = true) ∧
    (1 ≤ 1 ∧ bitAt live.pdm.en (1 - 1) = false) ∧
    (w_651.pdm.lost = true ∧ w_651.t0 = true) ∧
    (w_652.pdm.lost = false) ∧
    (w_654.pdm.dvs = some v_653 ∧ v_653.begun = false ∧ v_653.target < v_653.old) ∧
    (w_656.pdm.dvs = some v_655 ∧ v_655.begun = false ∧ v_655.old < v_655.target ∧ v_655.target ≤ 2) ∧
    (w_658.pdm.dvs = some v_657 ∧ v_657.begun = false ∧ v_657.target = v_657.old ∧ v_657.cmd = none) ∧
    ((w_660.advance 1).pdm.dvs = some v_659 ∧ v_659.begun = true ∧ v_659.pg = none ∧ v_659.old < v_659.target ∧ v_659.cmd = none) ∧
    ((w_662.advance 1).pdm.dvs = some v_661 ∧ v_661.begun = true ∧ v_661.pg = none ∧ v_661.target ≤ v_661.old) ∧
    ((w_664.advance 1).pdm.dvs = some v_663 ∧ v_663.begun = true ∧ v_663.pg = none ∧ v_663.cmd = none) ∧
    ((w_665.advance 1).pdm.dvs = none) ∧
    ((w_666.advance 1).pair.pfi.isSome = true) ∧
    ((w_667.advance 1).pair.pfi = none ∧ (w_667.advance 1).dieRuns = false ∧ (w_667.advance 1).pdm.waking = false) ∧
    ((w_668.advance 1).pair.pfi = none ∧ (w_668.advance 1).dieRuns = true) ∧
    ((w_669.advance 1).pair.pfi = none ∧ (w_669.advance 1).dieRuns = false ∧ (w_669.advance 1).pdm.waking = true ∧
      (w_669.advance 1).boot.stage = .pll) ∧
    (w_670.pair.pfi = none) ∧
    (w_671.pair.pfi ≠ none ∧ w_671.pdm.pfiStop = false) ∧
    (w_672.pair.pfi ≠ none ∧ w_672.pdm.pfiStop = true) := by
  refine ⟨?_, ?_, ?_, ?_, ?_, ?_, ?_, ?_, ?_, ?_, ?_, ?_, ?_, ?_, ?_, ?_, ?_, ?_⟩ <;> decide

def v_673 : SleepDue := { default_SleepDue with cluOff := false }
def w_674 : State :=
  let s := live
  let s := { s with pdm := { s.pdm with due := some { frame := 0, depth := 0, cluOff := false } } }
  let s := s.put Fd.PDM_STATE_CLU 0
  let s := s.put Fd.PDM_STATE_PAIRB 0
  let s := { s with pdm := { s.pdm with keep := none } }
  let s := s.put Fd.PDM_DVFS_POINT 2
  let s := { s with fw := { s.fw with switch := none } }
  s.put Fd.SCR_STATUS_UNLOCKED 0
def w_675 : State :=
  let s := live
  let s := { s with pdm := { s.pdm with due := some { frame := 0, depth := 0, cluOff := false } } }
  let s := s.put Fd.PDM_STATE_PAIRB 3
  let s := { s with pdm := { s.pdm with keep := none } }
  let s := { s with fw := { s.fw with switch := none } }
  s.put Fd.PDM_DVFS_POINT 0
def w_676 : State :=
  let s := live
  let s := { s with pdm := { s.pdm with due := some { frame := 0, depth := 0, cluOff := false } } }
  let s := { s with pdm := { s.pdm with keep := none } }
  s.put Fd.SCR_STATUS_UNLOCKED 1
def v_677 : Keep := { default_Keep with door := true, clu := 3 }
def w_678 : State :=
  let s := live
  let s := { s with pdm := { s.pdm with keep := some v_677 } }
  let s := s.put Fd.PDM_STATE_DEVICE 1
  s.put Fd.PDM_DVFS_POINT v_677.point
def w_679 : State := { live with pdm := { live.pdm with keep := none } }
def v_680 : SleepDue := { default_SleepDue with depth := 1 }
def w_681 : State := { live with pdm := { live.pdm with due := some { frame := 0, depth := 1, cluOff := false } } }
def w_682 : State := { live with time := { live.time with sleepSnap := true }, boot := { live.boot with stage := .asleep } }
def w_683 : State :=
  let s := live
  let s := s.put Fd.PDM_WAKE_CFG_EN 1
  let s := s.putBit Reg.EVQ_WAKE_LATCH 0 true
  let s := { s with boot := { s.boot with vaoOk := true } }
  let s := { s with boot := { s.boot with stage := .asleep } }
  let s := { s with time := { s.time with sleepSnap := false } }
  let s := { s with pdm := { s.pdm with pfiStop := false } }
  { s with pair := { s.pair with pfi := none } }
def w_684 : State :=
  let s := live
  let s := s.put Fd.PDM_WAKE_CFG_EN 1
  let s := s.putBit Reg.EVQ_WAKE_LATCH 0 true
  let s := { s with pair := { s.pair with pfi := some 0 } }
  let s := { s with boot := { s.boot with vaoOk := true } }
  let s := { s with boot := { s.boot with stage := .asleep } }
  let s := { s with time := { s.time with sleepSnap := false } }
  { s with pdm := { s.pdm with pfiStop := false } }
def w_685 : State :=
  let s := live
  let s := s.put Fd.PDM_RTC_ALARM_ALARM_S 1
  let s := s.put Fd.TIM_RTC_PERIOD_PERIOD 2000000000
  { s with pdm := { s.pdm with alarmFrom := some 0 } }
def v_686 : Cmd := cmdOf 0x0900 []
def w_687 : State := withCmd live v_686
def v_688 : Cmd := cmdOf 0x0901 [6, 0]
def w_689 : State :=
  let s := live
  let s := withCmd s v_688
  s.put Fd.RED_STATUS_ACTIVE 0
def w_690 : State :=
  let s := live
  let s := withCmd s v_688
  s.put Fd.RED_STATUS_ACTIVE 1
def v_691 : Cmd := cmdOf 0x0901 [4]
def w_692 : State := withCmd live v_691
def v_693 : Cmd := cmdOf 0x0901 [5, 0]
def w_694 : State :=
  let s := live
  let s := withCmd s v_693
  { s with fw := { s.fw with switch := none } }
def v_695 : Cmd := cmdOf 0x0902 []
def w_696 : State :=
  let s := live
  let s := withCmd s v_695
  let s := { s with pdm := { s.pdm with dvs := none } }
  { s with pdm := { s.pdm with keep := none } }
def w_697 : State :=
  let s := live
  let s := { s with pdm := { s.pdm with dvs := some default_DvsChange } }
  withCmd s v_695
def v_698 : Cmd := { (cmdOf 0x0903 [1]) with target := some 1 }
def w_699 : State :=
  let s := live
  let s := s.put Fd.PDM_WAKE_CFG_EN 1
  let s := withCmd s v_698
  { s with pdm := { s.pdm with dvs := none } }
def v_700 : Cmd := { (cmdOf 0x0903 [1]) with target := some 7 }
def w_701 : State :=
  let s := live
  let s := s.put Fd.PDM_WAKE_CFG_EN 1
  let s := withCmd s v_700
  { s with pdm := { s.pdm with dvs := none } }
def v_702 : Cmd := cmdOf 0x0903 [1]
def w_703 : State :=
  let s := live
  let s := withCmd s v_702
  { s with pdm := { s.pdm with dvs := none } }
def v_704 : Cmd := cmdOf 0x0904 []
def w_705 : State := withCmd live v_704

/-- The hypotheses of the clauses of DomainsAndSleep are met. -/
theorem witness_DomainsAndSleep :
    (live.sleepDue 0 = none) ∧
    (w_674.sleepDue 0 = some v_673 ∧ w_674.pdm.keep = none ∧ w_674.get Fd.PDM_DVFS_POINT = 2 ∧ w_674.fw.switch = none ∧ v_673.cluOff = false ∧
      w_674.on Fd.SCR_STATUS_UNLOCKED = false ∧ (∀ p, p < w_674.ports → w_674.linkState p ≠ 7)) ∧
    (w_675.sleepDue 0 = some v_673 ∧ w_675.pdm.keep = none ∧ (∀ p, p < w_675.ports → w_675.linkState p ≠ 7) ∧ w_675.fw.switch = none ∧
      v_673.cluOff = false ∧ w_675.get Fd.PDM_DVFS_POINT = 0) ∧
    (w_676.sleepDue 0 = some v_673 ∧ w_676.pdm.keep = none ∧ w_676.on Fd.SCR_STATUS_UNLOCKED = true) ∧
    (w_678.pdm.keep = some v_677 ∧ w_678.get Fd.PDM_STATE_DEVICE = 1 ∧ v_677.door = true ∧ v_677.standby ≠ 3 ∧ v_677.clu = 3 ∧
      w_678.get Fd.PDM_DVFS_POINT = v_677.point ∧ (∀ p, p ∈ v_677.links → w_678.linkState p ≠ 9)) ∧
    (w_679.pdm.keep = none) ∧
    (live.sleepDue 1 = none) ∧
    (w_681.sleepDue 1 = some v_680) ∧
    (((w_682.advance 1).setTime { (w_682.advance 1).time with rtc := 1 % 2 ^ 48 }).time.sleepSnap = true ∧
      ((w_682.advance 1).setTime { (w_682.advance 1).time with rtc := 1 % 2 ^ 48 }).snapshotFree = true ∧
      ((w_682.advance 1).setTime { (w_682.advance 1).time with rtc := 1 % 2 ^ 48 }).boot.stage = .asleep) ∧
    (w_683.wakeFired ≠ 0 ∧ w_683.boot.vaoOk = true ∧ w_683.boot.stage = .asleep ∧ w_683.time.sleepSnap = false ∧ w_683.pdm.pfiStop = false ∧
      w_683.pair.pfi = none) ∧
    (w_684.wakeFired ≠ 0 ∧ w_684.boot.vaoOk = true ∧ w_684.boot.stage = .asleep ∧ w_684.time.sleepSnap = false ∧ w_684.pdm.pfiStop = false ∧
      w_684.pair.pfi ≠ none) ∧
    (live.wakeFired = 0) ∧
    (w_685.pdm.alarmFrom = some 0 ∧ w_685.get Fd.PDM_RTC_ALARM_ALARM_S ≠ 0 ∧
      w_685.get Fd.PDM_RTC_ALARM_ALARM_S * 1000000000 ≤ ((9999999999 % 2 ^ 48 + 2 ^ 48 - 0) % 2 ^ 48 * w_685.get Fd.TIM_RTC_PERIOD_PERIOD / 65536)) ∧
    (w_685.pdm.alarmFrom = some 0 ∧ w_685.get Fd.PDM_RTC_ALARM_ALARM_S ≠ 0 ∧
      ((1 % 2 ^ 48 + 2 ^ 48 - 0) % 2 ^ 48 * w_685.get Fd.TIM_RTC_PERIOD_PERIOD / 65536) < w_685.get Fd.PDM_RTC_ALARM_ALARM_S * 1000000000) ∧
    (w_687.Ready 1 0x0900 v_686) ∧
    (w_689.Ready 1 0x0901 v_688 ∧ v_688.u 0 1 = 6 ∧ (v_688.u 1 1 = 0 ∨ v_688.u 1 1 = 1) ∧ w_689.on Fd.RED_STATUS_ACTIVE = false) ∧
    (w_690.Ready 1 0x0901 v_688 ∧ v_688.u 0 1 = 6 ∧ v_688.u 1 1 = 0 ∧ w_690.on Fd.RED_STATUS_ACTIVE = true) ∧
    (w_692.Ready 1 0x0901 v_691 ∧ (v_691.u 0 1 = 4 ∨ v_691.u 0 1 = 5) ∧ domainFld (v_691.u 0 1) = w_692.activeDomain) ∧
    (w_694.Ready 1 0x0901 v_693 ∧ (v_693.u 0 1 = 4 ∨ v_693.u 0 1 = 5) ∧ domainFld (v_693.u 0 1) = w_694.standbyDomain ∧
      (v_693.u 1 1 = 0 ∨ v_693.u 1 1 = 1) ∧ w_694.fw.switch = none) ∧
    (w_696.Ready 1 0x0902 v_695 ∧ v_695.mbx < 64 ∧ v_695.u 0 1 ≤ 2 ∧ w_696.pdm.dvs = none ∧ w_696.pdm.keep = none) ∧
    (w_697.Ready 1 0x0902 v_695 ∧ v_695.u 0 1 ≤ 2 ∧ w_697.pdm.dvs ≠ none) ∧
    (w_699.ReadyNow 1 0x0903 v_698 ∧ v_698.u 0 1 = 1 ∧ w_699.pdm.dvs = none ∧ w_699.get Fd.PDM_WAKE_CFG_EN % 64 ≠ 0 ∧
      since32 (v_698.target.getD ((v_698.takeFrame + 2) % 2 ^ 32)) w_699.frame = 1) ∧
    (w_701.ReadyNow 1 0x0903 v_700 ∧ v_700.u 0 1 = 1 ∧ w_701.pdm.dvs = none ∧ w_701.get Fd.PDM_WAKE_CFG_EN % 64 ≠ 0 ∧
      since32 (v_700.target.getD ((v_700.takeFrame + 2) % 2 ^ 32)) w_701.frame ≠ 1) ∧
    (w_703.ReadyNow 1 0x0903 v_702 ∧ v_702.u 0 1 = 1 ∧ w_703.pdm.dvs = none ∧ w_703.get Fd.PDM_WAKE_CFG_EN % 64 = 0) ∧
    (w_705.Ready 1 0x0904 v_704 ∧ v_704.u 0 2 ≤ 0x1FF ∧ v_704.u 2 1 ≤ 1) := by
  refine ⟨?_, ?_, ?_, ?_, ?_, ?_, ?_, ?_, ?_, ?_, ?_, ?_, ?_, ?_, ?_, ?_, ?_, ?_, ?_, ?_, ?_, ?_, ?_, ?_, ?_⟩ <;> decide

def w_706 : State := { live with cairn := { live.cairn with frozenAt := some 0 } }
def w_707 : State :=
  let s := live
  let s := { s with cairn := { s.cairn with clearing := none } }
  let s := { s with cairn := { s.cairn with hold := [] } }
  let s := { s with cairn := { s.cairn with queue := [] } }
  { s with cairn := { s.cairn with flush := false } }
def w_708 : State :=
  let s := live
  let s := { s with cairn := { s.cairn with media := true, queue := [(s.cairnRec 6 1 2, 0)] } }
  let s := { s with cairn := { s.cairn with frozenAt := none } }
  let s := { s with cairn := { s.cairn with clearing := none } }
  { s with cairn := { s.cairn with media := true } }
def w_709 : State :=
  let s := live
  let s := { s with cairn := { s.cairn with frozenAt := none } }
  let s := { s with cairn := { s.cairn with clearing := none } }
  let s := { s with cairn := { s.cairn with hold := [] } }
  let s := { s with cairn := { s.cairn with queue := (default_CairnRec, 1) :: (([] : List (CairnRec × Nat))) } }
  let s := { s with cairn := { s.cairn with lostRun := 0 } }
  { s with cairn := { s.cairn with media := false } }
def w_710 : State :=
  let s := live
  let s := { s with cairn := { s.cairn with hold := [({ s.cairnRec 6 1 2 with ord := 0 }, 0)] } }
  let s := { s with cairn := { s.cairn with frozenAt := none } }
  let s := { s with cairn := { s.cairn with clearing := none } }
  let s := { s with cairn := { s.cairn with hold := (default_CairnRec, 1) :: (([] : List (CairnRec × Nat))) } }
  let s := { s with cairn := { s.cairn with holdLost := 0 } }
  { s with cairn := { s.cairn with media := false } }
def v_711 : CairnLast := { default_CairnLast with dirty := true }
def w_712 : State :=
  let s := live
  let s := { s with time := { s.time with frameNo := 1024 } }
  let s := { s with cairn := { s.cairn with last := some v_711 } }
  let s := { s with cairn := { s.cairn with frozenAt := none } }
  let s := { s with cairn := { s.cairn with clearing := none } }
  { s with cairn := { s.cairn with media := false } }
def v_713 : CairnLast := { default_CairnLast with dirty := false }
def w_714 : State := { live with cairn := { live.cairn with last := some v_713 } }
def w_715 : State :=
  let s := live
  let s := { s with cairn := { s.cairn with frozenAt := none } }
  { s with cairn := { s.cairn with clearing := none } }
def w_716 : State :=
  let s := live
  let s := { s with time := { s.time with frameNo := 65536 } }
  { s with cairn := { s.cairn with frozenAt := some 0 } }
def v_717 : Cmd := cmdOf 0x0A00 []
def w_718 : State := withCmd live v_717
def v_719 : Cmd := cmdOf 0x0A01 []
def w_720 : State :=
  let s := live
  let s := withCmd s v_719
  { s with cairn := { s.cairn with clearing := none } }
def w_721 : State :=
  let s := live
  let s := { s with cairn := { s.cairn with clearing := some default_CairnClear } }
  withCmd s v_719
def v_722 : Cmd := cmdOf 0x0A02 [0, 0, 0, 0, 0, 0, 0, 0, 0, 0, 0, 0, 1, 0]
def w_723 : State := withCmd live v_722
def v_724 : Cmd := cmdOf 0x0A02 [1, 0, 0, 0, 0, 0, 0, 0]
def w_725 : State := withCmd live v_724
def v_726 : Cmd := cmdOf 0x0A03 []
def w_727 : State := withCmd live v_726
def v_728 : Cmd := cmdOf 0x0A04 [0, 0, 0, 0, 0, 0, 0, 0, 0, 0, 0, 0, 0, 0, 0, 0, 0, 0, 0, 0, 1, 0, 0, 0]
def w_729 : State :=
  let s := live
  let s := withCmd s v_728
  let s := { s with cairn := { s.cairn with frozenAt := none } }
  let s := { s with cairn := { s.cairn with media := false } }
  { s with cairn := { s.cairn with clearing := none } }

/-- The hypotheses of the clauses of CairnRecorder are met. -/
theorem witness_CairnRecorder :
    (w_706.cairn.frozenAt ≠ none) ∧
    (w_707.cairn.clearing = none ∧ w_707.cairn.hold = [] ∧ w_707.cairn.queue = [] ∧ w_707.cairn.flush = false) ∧
    (w_708.cairn.frozenAt = none ∧ w_708.cairn.clearing = none ∧ w_708.cairn.media = true ∧ (w_708.cairn.hold ≠ [] ∨ w_708.cairn.queue ≠ [])) ∧
    (w_709.cairn.frozenAt = none ∧ w_709.cairn.clearing = none ∧ w_709.rewriteDue = false ∧ w_709.cairn.hold = [] ∧
      w_709.cairn.queue = (default_CairnRec, 1) :: (([] : List (CairnRec × Nat))) ∧ w_709.cairn.lostRun = 0 ∧ w_709.cairn.copy ≤ 1 ∧
      w_709.cairn.media = false ∧ (true ∨ true) ∧ (true ∨ true)) ∧
    (w_709.cairn.frozenAt = none ∧ w_709.cairn.clearing = none ∧ w_709.rewriteDue = false ∧ w_709.cairn.hold = [] ∧
      w_709.cairn.queue = (default_CairnRec, 1) :: (([] : List (CairnRec × Nat))) ∧ w_709.cairn.lostRun = 0 ∧ w_709.cairn.copy ≤ 1 ∧
      w_709.cairn.media = false ∧ false = false ∧ false = false ∧ true = true) ∧
    (w_710.cairn.frozenAt = none ∧ w_710.cairn.clearing = none ∧ w_710.rewriteDue = false ∧
      w_710.cairn.hold = (default_CairnRec, 1) :: (([] : List (CairnRec × Nat))) ∧ w_710.cairn.holdLost = 0 ∧
      Cairn.holdFirst w_710.cairn = true ∧ w_710.cairn.media = false ∧ true = true ∧ true = true) ∧
    (w_712.cairn.last = some v_711 ∧ v_711.dirty = true ∧ 1024 ≤ since32 w_712.frame v_711.rewrote ∧ w_712.cairn.frozenAt = none ∧
      w_712.cairn.clearing = none ∧ w_712.cairn.media = false ∧ true = true) ∧
    (w_714.cairn.last = some v_713 ∧ v_713.dirty = false) ∧
    (w_715.cairn.frozenAt = none ∧ w_715.cairn.clearing = none ∧ true = true) ∧
    ((w_706.cairn.frozenAt ≠ none ∨ w_706.cairn.clearing ≠ none)) ∧
    (default_Cairn.copy ≤ 1) ∧
    (w_716.cairn.frozenAt = some 0 ∧ 65536 ≤ since32 w_716.frame 0) ∧
    (w_706.cairn.frozenAt = some 0 ∧ since32 w_706.frame 0 < 65536) ∧
    (w_718.Ready 1 0x0A00 v_717) ∧
    (w_720.Ready 1 0x0A01 v_719 ∧ w_720.cairn.clearing = none ∧ w_720.rewriteDue = false) ∧
    (w_721.Ready 1 0x0A01 v_719 ∧ w_721.cairn.clearing ≠ none) ∧
    (w_723.Ready 1 0x0A02 v_722 ∧ v_722.u 0 8 % 32 = 0 ∧ v_722.u 12 2 ≠ 0 ∧ v_722.u 12 2 ≤ 7936 ∧ v_722.u 14 1 ≤ 3 ∧ v_722.u 15 1 ≤ 1) ∧
    (w_725.Ready 1 0x0A02 v_724 ∧ v_724.u 0 8 % 32 ≠ 0) ∧
    (w_727.Ready 1 0x0A03 v_726) ∧
    (w_729.Ready 1 0x0A04 v_728 ∧ bitAt (leAt (slice v_728.req 0 92) 20 4) 0 = true ∧ leAt (slice v_728.req 0 92) 20 4 ≤ 3 ∧
      w_729.cairn.frozenAt = none ∧ w_729.cairn.media = false ∧ w_729.cairn.clearing = none) := by
  refine ⟨?_, ?_, ?_, ?_, ?_, ?_, ?_, ?_, ?_, ?_, ?_, ?_, ?_, ?_, ?_, ?_, ?_, ?_, ?_, ?_⟩ <;> decide

def w_730 : State := live.put Fd.SCR_STATUS_UNLOCKED 1
def w_731 : State :=
  let s := live
  let s := s.put Fd.SCR_EXPIRY_FRAME 1
  s.put Fd.SCR_STATUS_UNLOCKED 1
def w_732 : State := live.put Fd.SCR_STATUS_UNLOCKED 0
def v_733 : Injection := { default_Injection with ends := some 0, kind := 1 }
def w_734 : State := { live with scree := { live.scree with injs := [{ default_Injection with kind := 1, ends := some 0 }] } }
def v_735 : Injection := { default_Injection with ends := some 1, kind := 1 }
def w_736 : State := { live with scree := { live.scree with injs := [{ default_Injection with kind := 1, ends := some 1 }] } }
def v_737 : Injection := { default_Injection with kind := 9 }
def w_738 : State :=
  let s := live
  let s := { s with scree := { s.scree with injs := [{ default_Injection with kind := 9, ends := none }] } }
  s.editPp v_737.port fun x => { x with gates := false }
def w_739 : State := { live with scree := { live.scree with bist := some default_BistRun } }
def v_740 : BistRun := { default_BistRun with cmd := 1 }
def v_741 : Cmd := cmdOf 0 []
def w_742 : State :=
  let s := live
  let s := withCmd s v_741
  let s := { s with scree := { s.scree with bist := some v_740 } }
  withCmd s v_741
def v_743 : Cmd := cmdOf 0x0B00 [0, 0, 0, 0, 0, 0, 0, 0, 0, 0, 0, 0, 0, 0, 0, 0, 0, 0, 0, 0, 0, 0, 1, 0]
def w_744 : State := withCmd live v_743
def v_745 : Cmd := cmdOf 0x0B00 []
def w_746 : State := withCmd live v_745
def v_747 : Cmd := cmdOf 0x0B01 []
def w_748 : State := withCmd live v_747
def v_749 : Cmd := cmdOf 0x0B02 [1, 1, 0, 0, 1, 0, 0, 0, 0, 0, 0, 0, 1, 0, 0, 0]
def w_750 : State :=
  let s := live
  let s := s.put (Fd.LNK_STATUS_STATE 1) 7
  let s := s.put Fd.SCR_STATUS_UNLOCKED 1
  let s := s.putBit Reg.SCR_STATUS 1 true
  let s := withCmd s v_749
  let s := s.put Fd.SCR_STATUS_UNLOCKED 1
  s.putBit Reg.SCR_STATUS 1 true
def v_751 : Cmd := cmdOf 0x0B02 [1, 6]
def w_752 : State :=
  let s := live
  let s := { s with part := .k4 }
  withCmd s v_751
def v_753 : Cmd := cmdOf 0x0B02 [1, 0, 1]
def w_754 : State :=
  let s := live
  let s := s.put (Fd.LNK_STATUS_STATE 1) 7
  let s := s.put Fd.SCR_STATUS_UNLOCKED 1
  let s := s.putBit Reg.SCR_STATUS 1 true
  let s := withCmd s v_753
  s.put Fd.SCR_STATUS_UNLOCKED 1
def w_755 : State :=
  let s := live
  let s := withCmd s v_753
  s.put Fd.SCR_STATUS_UNLOCKED 0
def v_756 : Cmd := cmdOf 0x0B03 [4, 0]
def w_757 : State :=
  let s := live
  let s := withCmd s v_756
  let s := { s with scree := { s.scree with bist := none } }
  let s := s.put Fd.PAR_LINK0_STATE 0
  s.put Fd.PAR_LINK1_STATE 0
def w_758 : State :=
  let s := live
  let s := s.put Fd.PAR_LINK0_STATE 2
  let s := withCmd s v_756
  { s with scree := { s.scree with bist := none } }
def w_759 : State :=
  let s := live
  let s := { s with scree := { s.scree with bist := some default_BistRun } }
  withCmd s v_756
def v_760 : Cmd := cmdOf 0x0B04 []
def w_761 : State := withCmd live v_760

/-- The hypotheses of the clauses of ScreeAndSelfTest are met. -/
theorem witness_ScreeAndSelfTest :
    (w_730.on Fd.SCR_STATUS_UNLOCKED = true ∧ since32 w_730.frame (w_730.get Fd.SCR_EXPIRY_FRAME) < 2 ^ 31) ∧
    (w_731.on Fd.SCR_STATUS_UNLOCKED = true ∧ 2 ^ 31 ≤ since32 w_731.frame (w_731.get Fd.SCR_EXPIRY_FRAME)) ∧
    (w_732.on Fd.SCR_STATUS_UNLOCKED = false) ∧
    (w_734.scree.inj 1 = some v_733 ∧ 1 ≠ 9 ∧ v_733.ends = some 0 ∧ since32 w_734.frame 0 < 2 ^ 31) ∧
    (w_736.scree.inj 1 = some v_735 ∧ 1 ≠ 9 ∧ v_735.ends = some 1 ∧ 2 ^ 31 ≤ since32 w_736.frame 1) ∧
    (w_738.scree.inj 9 = some v_737 ∧ 9 = 9 ∧ (w_738.pp v_737.port).gates = false) ∧
    (w_739.scree.bist = some default_BistRun ∧ w_739.findCmd default_BistRun.cmd = none ∧ bitAt default_BistRun.tests 0 = false) ∧
    (w_742.scree.bist = some v_740 ∧ w_742.findCmd v_740.cmd = some v_741) ∧
    (w_744.Ready 1 0x0B00 v_743 ∧ leAt (slice v_743.req 0 92) 20 4 % 2 = 0 ∧ leAt (slice v_743.req 0 92) 20 4 / 2 ^ 10 % 2 ^ 6 = 0 ∧
      0 < leAt (slice v_743.req 0 92) 20 4 / 2 ^ 16) ∧
    (w_746.Ready 1 0x0B00 v_745 ∧ leAt (slice v_745.req 0 92) 20 4 / 2 ^ 16 = 0) ∧
    (w_748.Ready 1 0x0B01 v_747) ∧
    (w_750.Ready 1 0x0B02 v_749 ∧ 1 ≤ 1 ∧ 1 ≤ 7 ∧ bitAt (v_749.u 2 1) 0 = false ∧
      w_750.injBad 1 (v_749.u 1 1) (v_749.u 4 4) (v_749.u 8 4) (v_749.u 12 4) = false ∧ w_750.on Fd.SCR_STATUS_UNLOCKED = true ∧
      w_750.bitOf Reg.SCR_STATUS 1 = true ∧ w_750.scree.inj 1 = none ∧ w_750.injReady 1 (v_749.u 1 1) = true) ∧
    (w_752.Ready 1 0x0B02 v_751 ∧ 1 ≤ v_751.u 0 1 ∧ v_751.u 0 1 ≤ 9 ∧ w_752.injNoPort (v_751.u 0 1) (v_751.u 1 1) = true) ∧
    (w_754.Ready 1 0x0B02 v_753 ∧ 1 ≤ v_753.u 0 1 ∧ v_753.u 0 1 ≤ 9 ∧ w_754.injNoPort (v_753.u 0 1) (v_753.u 1 1) = false ∧
      bitAt (v_753.u 2 1) 0 = true ∧ w_754.on Fd.SCR_STATUS_UNLOCKED = true ∧ w_754.bitOf Reg.SCR_STATUS (v_753.u 0 1) = true) ∧
    (w_755.Ready 1 0x0B02 v_753 ∧ 1 ≤ v_753.u 0 1 ∧ v_753.u 0 1 ≤ 9 ∧ w_755.injNoPort (v_753.u 0 1) (v_753.u 1 1) = false ∧
      bitAt (v_753.u 2 1) 0 = true ∧ w_755.on Fd.SCR_STATUS_UNLOCKED = false) ∧
    (w_757.ReadyNow 1 0x0B03 v_756 ∧ v_756.mbx < 64 ∧ v_756.u 0 2 = 4 ∧ v_756.u 2 1 < 2 ^ w_757.ports ∧ w_757.scree.bist = none ∧
      w_757.get Fd.PAR_LINK0_STATE = 0 ∧ w_757.get Fd.PAR_LINK1_STATE = 0) ∧
    (w_758.ReadyNow 1 0x0B03 v_756 ∧ v_756.mbx < 64 ∧ v_756.u 0 2 = 4 ∧ v_756.u 2 1 < 2 ^ w_758.ports ∧ w_758.scree.bist = none ∧
      w_758.get Fd.PAR_LINK0_STATE ≠ 0) ∧
    (w_759.ReadyNow 1 0x0B03 v_756 ∧ v_756.u 0 2 < 64 ∧ v_756.u 2 1 < 2 ^ w_759.ports ∧ w_759.scree.bist ≠ none ∧
      (∀ t, t < 6 → bitAt (v_756.u 0 2) t = true → w_759.bistPre t (v_756.u 2 1) = true)) ∧
    (w_761.Ready 1 0x0B04 v_760) := by
  refine ⟨?_, ?_, ?_, ?_, ?_, ?_, ?_, ?_, ?_, ?_, ?_, ?_, ?_, ?_, ?_, ?_, ?_, ?_, ?_⟩ <;> decide



/-! ### Statements about every command -/

def wPending : State := { live with pending := [.referenceReady, .hardStop] }

/-- The hypotheses of the clauses of StepRunsTheFront are met. -/
theorem witness_StepRunsTheFront : wPending.pending = .referenceReady :: [.hardStop] ∧ State.reset.pending = [] := by
  refine ⟨?_, ?_⟩ <;> decide

/-- The hypotheses of the clauses of WhoWritesWhatLasts are met, and so is that of FrameNumber. -/
theorem witness_WhoWritesWhatLasts : exec .hardStop live = .next (nx (exec .hardStop live)) ∧
    (∀ id ok code data, Instr.hardStop ≠ .pendingOutcome id ok code data) ∧ (∀ id, Instr.hardStop ≠ .fwCommit id) ∧
    (∀ id, Instr.hardStop ≠ .sysSetMgrPort id) ∧ (∀ id, Instr.hardStop ≠ .pairConfigure id) ∧ (∀ id, Instr.hardStop ≠ .pairSetNumber id) ∧
    (∀ id, Instr.hardStop ≠ .sysKeyProvision id) ∧ (∀ dt rtc, Instr.hardStop ≠ .runningSnapshot dt rtc) ∧
    (∀ dt rtc, Instr.hardStop ≠ .sleepSnapshot dt rtc) ∧ Instr.hardStop ≠ .switchStopTaking ∧ Instr.hardStop ≠ .vaoLoss := by
  refine ⟨rfl, ?_, ?_, ?_, ?_, ?_, ?_, ?_, ?_, ?_, ?_⟩ <;> (intros; intro h; cases h)

/-- The hypotheses of the clauses of BlockFrames are met. -/
theorem witness_BlockFrames : exec (.mainsSample 1 0 0 0 0) live = .next (nx (exec (.mainsSample 1 0 0 0 0) live)) ∧
    exec .tenCycleEnd live = .next (nx (exec .tenCycleEnd live)) ∧ exec (.hardReset 1) live = .next (nx (exec (.hardReset 1) live)) ∧
    exec (.headerRefresh true true true true) live = .next (nx (exec (.headerRefresh true true true true) live)) :=
  ⟨rfl, rfl, rfl, rfl⟩

/-- The hypotheses of MemoriesStayCanonical are met. -/
theorem witness_MemoriesStayCanonical : State.reset.memOk = true ∧ step State.reset = .next State.reset := ⟨by decide, rfl⟩

end Sys2Proof.Tests
end

/-! SUPPORT. Accesses of a host that no window serves (R10): bit 4 of the byte enables, which marks an ECRC error, the exec equations of the
two access commands where the size, the alignment or the byte enables are wrong, and the statement UnsupportedRequests. -/

namespace Sys2Proof.Machine

/-- A number below `2 ^ i` has bit `i` clear. -/
theorem bitAt_of_lt {v i : Nat} (h : v < 2 ^ i) : bitAt v i = false := by
  simp [bitAt, Nat.shiftRight_eq_div_pow, Nat.div_eq_of_lt h]

/-- R10, R233: a write whose TLP is sound, misaligned or with a byte disabled, is discarded and reported, whatever its window. -/
theorem exec_registerWrite_partial {be off : Nat} (s : State) (p : Side) (w : Space) (v : Nat) (hecrc : bitAt be 4 = false)
    (hbad : be % 16 ≠ 15 ∨ off % 4 ≠ 0) : exec (.registerWrite p w off be v) s = .next (s.reportUR p) := by
  change execRegisterWrite p w off be v s = _
  have hsound : ¬ (bitAt be 4 ∧ s.host.ecrcChk.contains p ∧ (w = .bar0 ∨ w = .bar2)) := by simp [hecrc]
  unfold execRegisterWrite
  rw [if_neg hsound, if_pos hbad]

/-- R10: a read of another size or misaligned is reported and answers all ones, whatever its window. -/
theorem exec_readClear_partial {off size : Nat} (s : State) (p : Side) (w : Space) (hbad : size ≠ 4 ∨ off % 4 ≠ 0) :
    exec (.readClear p w off size) s = .next (((s.replyOn p).reportUR p).answer 0xFFFFFFFF) := by
  change execReadClear p w off size s = _
  unfold execReadClear
  rw [if_pos hbad]

/-- Settles O11: byte enables below 16 mark no ECRC error and are their own low four bits, so a write goes to the size and alignment check
of R10, as a read does at once. -/
theorem unsupportedRequests : Obligations.UnsupportedRequests := by
  refine ⟨fun s p w off be v hbe hbad => ?_, fun s p w off size hbad => exec_readClear_partial s p w hbad⟩
  refine exec_registerWrite_partial s p w v (bitAt_of_lt hbe) ?_
  rwa [Nat.mod_eq_of_lt hbe]

end Sys2Proof.Machine

/-! SUPPORT. A bus reset of the port in device mode (R155): folds over the endpoints, what the change of a FULL flag and the entry of
DETECT write and what they leave, and the statement DeviceBusReset. -/

namespace Sys2Proof.Machine

/-! ### Folds over a list of numbers -/

section
variable {α β : Type} {f : α → Nat → α}

/-- What every round leaves unchanged, the fold leaves unchanged. -/
theorem foldN_unchanged (g : α → β) (h : ∀ a n, g (f a n) = g a) (a : α) (l : List Nat) : g (foldN f a l) = g a := by
  induction l generalizing a with
  | nil => rfl
  | cons n l ih => exact (ih (f a n)).trans (h a n)

/-- What round `n` sets and every round keeps holds after a fold over a list with `n` in it. -/
theorem foldN_of_mem {P : α → Nat → Prop} (hset : ∀ a n, P (f a n) n) (hkeep : ∀ a m n, P a n → P (f a m) n) (a : α)
    {l : List Nat} {n : Nat} (hn : n ∈ l) : P (foldN f a l) n := by
  induction l generalizing a with
  | nil => cases hn
  | cons m l ih =>
    rcases List.mem_cons.mp hn with rfl | hn
    · exact List.foldlRecOn l f (hset a n) fun b hb k _ => hkeep b k n hb
    · exact ih (f a m) hn

end

/-- A field of another register than the event's stands. -/
theorem setEvent_get_other (s : State) (n : Nat) (f g : Fld) (hf : f.lo ≤ f.hi) (hg : g.hi < 32) (hl : g.lo ≤ g.hi) (h : g.reg ≠ f.reg) :
    (s.setEvent n f).get g = s.get g := by
  rw [setEvent_get, get_put_other _ _ _ _ hg hf hl (.inl h)]

/-! ### Toggles and FULL flags of the endpoints (R154, R155) -/

/-- FULL lies in the register word. -/
theorem full_hi_lt (n : Nat) : (Fd.TRE_DM_EP_STAT_FULL n).hi < 32 := show 30 < 32 by decide

/-- TOGGLE lies in the register word. -/
theorem toggle_hi_lt (n : Nat) : (Fd.TRE_DM_EP_STAT_TOGGLE n).hi < 32 := show 28 < 32 by decide

theorem epStat_ne_event (n : Nat) : Reg.TRE_DM_EP_STAT n ≠ Reg.TRE_EVENT := by
  simp only [Reg.TRE_DM_EP_STAT, Reg.TRE_EVENT]; omega

theorem epStat_ne_status (n : Nat) : Reg.TRE_DM_EP_STAT n ≠ Reg.TRE_DM_STATUS := by
  simp only [Reg.TRE_DM_EP_STAT, Reg.TRE_DM_STATUS]; omega

/-- Each endpoint has a register of its own. -/
theorem epStat_ne {m n : Nat} (h : n ≠ m) : Reg.TRE_DM_EP_STAT n ≠ Reg.TRE_DM_EP_STAT m := by
  simp only [Reg.TRE_DM_EP_STAT]; omega

/-- What `dmSetFull` can do: nothing where FULL stands at the value, and otherwise it writes FULL and raises DM_XFER. -/
theorem dmSetFull_cases (s : State) (n : Nat) (v : Bool) :
    (s.dmFull n = v ∧ s.dmSetFull n v = s) ∨
    s.dmSetFull n v = ((s.put (Fd.TRE_DM_EP_STAT_FULL n) (b2n v)).editDm fun d => { d with armed := d.armed && n != 0 }).setEvent 16
      Fd.TRE_EVENT_DM_XFER := by
  unfold State.dmSetFull
  split
  · next h => exact .inl ⟨h, rfl⟩
  · exact .inr rfl

/-- A field outside FULL of the endpoint and outside TRE_EVENT stands. -/
theorem dmSetFull_get_other (s : State) (n : Nat) (v : Bool) (g : Fld) (hg : g.hi < 32) (hl : g.lo ≤ g.hi) (hev : g.reg ≠ Reg.TRE_EVENT)
    (hd : g.reg ≠ Reg.TRE_DM_EP_STAT n ∨ g.hi < 30 ∨ 30 < g.lo) : (s.dmSetFull n v).get g = s.get g := by
  rcases dmSetFull_cases s n v with ⟨-, h⟩ | h
  · rw [h]
  · rw [h, setEvent_get_other _ _ _ _ (Nat.le_refl _) hg hl hev, State.editDm_get, get_put_other _ _ _ _ hg (Nat.le_refl _) hl hd]

@[simp] theorem dmSetFull_dmFull_same (s : State) (n : Nat) (v : Bool) : (s.dmSetFull n v).dmFull n = v := by
  rcases dmSetFull_cases s n v with ⟨hv, h⟩ | h
  · rw [h, hv]
  · rw [h, State.dmFull, State.on,
      setEvent_get_other _ _ Fd.TRE_EVENT_DM_XFER _ (Nat.le_refl _) (full_hi_lt n) (Nat.le_refl _) (epStat_ne_event n), State.editDm_get,
      get_put_same _ _ _ (full_hi_lt n) (Nat.le_refl _)]
    cases v <;> rfl

theorem dmSetFull_dmFull_other (s : State) {m n : Nat} (v : Bool) (h : n ≠ m) : (s.dmSetFull m v).dmFull n = s.dmFull n := by
  have hget := dmSetFull_get_other s m v (Fd.TRE_DM_EP_STAT_FULL n) (full_hi_lt n) (Nat.le_refl _) (epStat_ne_event n)
    (.inl (epStat_ne h))
  rw [State.dmFull, State.dmFull, State.on, State.on, hget]

@[simp] theorem dmSetFull_mbx (s : State) (n : Nat) (v : Bool) : (s.dmSetFull n v).mbx = s.mbx := by
  rcases dmSetFull_cases s n v with ⟨-, h⟩ | h <;> simp [h]

/-- Of the port in device mode, only whether software filled EP0 changes. -/
theorem dmSetFull_dm (s : State) (n : Nat) (v : Bool) :
    { (s.dmSetFull n v).tree.dm with armed := false } = { s.tree.dm with armed := false } := by
  rcases dmSetFull_cases s n v with ⟨-, h⟩ | h <;> simp [h]

theorem dmToggles_dmTog (s : State) {n : Nat} (hn : n < 16) : s.dmToggles.dmTog n = 0 := by
  have hset : ∀ (t : State) (k : Nat), (t.put (Fd.TRE_DM_EP_STAT_TOGGLE k) 0).dmTog k = 0 := fun t k =>
    get_put_same t _ _ (toggle_hi_lt k) (Nat.le_refl _)
  refine foldN_of_mem (P := fun t k => t.dmTog k = 0) hset (fun t m k hk => ?_) s (List.mem_range.mpr hn)
  by_cases hkm : k = m
  · rw [hkm, hset]
  · exact (get_put_other t (Fd.TRE_DM_EP_STAT_TOGGLE m) _ _ (toggle_hi_lt k) (Nat.le_refl _) (Nat.le_refl _) (.inl (epStat_ne hkm))).trans hk

@[simp] theorem dmToggles_mbx (s : State) : s.dmToggles.mbx = s.mbx := by
  rw [State.dmToggles]
  exact foldN_unchanged State.mbx (fun t n => State.put_mbx t _ _) s _

@[simp] theorem dmToggles_tree (s : State) : s.dmToggles.tree = s.tree := by
  rw [State.dmToggles]
  exact foldN_unchanged State.tree (fun t n => State.put_tree t _ _) s _

/-- Every endpoint at DATA0 with FULL clear, as a bus reset leaves them (R155). -/
def State.dmEmptied (s : State) : State := foldN (fun t n => t.dmSetFull n false) s.dmToggles (List.range 16)

theorem dmEmptied_dmTog (s : State) {n : Nat} (hn : n < 16) : s.dmEmptied.dmTog n = 0 := by
  have hkeep : ∀ (t : State) (m : Nat), (t.dmSetFull m false).dmTog n = t.dmTog n := fun t m =>
    dmSetFull_get_other t m false (Fd.TRE_DM_EP_STAT_TOGGLE n) (toggle_hi_lt n) (Nat.le_refl _) (epStat_ne_event n)
      (.inr (.inl (show 28 < 30 by decide)))
  exact (foldN_unchanged (fun t : State => t.dmTog n) hkeep _ _).trans (dmToggles_dmTog s hn)

theorem dmEmptied_dmFull (s : State) {n : Nat} (hn : n < 16) : s.dmEmptied.dmFull n = false := by
  refine foldN_of_mem (P := fun t k => t.dmFull k = false) (fun t k => dmSetFull_dmFull_same t k false) (fun t m k hk => ?_) _
    (List.mem_range.mpr hn)
  by_cases hkm : k = m
  · rw [hkm, dmSetFull_dmFull_same]
  · rw [dmSetFull_dmFull_other _ _ hkm, hk]

@[simp] theorem dmEmptied_mbx (s : State) : s.dmEmptied.mbx = s.mbx :=
  (foldN_unchanged State.mbx (fun t n => dmSetFull_mbx t n false) _ _).trans (dmToggles_mbx s)

theorem dmEmptied_dm (s : State) : { s.dmEmptied.tree.dm with armed := false } = { s.tree.dm with armed := false } := by
  have h := foldN_unchanged (fun t : State => { t.tree.dm with armed := false }) (fun t n => dmSetFull_dm t n false) s.dmToggles
    (List.range 16)
  rwa [dmToggles_tree] at h

/-! ### The link of the port in device mode enters DETECT (R101, R155) -/

/-- A change of the link's state touches, of the port in device mode, only the wake and what the SOF gives. -/
theorem linkTo_frame (d : DevMode) (old st : Nat) :
    d.linkTo old st =
      { d with signalled := (d.linkTo old st).signalled, ready := (d.linkTo old st).ready, wake := (d.linkTo old st).wake
               lastSof := (d.linkTo old st).lastSof, strobeAt := (d.linkTo old st).strobeAt
               lastStrobe := (d.linkTo old st).lastStrobe } := by
  unfold DevMode.linkTo
  dsimp only
  split <;> split <;> rfl

theorem isDm_iff (s : State) (p : Nat) : s.isDm p = true ↔ s.tree.dm.on = true ∧ s.tree.dm.port = p := by simp [State.isDm]

/-- The entry of DETECT by the port in device mode. -/
theorem enterDetect_of_isDm {s : State} {p : Nat} (h : s.isDm p = true) :
    s.enterDetect p =
      ((((s.editDm fun d => d.linkTo (s.linkState p) 1).put (Fd.LNK_STATUS_STATE p) 1).put Fd.TRE_DM_STATUS_SUSPENDED 0).put
        (Fd.LNK_STATUS_INVERTED p) 0).editLp p fun l => { l.cleared with inverted := false } := by
  unfold State.enterDetect State.setLink
  rw [if_pos h, if_pos h]
  rfl

theorem enterDetect_dm {s : State} {p : Nat} (h : s.isDm p = true) :
    (s.enterDetect p).tree.dm = s.tree.dm.linkTo (s.linkState p) 1 := by
  rw [enterDetect_of_isDm h]
  rfl

theorem enterDetect_mbx {s : State} {p : Nat} (h : s.isDm p = true) : (s.enterDetect p).mbx = s.mbx := by
  rw [enterDetect_of_isDm h]
  rfl

/-- A field outside LNK_STATUS of the port and outside SUSPENDED stands. -/
theorem enterDetect_get_other {s : State} {p : Nat} (h : s.isDm p = true) (g : Fld) (hg : g.hi < 32) (hl : g.lo ≤ g.hi)
    (hlnk : g.reg ≠ Reg.LNK_STATUS p) (hsus : g.reg ≠ Reg.TRE_DM_STATUS ∨ g.hi < 14 ∨ 14 < g.lo) :
    (s.enterDetect p).get g = s.get g := by
  rw [enterDetect_of_isDm h, State.editLp_get, get_put_other _ _ _ _ hg (Nat.le_refl _) hl (.inl hlnk),
    get_put_other _ _ _ _ hg (Nat.le_refl _) hl hsus, get_put_other _ _ _ _ hg (Nat.zero_le _) hl (.inl hlnk), State.editDm_get]

/-! ### The bus reset (R155) -/

/-- The port in device mode with its control transfer and what its frame held dropped. -/
def DevMode.dropped (d : DevMode) : DevMode :=
  { d with setup := [], refused := false, stage := .setup, reply := [], moved := 0, sentLen := 0, addrNext := none, armed := false
           token := none, await := none, groups := [], lastSof := none, strobeAt := none, lastStrobe := none, samples := [] }

/-- The state of a bus reset before the link enters DETECT: nothing in progress, the endpoints emptied, address 0, unconfigured. -/
def State.dmUnaddressed (s : State) : State :=
  ((s.editDm DevMode.dropped).dmEmptied.put Fd.TRE_DM_STATUS_ADDRESS 0).put Fd.TRE_DM_STATUS_CONFIGURED 0

theorem exec_dmBusReset {s : State} (h : s.tree.dm.on = true) :
    exec .dmBusReset s = .next ((s.dmUnaddressed.enterDetect s.tree.dm.port).setEvent 16 Fd.TRE_EVENT_DM_RESET) := by
  change execDmBusReset s = _
  exact congrArg Host.Outcome.next (if_neg (not_not_intro h))

theorem dmUnaddressed_dm (s : State) : { s.dmUnaddressed.tree.dm with armed := false } = s.tree.dm.dropped :=
  dmEmptied_dm (s.editDm DevMode.dropped)

@[simp] theorem dmUnaddressed_mbx (s : State) : s.dmUnaddressed.mbx = s.mbx := dmEmptied_mbx (s.editDm DevMode.dropped)

theorem dmUnaddressed_isDm {s : State} (h : s.tree.dm.on = true) : s.dmUnaddressed.isDm s.tree.dm.port = true :=
  (isDm_iff _ _).mpr ⟨(congrArg DevMode.on (dmUnaddressed_dm s)).trans h, (congrArg DevMode.port (dmUnaddressed_dm s) :)⟩

theorem dmUnaddressed_get_stat (s : State) (n : Nat) (g : Fld) (hreg : g.reg = Reg.TRE_DM_EP_STAT n) (hg : g.hi < 32) (hl : g.lo ≤ g.hi) :
    s.dmUnaddressed.get g = (s.editDm DevMode.dropped).dmEmptied.get g := by
  have hne : g.reg ≠ Reg.TRE_DM_STATUS := hreg ▸ epStat_ne_status n
  rw [State.dmUnaddressed, get_put_other _ _ _ _ hg (Nat.le_refl _) hl (.inl hne), get_put_other _ _ _ _ hg (Nat.zero_le _) hl (.inl hne)]

theorem dmUnaddressed_dmTog (s : State) {n : Nat} (hn : n < 16) : s.dmUnaddressed.dmTog n = 0 :=
  (dmUnaddressed_get_stat s n _ rfl (toggle_hi_lt n) (Nat.le_refl _)).trans (dmEmptied_dmTog _ hn)

theorem dmUnaddressed_dmFull (s : State) {n : Nat} (hn : n < 16) : s.dmUnaddressed.dmFull n = false := by
  rw [State.dmFull, State.on, dmUnaddressed_get_stat s n (Fd.TRE_DM_EP_STAT_FULL n) rfl (full_hi_lt n) (Nat.le_refl _)]
  exact dmEmptied_dmFull _ hn

theorem dmUnaddressed_dmAddr (s : State) : s.dmUnaddressed.dmAddr = 0 := by
  rw [State.dmAddr, State.dmUnaddressed, get_put_other _ _ _ _ (by decide) (by decide) (by decide) (.inr (.inl (by decide))),
    get_put_same _ _ _ (by decide) (by decide), Nat.zero_mod]

theorem dmUnaddressed_configured (s : State) : s.dmUnaddressed.get Fd.TRE_DM_STATUS_CONFIGURED = 0 :=
  get_put_same _ _ _ (by decide) (by decide)

/-- While the link enters DETECT and DM_RESET rises, a field of the device-mode registers other than SUSPENDED stands. -/
theorem dmBusReset_get_other {s : State} {p : Nat} (h : s.isDm p = true) (hp : p < 8) (g : Fld) (hg : g.hi < 32) (hl : g.lo ≤ g.hi)
    (hreg : Reg.TRE_DM_CTRL ≤ g.reg) (hsus : g.reg ≠ Reg.TRE_DM_STATUS ∨ g.hi < 14 ∨ 14 < g.lo) :
    ((s.enterDetect p).setEvent 16 Fd.TRE_EVENT_DM_RESET).get g = s.get g := by
  have hev : g.reg ≠ Reg.TRE_EVENT := by simp only [Reg.TRE_DM_CTRL, Reg.TRE_EVENT] at *; omega
  have hlnk : g.reg ≠ Reg.LNK_STATUS p := by simp only [Reg.TRE_DM_CTRL, Reg.LNK_STATUS] at *; omega
  rw [setEvent_get_other _ _ _ _ (Nat.le_refl _) hg hl hev, enterDetect_get_other h g hg hl hlnk hsus]

/-- Settles O41: the reset is the drop of the control transfer, the emptying of the endpoints and the clearing of address and configuration;
the entry of DETECT (log entry 96) and the event that follow write LNK_STATUS, SUSPENDED and TRE_EVENT, and none of what the reset has set. -/
theorem deviceBusReset : Obligations.DeviceBusReset := by
  intro s hon hp
  have hdm := dmUnaddressed_isDm hon
  have hdrop := dmUnaddressed_dm s
  have hctrl : ∀ n, Reg.TRE_DM_CTRL ≤ Reg.TRE_DM_EP_STAT n := fun n => by simp only [Reg.TRE_DM_CTRL, Reg.TRE_DM_EP_STAT]; omega
  refine ⟨_, exec_dmBusReset hon, ?_, fun n hn => ?_, ⟨?_, ?_⟩, fun n hn => ?_, ?_, ?_, ?_⟩
  · rw [setEvent_tree, enterDetect_dm hdm, linkTo_frame]
    exact ⟨congrArg DevMode.setup hdrop, congrArg DevMode.reply hdrop, congrArg DevMode.stage hdrop, congrArg DevMode.moved hdrop,
      congrArg DevMode.addrNext hdrop⟩
  · rw [← dmUnaddressed_dmTog s hn]
    exact dmBusReset_get_other hdm hp (Fd.TRE_DM_EP_STAT_TOGGLE n) (toggle_hi_lt n) (Nat.le_refl _) (hctrl n) (.inl (epStat_ne_status n))
  · rw [← dmUnaddressed_dmAddr s]
    exact dmBusReset_get_other hdm hp Fd.TRE_DM_STATUS_ADDRESS (by decide) (by decide) (by decide) (.inr (.inl (by decide)))
  · rw [← dmUnaddressed_configured s]
    exact dmBusReset_get_other hdm hp Fd.TRE_DM_STATUS_CONFIGURED (by decide) (by decide) (by decide) (.inr (.inl (by decide)))
  · rw [← dmUnaddressed_dmFull s hn, State.dmFull, State.dmFull, State.on, State.on,
      dmBusReset_get_other hdm hp (Fd.TRE_DM_EP_STAT_FULL n) (full_hi_lt n) (Nat.le_refl _) (hctrl n) (.inl (epStat_ne_status n))]
  · rw [setEvent_get]
    exact get_put_same _ _ _ (by decide) (by decide)
  · rw [setEvent_tree, enterDetect_dm hdm, linkTo_frame]
    exact (congrArg DevMode.buf hdrop :)
  · rw [setEvent_mbx, enterDetect_mbx hdm, dmUnaddressed_mbx]

end Sys2Proof.Machine

/-! SUPPORT. The link maps on the path of a device, and what a service adds to each map (R190, R192). -/

namespace Sys2Proof.Machine

theorem mem_bothDirections_iff {m : MapRef} {k n : Nat} :
    m ∈ [({ kind := k, up := false, num := n } : MapRef), { kind := k, up := true, num := n }] ↔ m.kind = k ∧ m.num = n := by
  obtain ⟨kind, up, num⟩ := m
  cases up <;> simp

/-- R192: each direction of the root link, of the upstream link of every hub of tier 2 or more on the path (the device itself, where it is
one), and of the leaf link of a device below a hub. -/
theorem mem_linkMaps_iff {s : State} {a : Nat} {d : Device} (hd : s.dev a = some d) (m : MapRef) :
    m ∈ s.linkMaps a ↔
      (m.kind = 1 ∧ m.num = d.link.port) ∨
      (m.kind = 2 ∧ (m.num ∈ s.pathOf d.link ∨ d.isHub = true ∧ m.num = a) ∧ ∃ x, s.dev m.num = some x ∧ 2 ≤ x.tier) ∨
      (m.kind = 3 ∧ m.num = a ∧ d.isHub = false ∧ 2 ≤ d.tier) := by
  simp only [State.linkMaps, hd, List.mem_append, List.mem_flatMap, List.mem_filter, List.mem_ite_nil_right, List.mem_singleton,
    mem_bothDirections_iff, Bool.and_eq_true, Bool.not_eq_true', decide_eq_true_eq, or_assoc]
  refine or_congr_right (or_congr ⟨?_, ?_⟩ (and_comm.trans and_assoc))
  · rintro ⟨h, ⟨hon, htier⟩, hkind, rfl⟩
    cases hx : s.dev m.num with
    | none => simp [hx] at htier
    | some x => exact ⟨hkind, hon, x, rfl, by simpa [hx] using htier⟩
  · rintro ⟨hkind, hon, x, hx, htier⟩
    exact ⟨m.num, ⟨hon, by simpa [hx] using htier⟩, hkind, rfl⟩

theorem linkMaps_of_dev_none {s : State} {a : Nat} (hd : s.dev a = none) : s.linkMaps a = [] := by
  rw [State.linkMaps, hd]

/-- A link map is none of the two maps kept for the whole block. -/
theorem kind_of_mem_linkMaps {s : State} {a : Nat} {m : MapRef} (hm : m ∈ s.linkMaps a) : m.kind = 1 ∨ m.kind = 2 ∨ m.kind = 3 := by
  cases hd : s.dev a with
  | none => simp [linkMaps_of_dev_none hd] at hm
  | some d => exact ((mem_linkMaps_iff hd m).mp hm).imp And.left (Or.imp And.left And.left)

theorem mapCost_of_mem_linkMaps {s : State} {a : Nat} {m : MapRef} (hm : m ∈ s.linkMaps a) (c : Nat × Nat) (w : Nat) :
    mapCost m c w = if m.up then c.2 else c.1 := by
  rcases kind_of_mem_linkMaps hm with hk | hk | hk <;> simp only [mapCost, hk]

/-- Settles O44: the costs are the rows of R190's table; a map on the path is of kind 1, 2 or 3, so that it takes the cost of its own
direction, and the maps of the root link, of the hubs and of the leaf are the three cases of the path. -/
theorem serviceCosts : Obligations.ServiceCosts := by
  refine ⟨fun _ _ => ⟨rfl, rfl, rfl, rfl⟩, fun s q m => ⟨rfl, rfl, rfl, fun hm => mapCost_of_mem_linkMaps hm _ _⟩, fun s a d up hd => ?_⟩
  refine ⟨?root, fun h x hh hx ht => ?hub, fun hleaf ht => ?leaf⟩
  case root => exact (mem_linkMaps_iff hd _).mpr (.inl ⟨rfl, rfl⟩)
  case hub => exact (mem_linkMaps_iff hd _).mpr (.inr (.inl ⟨rfl, .inl hh, x, hx, ht⟩))
  case leaf => exact (mem_linkMaps_iff hd _).mpr (.inr (.inr ⟨rfl, rfl, hleaf, ht⟩))

end Sys2Proof.Machine
